-- ==== Sys2Proof/Word.lean ====
section
/-! DEFINITION. The word types of the NQ8 (spec/00_scope.md, Conventions): bytes, numbers, tags, times, and the
small fixed ranges of cranes, gangs, lanes and stations. -/

namespace Sys2Proof

/-- One byte of either port. -/
abbrev Byte := BitVec 8

/-- A ticket number (1-65534 in a record; 0 and 0xFFFF name none). -/
abbrev TicketNo := BitVec 16

/-- A task number as both ports carry it (0xFFFF for none). -/
abbrev TaskNo := BitVec 16

/-- A truck tag (1-16777214 in a record). -/
abbrev Tag := BitVec 24

/-- A quay time in whole seconds. -/
abbrev Secs := BitVec 32

/-- A vessel bay (1-127 in a record; 0 where a position is unknown). -/
abbrev Bay := BitVec 8

/-- Cranes C0 to C7. -/
abbrev Crane := Fin 8

/-- Gangs G0 to G3. -/
abbrev Gang := Fin 4

/-- Lanes L0 to L5. -/
abbrev Lane := Fin 6

/-- Station numbers 0 to 15 of the quay link. -/
abbrev Station := Fin 16

/-- A container ID: eleven ASCII bytes, four letters then seven digits. -/
abbrev ContainerId := List Byte

end Sys2Proof
end

