-- ==== Sys2Proof/Syntax.lean ====
section
/-! DEFINITION. The commands and events of the NQ8: one constructor of `Instr` per row of spec/opcode_table.json. -/

namespace Sys2Proof

/-- A frame as it stands in a quay-link event: the station and class its header names and its body (spec/07, 7.2).
The kind is the constructor's. -/
structure Frame where
  station : Station
  cls     : BitVec 2
  body    : List Byte
deriving DecidableEq, Repr

/-- What becomes of an order the transmitter begins (R156, R174): it is sent whole, loses arbitration, or meets a bit
error after the station field. -/
inductive SendOutcome where
  | sent | lost | bitError
deriving DecidableEq, Repr

/-- The rows of spec/opcode_table.json.

Host commands (status … clearTables, emptyTransaction, unassignedCommand) carry what the host clocks after the command
byte; `Machine/Port.lean` says how they run from any state of the port (log 1).  Frame events carry a frame that has
arrived (log 18). -/
inductive Instr where
  -- pins and framing
  | powerOn
  | pinReset
  | chipSelectFall
  | emptyTransaction
  | unassignedCommand (code : Byte) (bytes : List Byte)
  | transactionTimeout (byteInProgress : Bool)
  -- reads
  | status
  | readTicket (number : TicketNo)
  | find (after : TicketNo) (states cranes : Byte) (container : List Byte)
  | readCrane (crane : Byte)
  | readStand (crane : Byte)
  | readHolding (place : Byte)
  | readGang (gang : Byte)
  | readTask (task : TaskNo)
  | readClaims
  | readStation (station : Byte)
  | readRule (slot : Byte)
  | readClock
  | readNotices
  | readConfig
  -- ticket writes
  | load (body : List Byte)
  | amend (body : List Byte)
  | release (body : List Byte)
  | hold (body : List Byte)
  | cancel (body : List Byte)
  | retire (body : List Byte)
  | forceDone (number : TicketNo) (expect : Option Byte)
  | forceBack (number : TicketNo) (expect : Option Byte)
  -- crane, lane, truck, gang and rule writes
  | craneHalt (body : List Byte)
  | craneResume (body : List Byte)
  | craneMode (body : List Byte)
  | laneSet (body : List Byte)
  | truckVerify (body : List Byte)
  | truckRemove (body : List Byte)
  | gangDuty (body : List Byte)
  | gangServe (body : List Byte)
  | gangRoster (body : List Byte)
  | gangClear (body : List Byte)
  | ruleWrite (body : List Byte)
  -- clock, notice, mode and configuration writes
  | clockSet (body : List Byte)
  | clockAdjust (body : List Byte)
  | clockRun
  | clockStop
  | noticeClear (body : List Byte)
  | noticeEnable (body : List Byte)
  | modeSetRun
  | modeSetConfig
  | modeSetMonitor
  | configWrite (body : List Byte)
  | partition (body : List Byte)
  | clearTables
  -- frames from stations
  | hello (f : Frame)
  | ask (f : Frame)
  | standby (f : Frame)
  | position (f : Frame)
  | lockOn (f : Frame)
  | setDown (f : Frame)
  | abandon (f : Frame)
  | manual (f : Frame)
  | auto (f : Frame)
  | arrive (f : Frame)
  | depart (f : Frame)
  | deckRequest (f : Frame)
  | taskDone (f : Frame)
  | offDeck (f : Frame)
  | lookupTicket (f : Frame)
  | lookupContainer (f : Frame)
  | lookupTag (f : Frame)
  | discardedFrame (raw : List Byte)
  | reply (f : Frame)
  -- events of the part's own
  | replyWindowClose
  | orderSend (outcome : SendOutcome)
  | timeBaseStep
  | grantExpiry (crane : Crane)
  | ticketLate (number : TicketNo)
  | craneStarved (crane : Crane)
  | shiftBoundary
  -- framing, continued in the table's order
  | byteTaken (mosi : Byte)
  | chipSelectRise
  | resetEnd
deriving DecidableEq, Repr

end Sys2Proof
end

