-- ==== Sys2Proof/WellFormed.lean ====
section
/-! DEFINITION. Which terms of `Instr` are events that the wires can carry: a frame's body has at most 24 bytes
(R157), a LOOKUP's selector is one of them, and FIND's container parameter has eleven bytes (R183). -/

namespace Sys2Proof

/-- The longest body a frame may have (spec/07, 7.2). -/
abbrev maxFrameBody : Nat := 24

/-- A frame whose length field can state its body. -/
abbrev Frame.wf (f : Frame) : Bool := f.body.length ≤ maxFrameBody

/-- A LOOKUP's value: the selector byte stands before it. -/
abbrev Frame.wfLookup (f : Frame) : Bool := f.body.length + 1 ≤ maxFrameBody

/-- The events the wires can carry.  Every other term has a meaning too (it is what its bytes are on the wire). -/
def Instr.wf : Instr → Bool
  | .find _ _ _ container => container.length == 11
  | .hello f | .ask f | .standby f | .position f | .lockOn f | .setDown f | .abandon f | .manual f | .auto f
  | .arrive f | .depart f | .deckRequest f | .taskDone f | .offDeck f | .reply f => f.wf
  | .lookupTicket f | .lookupContainer f | .lookupTag f => f.wfLookup
  | .unassignedCommand code _ =>
      -- a code the table of 11.2 assigns to no command
      !((0x01 ≤ code && code ≤ 0x0E) || (0x20 ≤ code && code ≤ 0x26) || (0x30 ≤ code && code ≤ 0x32)
        || (0x38 ≤ code && code ≤ 0x3A) || (0x40 ≤ code && code ≤ 0x43) || code == 0x48
        || (0x50 ≤ code && code ≤ 0x53) || code == 0x58 || code == 0x59 || (0x60 ≤ code && code ≤ 0x63))
  | .powerOn | .pinReset | .chipSelectFall | .emptyTransaction | .transactionTimeout _ | .status | .readTicket _
  | .readCrane _ | .readStand _ | .readHolding _ | .readGang _ | .readTask _ | .readClaims | .readStation _
  | .readRule _ | .readClock | .readNotices | .readConfig | .load _ | .amend _ | .release _ | .hold _ | .cancel _
  | .retire _ | .forceDone _ _ | .forceBack _ _ | .craneHalt _ | .craneResume _ | .craneMode _ | .laneSet _
  | .truckVerify _ | .truckRemove _ | .gangDuty _ | .gangServe _ | .gangRoster _ | .gangClear _ | .ruleWrite _
  | .clockSet _ | .clockAdjust _ | .clockRun | .clockStop | .noticeClear _ | .noticeEnable _ | .modeSetRun
  | .modeSetConfig | .modeSetMonitor | .configWrite _ | .partition _ | .clearTables | .discardedFrame _
  | .replyWindowClose | .orderSend _ | .timeBaseStep | .grantExpiry _ | .ticketLate _ | .craneStarved _
  | .shiftBoundary | .byteTaken _ | .chipSelectRise | .resetEnd => true

end Sys2Proof
end

