-- ==== Sys2Proof/Config.lean ====
section
/-! DEFINITION. What the spec leaves free: constants with no body, read at a counter held in the state (log 31), so that
nothing in Lean can know their values. -/

namespace Sys2Proof.Config

/-- The order in which several waiting cranes' selection passes are taken in one change (R37, R42): at each consultation
the cranes go in ascending key (log 4). -/
opaque passKey : Nat → Crane → Nat

/-- Whether a promotion check is made before the selection passes of the same change (log 5). -/
opaque promotionFirst : Nat → Bool

/-- R154: whether the Ticket Table takes a GRANTED ticket's deadline before its grant's expiry, when one change of quay
time reaches both (log 6). -/
opaque deadlineFirst : Nat → TicketNo → Bool

/-- R97: whether a rule whose tag_lo lies above its tag_hi is reported at the offset of tag_hi (5) or of tag_lo (2)
(log 9). -/
opaque tagOrderAtHi : Bool

end Sys2Proof.Config
end

