-- ==== Sys2Proof/Machine/State.lean ====
section
/-! DEFINITION. The state of the NQ8, block by block as spec/00_scope.md names them, and its value after reset (R220 and
the reset rule of each chapter). -/

namespace Sys2Proof.Machine

/-! ## Tickets (spec/01_move_tickets.md, 1.1) -/

/-- The states of a ticket in the table; a FREE slot holds no ticket (1.2, R3). -/
inductive TicketState where
  | held | pending | granted | lifting | done | cancelled | failed
deriving DecidableEq, Repr

inductive Kind where
  | discharge | load | restow | hatch
deriving DecidableEq, Repr

inductive Level where
  | deck | hold
deriving DecidableEq, Repr

inductive Size where
  | s20 | s40 | s45
deriving DecidableEq, Repr

inductive Lash where
  | none | unlashBefore | lashAfter
deriving DecidableEq, Repr

/-- R7. -/
inductive LashState where
  | notNeeded | awaiting | cleared | reserved | linked | lashed
deriving DecidableEq, Repr

/-- The wait reasons (1.1, R5, R39). -/
inductive Reason where
  | none | sequence | twin | lash | truck | truckUnverified | deck | clearance | taskPool | crane
deriving DecidableEq, Repr

/-- R6. -/
structure Marks where
  halted : Bool := false
  missed : Bool := false
  fault  : Bool := false
  late   : Bool := false
  manual : Bool := false
  forced : Bool := false
deriving DecidableEq, Repr

structure Ticket where
  number     : TicketNo
  crane      : Crane
  seq        : BitVec 16
  kind       : Kind
  bay        : Bay
  row        : Byte
  tier       : Byte
  level      : Level
  container  : Option ContainerId
  size       : Size
  partner    : Option TicketNo
  lash       : Lash
  lashState  : LashState
  task       : Option TaskNo
  priority   : Fin 4
  oneShot    : Bool
  deadline   : Option Secs
  state      : TicketState
  marks      : Marks
  reason     : Reason
  attempts   : Fin 8
  truck      : Option Tag
  lane       : Option Lane
  releasedAt : Option Secs
  grantedAt  : Option Secs
  doneAt     : Option Secs
deriving DecidableEq, Repr

/-! ## Quay time (spec/06, 6.1) -/

/-- A quay time in seconds and sixteenths. -/
structure QTime where
  secs : Secs
  six  : BitVec 4
deriving DecidableEq, Repr

structure Clock where
  time       : QTime
  running    : Bool
  shiftIndex : BitVec 4   -- one-hot
deriving DecidableEq, Repr

/-! ## Cranes (spec/02, 2.1) -/

inductive WorkState where
  | idle | waiting | granted | lifting
deriving DecidableEq, Repr

inductive Control where
  | auto | manual
deriving DecidableEq, Repr

inductive SeqMode where
  | strict | priority
deriving DecidableEq, Repr

structure CraneRec where
  work           : WorkState
  control        : Control
  seqMode        : SeqMode
  oneShot        : Bool
  halt           : Bool
  grantTicket    : Option TicketNo
  grantPartner   : Option TicketNo
  grantBay       : Option Bay
  grantTruck     : Option Tag
  grantLane      : Option Lane
  due            : Option QTime
  lastExpired    : Option (TicketNo × Option TicketNo)
  position       : Bay
  starveStart    : Option QTime
  starveReported : Bool
  grantId        : Option Nat   -- own (log 15): which grant it is (R54)
  liftStay       : Option Nat   -- own (log 15): the stay of the entry a LOAD lock-on left (R47)
deriving DecidableEq, Repr

/-! ## Bay claims (spec/03, 3.1) -/

inductive Standing where
  | clearing | confirmed
deriving DecidableEq, Repr

structure GangClaim where
  bay      : Bay
  standing : Standing
deriving DecidableEq, Repr

structure BayClaims where
  craneClaims : Vector (Option Bay) 8
  gangClaims  : Vector (Option GangClaim) 4
  waiters     : List (Gang × Bay)   -- oldest first
deriving DecidableEq, Repr

/-! ## Trucks (spec/04, 4.2, 4.5) -/

inductive Chassis where
  | s20 | s40 | x45 | twin
deriving DecidableEq, Repr

inductive TruckState where
  | waiting | bound | departing
deriving DecidableEq, Repr

structure Truck where
  tag        : Tag
  lane       : Option Lane          -- absent in holding
  chassis    : Chassis
  cargo      : List ContainerId
  unverified : Bool
  priority   : Bool
  state      : TruckState
  joinedAt   : Secs
  arrivedAt  : Secs
  targets    : BitVec 8
  arrival    : Nat   -- own (log 15): place in the order of arrival (R99)
  stay       : Nat   -- own (log 15): its present stay in a stand (R47, R104)
deriving DecidableEq, Repr

inductive CargoCond where
  | any | empty | laden
deriving DecidableEq, Repr

inductive RuleAction where
  | cranes | hold | reject | priority
deriving DecidableEq, Repr

/-- A routing rule slot; a cleared rule has no cargo condition and no action (R98, 11.1). -/
structure Rule where
  enabled : Bool
  tagLo   : Tag
  tagHi   : Tag
  chassis : BitVec 4
  cond    : Option CargoCond
  owner   : List Byte
  action  : Option RuleAction
  mask    : BitVec 8
deriving DecidableEq, Repr

structure Stands where
  stands    : Vector (List Truck) 8   -- each in stand order
  holding   : List Truck              -- oldest first
  openLanes : BitVec 6
  rules     : List Rule               -- slot n is place n; RULE_SLOTS places
  arrivals  : Nat                     -- own (log 15)
  stays     : Nat                     -- own (log 15)
  promotionDue : Bool                 -- own (log 5): a promotion check is owed in this change (R100)
deriving DecidableEq, Repr

/-! ## Gangs and tasks (spec/05, 5.1, 5.2) -/

inductive Activity where
  | idle | assigned | waitDeck | onDeck
deriving DecidableEq, Repr

structure GangRec where
  onDuty    : Bool
  activity  : Activity
  reliefDue : Bool
  served    : BitVec 8
  roster    : BitVec 4
  tasks     : List TaskNo
deriving DecidableEq, Repr

inductive TaskKind where
  | unlash | lash
deriving DecidableEq, Repr

/-- The states of a task in the pool; a free slot holds no task. -/
inductive TaskState where
  | opened | queued | dispatched | active
deriving DecidableEq, Repr

structure Task where
  number  : TaskNo
  kind    : TaskKind
  bay     : Bay
  crane   : Crane
  linked  : Nat
  state   : TaskState
  created : BitVec 32
deriving DecidableEq, Repr

structure Lashing where
  gangs    : Vector GangRec 4
  tasks    : List Task          -- ascending number
  reserved : Nat
  creation : BitVec 32
deriving DecidableEq, Repr

/-! ## Quay link (spec/07, 7.4, 7.6) -/

structure StationRec where
  online : Bool
  fails  : Fin 4
  heard  : Bool
deriving DecidableEq, Repr

/-- The content of an order (R159).  GRANT and WITHDRAW carry the identity of their grant (R54, R170), PROMOTE that of
the stay it began (log 16); none of the three travels on the line. -/
inductive OrderBody where
  | grant (ticket : TicketNo) (partner : Option TicketNo) (bay : Bay) (row tier : Byte) (tag : Option Tag)
      (lane : Option Lane) (grantId : Nat)
  | withdraw (ticket : TicketNo) (partner : Option TicketNo) (grantId : Nat)
  | dispatch (task : TaskNo) (kind : TaskKind) (bay : Bay) (crane : Crane)
  | deckClear (task : TaskNo) (bay : Bay)
  | recall (task : TaskNo)
  | promote (tag : Tag) (crane : Crane) (lane : Lane) (stay : Nat)
deriving DecidableEq, Repr

structure Order where
  body      : OrderBody
  attempts  : Nat
  inFlight  : Bool
  queueTime : QTime
deriving DecidableEq, Repr

structure Slot where
  current  : Option Order
  upcoming : Option Order   -- the "next" order of R169
deriving DecidableEq, Repr

structure Link where
  stations   : Vector StationRec 16
  craneSlots : Vector Slot 8
  gangSlots  : Vector Slot 4
  promotes   : List Order          -- oldest at the head
  window     : Option Station      -- own (log 28): the addressee whose reply window is open
  sent       : Option (List Byte)  -- own (log 28): the frame last sent in the last link event, if any
deriving DecidableEq, Repr

/-! ## Notices (spec/09) -/

structure Notices where
  raw    : BitVec 16
  enable : BitVec 16
deriving DecidableEq, Repr

/-! ## Mode and configuration (spec/10) -/

inductive Mode where
  | config | run | monitor
deriving DecidableEq, Repr

structure Params where
  clear         : Nat
  deckMargin    : Nat
  laneSets      : Vector (BitVec 6) 8
  grantTime     : Nat
  attemptLimit  : Nat
  starveTime    : Nat
  holdDepth     : Nat
  holdMark      : Nat
  poolMark      : Nat
  lenient       : Bool     -- TAG_POLICY
  dualCycle     : Bool
  routeReject   : Bool     -- DEFAULT_ROUTE
  autoRetire    : Bool
  shiftLength   : Nat
  shiftCount    : Nat
  shiftOrigin   : Secs
deriving DecidableEq, Repr

/-- The partition of record memory (10.5). -/
structure Sizes where
  ticketSlots : Nat
  taskSlots   : Nat
  ruleSlots   : Nat
deriving DecidableEq, Repr

/-- Every record of the part but the planning port's own. -/
structure Berth where
  mode    : Mode
  params  : Params
  sizes   : Sizes
  clock   : Clock
  tickets : List Ticket          -- ascending number
  cranes  : Vector CraneRec 8
  bct     : BayClaims
  shu     : Stands
  ltu     : Lashing
  qlc     : Link
  nu      : Notices
  grants  : Nat                  -- own (log 15): how many grants and picks have been made
  free    : Nat                  -- own (log 31): where the free values are read
deriving DecidableEq, Repr

/-! ## Planning port (spec/08) -/

inductive PortState where
  | idle | command | parameter | window | staging | discard | abandoned
deriving DecidableEq, Repr

inductive ResultCode where
  | ok | stale | unknown | duplicateNumber | duplicateContainer | poolFull | taskPoolFull | badField | wrongState
  | halted | twinMismatch | truckPresent | notRunning | notConfig | occupied | partitionInvalid | badCommand | timeout
deriving DecidableEq, Repr

/-- R193. -/
structure Result where
  code    : ResultCode
  command : Byte
  entity  : BitVec 16
  detail  : Byte
  mode    : Mode
  free    : BitVec 16
deriving DecidableEq, Repr

structure Port where
  inReset    : Bool               -- RESET is asserted, or the power-on reset has not ended (R220)
  selected   : Bool               -- chip select is low
  state      : PortState
  command    : Byte               -- the command byte of the open transaction, 0x00 before it is complete
  params     : List Byte
  staged     : List Byte
  snapshot   : Option (List Byte)
  position   : Nat
  timer      : Bool               -- the transaction timer runs
  modeAtFall : Mode
  miso       : Option Byte        -- what the last byte shifted out; none while MISO is released
  misoHeld   : Option Byte        -- the value of a byte in progress when the timer expired (R182)
  result     : Result
deriving DecidableEq, Repr

/-! ## What passes between the blocks within one change -/

/-- Causes of withdrawal (R50). -/
inductive Cause where
  | expiry | undelivered | truckGone | promoteFailed | hold (n : TicketNo) | cancel (n : TicketNo) | halt | manual
  | offline
deriving DecidableEq, Repr

/-- How an order's attempt ends (R175). -/
inductive AttemptEnd where
  | accepted | refused | noReply
deriving DecidableEq, Repr

inductive ReplyCode where
  | accept | wait | holdArea | refused
deriving DecidableEq, Repr

inductive ReplyReason where
  | none | notRunning | unknown | notGranted | expired | halted | manualMode | blocked | holdingFull | rejected
  | duplicateTag | unverified | wrongState | noTarget | wrongStation
deriving DecidableEq, Repr

/-- R167. -/
structure Reply where
  code   : ReplyCode
  reason : ReplyReason
  data   : List Byte
deriving DecidableEq, Repr

/-- What an owner gives the result record (R194). -/
structure Res where
  code   : ResultCode
  entity : BitVec 16
  detail : Byte
deriving DecidableEq, Repr

/-- The ticket, or the twin pair with the lower number first, that a selection examines (R38). -/
structure Candidate where
  lead  : Ticket
  other : Option Ticket
deriving DecidableEq, Repr

structure State where
  pending : List Instr            -- events that wait, first in first out
  port    : Port
  berth   : Berth
deriving DecidableEq, Repr

/-- No event stops the part (INVENTORY.md, Faults): no meaning raises a fault.  Safe: nothing is hidden behind one. -/
inductive Fault where
deriving DecidableEq, Repr

inductive Refusal where
  /-- Raised only by an arm of `exec` that has no meaning yet, by its mnemonic.  Safe: such a step is no next state. -/
  | notModelled (mnemonic : String)
deriving DecidableEq, Repr

/-! ## Reset (R220) -/

/-- R31. -/
def CraneRec.reset : CraneRec where
  work := .idle
  control := .auto
  seqMode := .strict
  oneShot := false
  halt := false
  grantTicket := none
  grantPartner := none
  grantBay := none
  grantTruck := none
  grantLane := none
  due := none
  lastExpired := none
  position := 0
  starveStart := none
  starveReported := false
  grantId := none
  liftStay := none

/-- R114. -/
def GangRec.reset : GangRec where
  onDuty := false
  activity := .idle
  reliefDue := false
  served := 0xFF
  roster := 0xF
  tasks := []

/-- A cleared rule: disabled, with every field zero (R98). -/
def Rule.cleared : Rule where
  enabled := false
  tagLo := 0
  tagHi := 0
  chassis := 0
  cond := none
  owner := []
  action := none
  mask := 0

/-- R214's defaults. -/
def Params.reset : Params where
  clear := 2
  deckMargin := 1
  laneSets := Vector.replicate 8 0x3F
  grantTime := 90
  attemptLimit := 3
  starveTime := 120
  holdDepth := 16
  holdMark := 12
  poolMark := 16
  lenient := false
  dualCycle := false
  routeReject := false
  autoRetire := false
  shiftLength := 480
  shiftCount := 3
  shiftOrigin := 0

def Slot.empty : Slot := { current := none, upcoming := none }

/-- R161. -/
def StationRec.reset : StationRec := { online := false, fails := 0, heard := false }

def Berth.reset : Berth where
  mode := .config
  params := Params.reset
  sizes := { ticketSlots := 1024, taskSlots := 128, ruleSlots := 32 }
  clock := { time := { secs := 0, six := 0 }, running := false, shiftIndex := 1 }
  tickets := []
  cranes := Vector.replicate 8 CraneRec.reset
  bct := { craneClaims := Vector.replicate 8 none, gangClaims := Vector.replicate 4 none, waiters := [] }
  shu := { stands := Vector.replicate 8 [], holding := [], openLanes := 0x3F, rules := List.replicate 32 Rule.cleared,
           arrivals := 0, stays := 0, promotionDue := false }
  ltu := { gangs := Vector.replicate 4 GangRec.reset, tasks := [], reserved := 0, creation := 0 }
  qlc := { stations := Vector.replicate 16 StationRec.reset, craneSlots := Vector.replicate 8 Slot.empty,
           gangSlots := Vector.replicate 4 Slot.empty, promotes := [], window := none, sent := none }
  nu := { raw := 0, enable := 0 }
  grants := 0
  free := 0

/-- R197. -/
def Port.reset : Port where
  inReset := false
  selected := false
  state := .idle
  command := 0
  params := []
  staged := []
  snapshot := none
  position := 0
  timer := false
  modeAtFall := .config
  miso := none
  misoHeld := none
  result := { code := .ok, command := 0, entity := 0, detail := 0, mode := .config, free := 1024 }

/-- The part as its reset ends, with chip select high and no event waiting (R220, R197; log 2). -/
def State.reset : State where
  pending := []
  port := Port.reset
  berth := Berth.reset

end Sys2Proof.Machine
end

