-- ==== Sys2Proof/Machine/Operands.lean ====
section
/-! DEFINITION. Bytes and fields: the byte orders, code tables, container forms, check sequence and absence encodings
of spec/11_record_and_message_layouts.md and spec/07_quay_link.md, 7.2. -/

namespace Sys2Proof.Machine

/-! ## Bytes -/

/-- Most significant byte first (spec/00, Conventions). -/
def bytes16 (x : BitVec 16) : List Byte := [x.extractLsb' 8 8, x.extractLsb' 0 8]

def bytes24 (x : BitVec 24) : List Byte := [x.extractLsb' 16 8, x.extractLsb' 8 8, x.extractLsb' 0 8]

def bytes32 (x : BitVec 32) : List Byte :=
  [x.extractLsb' 24 8, x.extractLsb' 16 8, x.extractLsb' 8 8, x.extractLsb' 0 8]

def natByte (n : Nat) : Byte := BitVec.ofNat 8 n

def nat16 (n : Nat) : List Byte := bytes16 (BitVec.ofNat 16 n)

def boolByte (b : Bool) : Byte := if b then 1 else 0

def zeros (n : Nat) : List Byte := List.replicate n 0

def ones (n : Nat) : List Byte := List.replicate n 0xFF

/-- Byte `i` of a body; the callers read only bytes that the body has. -/
def byteAt (l : List Byte) (i : Nat) : Byte := l.getD i 0

def word16At (l : List Byte) (i : Nat) : BitVec 16 := byteAt l i ++ byteAt l (i + 1)

def word24At (l : List Byte) (i : Nat) : BitVec 24 := (byteAt l i ++ byteAt l (i + 1)) ++ byteAt l (i + 2)

def word32At (l : List Byte) (i : Nat) : BitVec 32 := word16At l i ++ word16At l (i + 2)

def slice (l : List Byte) (i n : Nat) : List Byte := (l.drop i).take n

/-- A window of `n` bytes: the content, and zero in every byte that no field defines (R221). -/
def window (n : Nat) (content : List Byte) : List Byte := (content ++ zeros n).take n

/-! ## Small numbers -/

def craneOf? (x : Byte) : Option Crane := if h : x.toNat < 8 then some ⟨x.toNat, h⟩ else none

def gangOf? (x : Byte) : Option Gang := if h : x.toNat < 4 then some ⟨x.toNat, h⟩ else none

def laneOf? (x : Byte) : Option Lane := if h : x.toNat < 6 then some ⟨x.toNat, h⟩ else none

def stationOf? (x : Byte) : Option Station := if h : x.toNat < 16 then some ⟨x.toNat, h⟩ else none

def finByte {n : Nat} (i : Fin n) : Byte := natByte i.val

def fin16 {n : Nat} (i : Fin n) : BitVec 16 := BitVec.ofNat 16 i.val

/-- Bit `i` of a set carried as a mask. -/
def inSet {n : Nat} (m : BitVec n) (i : Nat) : Bool := m.getLsbD i

/-! ## Code tables (11.1) -/

def TicketState.code : TicketState → Byte
  | .held => 1 | .pending => 2 | .granted => 3 | .lifting => 4 | .done => 5 | .cancelled => 6 | .failed => 7

def Kind.code : Kind → Byte
  | .discharge => 0 | .load => 1 | .restow => 2 | .hatch => 3

def kindOf? (x : Byte) : Option Kind :=
  if x = 0 then some .discharge else if x = 1 then some .load else if x = 2 then some .restow
  else if x = 3 then some .hatch else none

def Size.code : Size → Byte
  | .s20 => 20 | .s40 => 40 | .s45 => 45

def sizeOf? (x : Byte) : Option Size :=
  if x = 20 then some .s20 else if x = 40 then some .s40 else if x = 45 then some .s45 else none

def Level.code : Level → Byte
  | .deck => 0 | .hold => 1

def levelOf? (x : Byte) : Option Level := if x = 0 then some .deck else if x = 1 then some .hold else none

def Lash.code : Lash → Byte
  | .none => 0 | .unlashBefore => 1 | .lashAfter => 2

def lashOf? (x : Byte) : Option Lash :=
  if x = 0 then some .none else if x = 1 then some .unlashBefore else if x = 2 then some .lashAfter else none

def LashState.code : LashState → Byte
  | .notNeeded => 0 | .awaiting => 1 | .cleared => 2 | .reserved => 3 | .linked => 4 | .lashed => 5

def Marks.code (m : Marks) : Byte :=
  boolByte m.halted + 2 * boolByte m.missed + 4 * boolByte m.fault + 8 * boolByte m.late + 16 * boolByte m.manual
    + 32 * boolByte m.forced

def Reason.code : Reason → Byte
  | .none => 0 | .sequence => 1 | .twin => 2 | .lash => 3 | .truck => 4 | .truckUnverified => 5 | .deck => 6
  | .clearance => 7 | .taskPool => 8 | .crane => 9

def WorkState.code : WorkState → Byte
  | .idle => 0 | .waiting => 1 | .granted => 2 | .lifting => 3

def Control.code : Control → Byte
  | .auto => 0 | .manual => 1

def controlOf? (x : Byte) : Option Control := if x = 0 then some .auto else if x = 1 then some .manual else none

def SeqMode.code : SeqMode → Byte
  | .strict => 0 | .priority => 1

def seqModeOf? (x : Byte) : Option SeqMode := if x = 0 then some .strict else if x = 1 then some .priority else none

def boolOf? (x : Byte) : Option Bool := if x = 0 then some false else if x = 1 then some true else none

def Chassis.code : Chassis → Byte
  | .s20 => 0 | .s40 => 1 | .x45 => 2 | .twin => 3

def chassisOf (x : BitVec 2) : Chassis := if x = 0 then .s20 else if x = 1 then .s40 else if x = 2 then .x45 else .twin

def TruckState.code : TruckState → Byte
  | .waiting => 1 | .bound => 2 | .departing => 3

def Activity.code : Activity → Byte
  | .idle => 0 | .assigned => 1 | .waitDeck => 2 | .onDeck => 3

def TaskState.code : TaskState → Byte
  | .opened => 1 | .queued => 2 | .dispatched => 3 | .active => 4

def TaskKind.code : TaskKind → Byte
  | .unlash => 0 | .lash => 1

def Standing.code : Standing → Byte
  | .clearing => 1 | .confirmed => 2

def CargoCond.code : CargoCond → Byte
  | .any => 1 | .empty => 2 | .laden => 3

def condOf? (x : Byte) : Option CargoCond :=
  if x = 1 then some .any else if x = 2 then some .empty else if x = 3 then some .laden else none

def RuleAction.code : RuleAction → Byte
  | .cranes => 1 | .hold => 2 | .reject => 3 | .priority => 4

def actionOf? (x : Byte) : Option RuleAction :=
  if x = 1 then some .cranes else if x = 2 then some .hold else if x = 3 then some .reject
  else if x = 4 then some .priority else none

def Mode.code : Mode → Byte
  | .config => 1 | .run => 2 | .monitor => 3

def modeOf? (x : Byte) : Option Mode :=
  if x = 1 then some .config else if x = 2 then some .run else if x = 3 then some .monitor else none

def ResultCode.code : ResultCode → Byte
  | .ok => 0 | .stale => 1 | .unknown => 2 | .duplicateNumber => 3 | .duplicateContainer => 4 | .poolFull => 5
  | .taskPoolFull => 6 | .badField => 7 | .wrongState => 8 | .halted => 9 | .twinMismatch => 10 | .truckPresent => 11
  | .notRunning => 12 | .notConfig => 13 | .occupied => 14 | .partitionInvalid => 15 | .badCommand => 16
  | .timeout => 17

def ReplyCode.code : ReplyCode → Byte
  | .accept => 0 | .wait => 1 | .holdArea => 2 | .refused => 3

def ReplyReason.code : ReplyReason → Byte
  | .none => 0 | .notRunning => 1 | .unknown => 2 | .notGranted => 3 | .expired => 4 | .halted => 5 | .manualMode => 6
  | .blocked => 7 | .holdingFull => 8 | .rejected => 9 | .duplicateTag => 10 | .unverified => 11 | .wrongState => 12
  | .noTarget => 13 | .wrongStation => 14

/-! ## Absence (spec/00 Conventions; 11) -/

def ticketBytes (o : Option TicketNo) : List Byte := bytes16 (o.getD 0)

def taskBytes (o : Option TaskNo) : List Byte := bytes16 (o.getD 0xFFFF)

def tagBytes (o : Option Tag) : List Byte := bytes24 (o.getD 0)

def laneByte (o : Option Lane) : Byte := o.elim 0xFF finByte

def secsBytes (o : Option Secs) : List Byte := bytes32 (o.getD 0xFFFFFFFF)

def qtimeBytes (o : Option QTime) : List Byte :=
  match o with
  | none => ones 5
  | some q => bytes32 q.secs ++ [q.six.setWidth 8]

def bayByte (o : Option Bay) : Byte := o.getD 0

def containerBytes (o : Option ContainerId) : List Byte := o.getD (zeros 11)

/-- A partner field: 0 is absent (R1). -/
def partnerOf (x : TicketNo) : Option TicketNo := if x = 0 then none else some x

def deadlineOf (x : Secs) : Option Secs := if x = 0xFFFFFFFF then none else some x

/-- A tag of 0 in a LOCK_ON is no tag (11.5). -/
def tagOf? (x : Tag) : Option Tag := if x = 0 then none else some x

/-! ## Container IDs -/

def isLetter (x : Byte) : Bool := 0x41 ≤ x && x ≤ 0x5A

def isDigit (x : Byte) : Bool := 0x30 ≤ x && x ≤ 0x39

/-- Four capital letters and seven digits, as eleven ASCII bytes (R1). -/
def isContainerId (l : List Byte) : Bool := l.length == 11 && (l.take 4).all isLetter && (l.drop 4).all isDigit

/-- The planning port's form: eleven zero bytes for absent, or a well-formed ID; anything else is malformed (R1). -/
def containerOf? (l : List Byte) : Option (Option ContainerId) :=
  if l = zeros 11 then some none else if isContainerId l then some (some l) else none

def highDigit (x : Byte) : Byte := (x >>> 4) + 0x30

def lowDigit (x : Byte) : Byte := (x &&& 0x0F) + 0x30

/-- The eleven characters of a link-form ID (R159); none when it is malformed. -/
def linkContainer? (l : List Byte) : Option ContainerId :=
  let id := l.take 4 ++ [highDigit (byteAt l 4), lowDigit (byteAt l 4), highDigit (byteAt l 5), lowDigit (byteAt l 5),
    highDigit (byteAt l 6), lowDigit (byteAt l 6), highDigit (byteAt l 7)]
  if l.length = 8 ∧ isContainerId id ∧ byteAt l 7 &&& 0x0F = 0x0F then some id else none

/-! ## Frames (R157, R158) -/

/-- One shift of the check register. -/
def crcShift (r : BitVec 16) : BitVec 16 := if r.msb then (r <<< 1) ^^^ 0x1021 else r <<< 1

def crcByte (r : BitVec 16) (x : Byte) : BitVec 16 :=
  crcShift (crcShift (crcShift (crcShift (crcShift (crcShift (crcShift (crcShift (r ^^^ (x ++ (0 : Byte))))))))))

/-- R158. -/
def checkSequence (l : List Byte) : BitVec 16 := l.foldl crcByte 0xFFFF

/-- A whole frame: header, length, body and check sequence (R157, 11.5). -/
def frameBytes (cls : BitVec 2) (station : Station) (kind : Byte) (body : List Byte) : List Byte :=
  let head := [(cls ++ BitVec.ofNat 4 station.val) ++ (0 : BitVec 2), kind, natByte body.length]
  head ++ body ++ bytes16 (checkSequence (head ++ body))

/-! Kind codes (11.5). -/

def kindHello : Byte := 0x01
def kindAsk : Byte := 0x02
def kindStandby : Byte := 0x03
def kindPosition : Byte := 0x04
def kindLockOn : Byte := 0x05
def kindSetDown : Byte := 0x06
def kindAbandon : Byte := 0x07
def kindManual : Byte := 0x08
def kindAuto : Byte := 0x09
def kindArrive : Byte := 0x10
def kindDepart : Byte := 0x11
def kindDeckRequest : Byte := 0x18
def kindTaskDone : Byte := 0x19
def kindOffDeck : Byte := 0x1A
def kindLookup : Byte := 0x20
def kindReply : Byte := 0x30

/-- The kind of an order (R159, 11.5). -/
def OrderBody.kind : OrderBody → Byte
  | .grant .. => 0x40 | .withdraw .. => 0x41 | .dispatch .. => 0x42 | .deckClear .. => 0x43 | .recall .. => 0x44
  | .promote .. => 0x45

/-- The body of an order on the line (R159, 11.5). -/
def OrderBody.bytes : OrderBody → List Byte
  | .grant ticket partner bay row tier tag lane _ =>
      bytes16 ticket ++ ticketBytes partner ++ [bay, row, tier] ++ tagBytes tag ++ [laneByte lane]
  | .withdraw ticket partner _ => bytes16 ticket ++ ticketBytes partner
  | .dispatch task kind bay crane => bytes16 task ++ [kind.code, bay, finByte crane]
  | .deckClear task bay => bytes16 task ++ [bay]
  | .recall task => bytes16 task
  | .promote tag crane lane _ => bytes24 tag ++ [finByte crane, finByte lane]

def Reply.bytes (r : Reply) : List Byte := [r.code.code, r.reason.code] ++ r.data

/-- The frame of a reply to a station (R160, R167). -/
def Reply.frame (r : Reply) (station : Station) : List Byte := frameBytes 0 station kindReply r.bytes

def accept (data : List Byte := []) : Reply := { code := .accept, reason := .none, data }

def refuse (reason : ReplyReason) (data : List Byte := []) : Reply := { code := .refused, reason, data }

/-! ## Quay time (R52, R147, R152) -/

/-- The quay time counted in sixteenths, modulo 2^36. -/
def QTime.bits (q : QTime) : BitVec 36 := q.secs ++ q.six

def QTime.ofBits (x : BitVec 36) : QTime := { secs := x.extractLsb' 4 32, six := x.extractLsb' 0 4 }

/-- Later by a whole number of seconds. -/
def QTime.addSecs (q : QTime) (n : Nat) : QTime := { q with secs := q.secs + BitVec.ofNat 32 n }

/-- The half-range rule of R52: `now` less `due`, modulo 2^36, is below 2^35. -/
def QTime.reached (due now : QTime) : Bool := (now.bits - due.bits).toNat < 2 ^ 35

/-- The half-range rule of R28, in seconds. -/
def secsReached (due now : Secs) : Bool := (now - due).toNat < 2 ^ 31

/-- The shift number (R149). -/
def shiftNumber (p : Params) (secs : Secs) : Int := (secs - p.shiftOrigin).toInt / (p.shiftLength * 60 : Nat)

/-- The shift index as a number (R149). -/
def shiftIndexNo (p : Params) (secs : Secs) : Nat := (shiftNumber p secs % (p.shiftCount : Nat)).toNat

/-- The shift index, one-hot (R149). -/
def shiftOneHot (p : Params) (secs : Secs) : BitVec 4 := BitVec.ofNat 4 (2 ^ shiftIndexNo p secs)

/-- The number a one-hot index stands for. -/
def oneHotNo (x : BitVec 4) : Nat := if x = 1 then 0 else if x = 2 then 1 else if x = 4 then 2 else 3

end Sys2Proof.Machine
end

