-- ==== Sys2Proof/Machine/Ops.lean ====
section
/-! DEFINITION. The named operations over the records: reading and changing one record of a block, and the counts that
rules define over them.  The NQ8 has no addressed memory; record memory is seen only through the records (log 27). -/

namespace Sys2Proof.Machine

/-! ## Fixed orders -/

def allCranes : List Crane := [0, 1, 2, 3, 4, 5, 6, 7]

def allGangs : List Gang := [0, 1, 2, 3]

def allLanes : List Lane := [0, 1, 2, 3, 4, 5]

/-- One place of a fixed store changed. -/
def modAt {α : Type} {n : Nat} (v : Vector α n) (i : Fin n) (f : α → α) : Vector α n := v.set i.val (f v[i]) i.isLt

/-- Insertion into an ascending list. -/
def insertBy {α : Type} (le : α → α → Bool) (x : α) : List α → List α
  | [] => [x]
  | y :: ys => if le x y then x :: y :: ys else y :: insertBy le x ys

def sortBy {α : Type} (le : α → α → Bool) (l : List α) : List α := l.foldr (insertBy le) []

/-- The first of the least elements of a list. -/
def firstLeast {α : Type} (lt : α → α → Bool) : List α → Option α
  | [] => none
  | x :: xs => match firstLeast lt xs with
    | none => some x
    | some y => if lt y x then some y else some x

/-- The place of the first element that meets a test, counted from 1; 0 for none. -/
def placeOf {α : Type} (p : α → Bool) : List α → Nat
  | [] => 0
  | x :: xs => if p x then 1 else match placeOf p xs with
    | 0 => 0
    | k + 1 => k + 2

/-! ## Tickets -/

def Berth.now (b : Berth) : QTime := b.clock.time

def Berth.nowSecs (b : Berth) : Secs := b.clock.time.secs

/-- The ticket of a non-FREE slot by number (R3). -/
def Berth.ticket? (b : Berth) (n : TicketNo) : Option Ticket := b.tickets.find? (fun t => t.number == n)

/-- Change the tickets that meet a test, each in its slot. -/
def Berth.modTicketsIf (b : Berth) (p : Ticket → Bool) (f : Ticket → Ticket) : Berth :=
  { b with tickets := b.tickets.map fun t => if p t then f t else t }

/-- Change the ticket with a number, if there is one. -/
def Berth.modTicket (b : Berth) (n : TicketNo) (f : Ticket → Ticket) : Berth := b.modTicketsIf (fun t => t.number == n) f

def Berth.modTickets (b : Berth) (ns : List TicketNo) (f : Ticket → Ticket) : Berth :=
  b.modTicketsIf (fun t => ns.contains t.number) f

/-- A FREE slot takes a ticket. -/
def Berth.addTicket (b : Berth) (t : Ticket) : Berth :=
  { b with tickets := insertBy (fun x y => x.number.toNat ≤ y.number.toNat) t b.tickets }

/-- The slot is freed (R3). -/
def Berth.dropTicket (b : Berth) (n : TicketNo) : Berth :=
  { b with tickets := b.tickets.filter fun t => t.number != n }

def TicketState.live : TicketState → Bool
  | .held | .pending | .granted | .lifting => true
  | .done | .cancelled | .failed => false

/-- The container index (R26): the live ticket that holds an ID. -/
def Berth.indexed? (b : Berth) (id : ContainerId) : Option Ticket :=
  b.tickets.find? fun t => t.state.live && t.container == some id

/-- R27. -/
def Berth.freeTickets (b : Berth) : Nat := b.sizes.ticketSlots - b.tickets.length

/-- The PENDING tickets of a crane, ascending number. -/
def Berth.pendingOf (b : Berth) (c : Crane) : List Ticket :=
  b.tickets.filter fun t => t.crane == c && t.state == .pending

/-- R36: CRANE is written to every PENDING ticket of a crane. -/
def Berth.craneReasons (b : Berth) (c : Crane) : Berth :=
  b.modTicketsIf (fun t => t.crane == c && t.state == .pending) fun t => { t with reason := .crane }

/-! ## Cranes, gangs, stations -/

def Berth.crane (b : Berth) (c : Crane) : CraneRec := b.cranes[c]

def Berth.modCrane (b : Berth) (c : Crane) (f : CraneRec → CraneRec) : Berth := { b with cranes := modAt b.cranes c f }

def Berth.gang (b : Berth) (g : Gang) : GangRec := b.ltu.gangs[g]

def Berth.modGang (b : Berth) (g : Gang) (f : GangRec → GangRec) : Berth :=
  { b with ltu := { b.ltu with gangs := modAt b.ltu.gangs g f } }

def craneStation (c : Crane) : Station := ⟨c.val, by omega⟩

def gangStation (g : Gang) : Station := ⟨10 + g.val, by omega⟩

def gateIn : Station := 8

def gateOut : Station := 9

def Berth.station (b : Berth) (s : Station) : StationRec := b.qlc.stations[s]

def Berth.online (b : Berth) (s : Station) : Bool := (b.station s).online

def Berth.modStation (b : Berth) (s : Station) (f : StationRec → StationRec) : Berth :=
  { b with qlc := { b.qlc with stations := modAt b.qlc.stations s f } }

/-- The tickets of a crane's grant record (R43). -/
def CraneRec.lift (r : CraneRec) : List TicketNo := r.grantTicket.toList ++ r.grantPartner.toList

/-- The grant record and the due time emptied (R43). -/
def CraneRec.emptied (r : CraneRec) : CraneRec :=
  { r with grantTicket := none, grantPartner := none, grantBay := none, grantTruck := none, grantLane := none,
           due := none, grantId := none, liftStay := none }

/-- A waiting period begins (R61). -/
def CraneRec.startWaiting (r : CraneRec) (now : QTime) : CraneRec :=
  { r with work := .waiting, starveStart := some now, starveReported := false }

/-- The crane is IDLE; a waiting period ends (R61). -/
def CraneRec.goIdle (r : CraneRec) : CraneRec := { r with work := .idle, starveStart := none }

/-! ## Tasks -/

def Berth.task? (b : Berth) (n : TaskNo) : Option Task := b.ltu.tasks.find? fun t => t.number == n

def Berth.modTask (b : Berth) (n : TaskNo) (f : Task → Task) : Berth :=
  { b with ltu := { b.ltu with tasks := b.ltu.tasks.map fun t => if t.number == n then f t else t } }

/-- The slot is freed (R117). -/
def Berth.dropTask (b : Berth) (n : TaskNo) : Berth :=
  { b with ltu := { b.ltu with tasks := b.ltu.tasks.filter fun t => t.number != n } }

/-- R116: TASK_SLOTS minus used minus reserved. -/
def Berth.freeTasks (b : Berth) : Nat := b.sizes.taskSlots - b.ltu.tasks.length - b.ltu.reserved

/-- R117: one creation sequence is before another. -/
def createdBefore (x y : Task) : Bool := x.created != y.created && (y.created - x.created).toNat < 2 ^ 31

/-- The open-task order (R117). -/
def Berth.openTasks (b : Berth) : List Task :=
  sortBy (fun x y => !createdBefore y x) (b.ltu.tasks.filter fun t => t.state == .opened)

/-- The least number from `n` that names no task, among `fuel` numbers. -/
def lowestFree (tasks : List Task) : Nat → Nat → Option TaskNo
  | 0, _ => none
  | fuel + 1, n =>
    if tasks.any fun t => t.number.toNat == n then lowestFree tasks fuel (n + 1) else some (BitVec.ofNat 16 n)

/-- R217: the number of task slots within record memory. -/
def Sizes.taskSlotsWithin (z : Sizes) : Nat := min z.taskSlots (1600 - z.ticketSlots - z.ruleSlots)

def Sizes.sum (z : Sizes) : Nat := z.ticketSlots + z.taskSlots + z.ruleSlots

/-- The lowest-numbered free slot that lies within record memory (R117, R217). -/
def Berth.freeTaskSlot (b : Berth) : Option TaskNo := lowestFree b.ltu.tasks b.sizes.taskSlotsWithin 0

/-- A new OPEN task in a slot (R117). -/
def Berth.createTask (b : Berth) (n : TaskNo) (kind : TaskKind) (bay : Bay) (crane : Crane) (linked : Nat) : Berth :=
  { b with ltu := { b.ltu with
      tasks := insertBy (fun x y => x.number.toNat ≤ y.number.toNat)
        { number := n, kind, bay, crane, linked, state := .opened, created := b.ltu.creation } b.ltu.tasks
      creation := b.ltu.creation + 1 } }

/-- One task slot reserved by a grant (R124). -/
def Berth.reserve (b : Berth) : Berth := { b with ltu := { b.ltu with reserved := b.ltu.reserved + 1 } }

def Berth.unreserve (b : Berth) : Berth := { b with ltu := { b.ltu with reserved := b.ltu.reserved - 1 } }

/-- The first task of a gang's list (R117). -/
def Berth.firstTask (b : Berth) (g : Gang) : Option Task := (b.gang g).tasks.head?.bind b.task?

/-! ## Trucks -/

def Berth.stand (b : Berth) (c : Crane) : List Truck := b.shu.stands[c]

def Berth.modStand (b : Berth) (c : Crane) (f : List Truck → List Truck) : Berth :=
  { b with shu := { b.shu with stands := modAt b.shu.stands c f } }

/-- Change the stand entries of a crane that meet a test, in their places. -/
def Berth.modEntries (b : Berth) (c : Crane) (p : Truck → Bool) (f : Truck → Truck) : Berth :=
  b.modStand c fun l => l.map fun t => if p t then f t else t

/-- Where the entry with a tag stands (R106). -/
inductive Place where
  | stand (c : Crane) (t : Truck)
  | holding (place : Nat) (t : Truck)
deriving DecidableEq, Repr

def Berth.standOf? (b : Berth) (tag : Tag) : Option (Crane × Truck) :=
  allCranes.findSome? fun c => ((b.stand c).find? fun t => t.tag == tag).map fun t => (c, t)

def Berth.findTruck (b : Berth) (tag : Tag) : Option Place :=
  match b.standOf? tag with
  | some (c, t) => some (.stand c t)
  | none => (b.shu.holding.find? fun t => t.tag == tag).map fun t =>
      .holding (placeOf (fun u => u.tag == tag) b.shu.holding) t

/-- An order's tag, where it is a PROMOTE. -/
def OrderBody.promoteTag : OrderBody → Option Tag
  | .promote tag .. => some tag
  | _ => none

/-- 4.2: a PROMOTE order naming the tag is on the promote queue. -/
def Berth.promoting (b : Berth) (tag : Tag) : Bool := b.qlc.promotes.any fun o => o.body.promoteTag == some tag

/-- The number of stand entries that are promoting. -/
def Berth.promotingCount (b : Berth) : Nat :=
  (allCranes.map fun c => ((b.stand c).filter fun t => b.promoting t.tag).length).sum

/-- The holding occupancy (R94). -/
def Berth.occupancy (b : Berth) : Nat := b.shu.holding.length + b.promotingCount

/-- R83: the crane's station is ONLINE, its halt flag is clear and its control is AUTO. -/
def Berth.takesTrucks (b : Berth) (c : Crane) : Bool :=
  b.online (craneStation c) && !(b.crane c).halt && (b.crane c).control == .auto

/-- R83. -/
def Berth.spotAvailable (b : Berth) (c : Crane) (l : Lane) : Bool :=
  !((b.stand c).any fun t => t.lane == some l) && inSet b.params.laneSets[c] l.val && inSet b.shu.openLanes l.val

/-- The lowest-numbered available lane of a crane (R83). -/
def Berth.lowestLane (b : Berth) (c : Crane) : Option Lane := allLanes.find? (b.spotAvailable c)

/-- A promotion check is owed (R100; log 5). -/
def Berth.owePromotion (b : Berth) : Berth := { b with shu := { b.shu with promotionDue := true } }

/-! ## The Bay Claim Table (spec/03) -/

/-- The absolute difference of two bay numbers is at most DECK_MARGIN (R66). -/
def Berth.withinMargin (b : Berth) (x y : Bay) : Bool :=
  x.toNat ≤ y.toNat + b.params.deckMargin && y.toNat ≤ x.toNat + b.params.deckMargin

def Berth.craneClaim (b : Berth) (c : Crane) : Option Bay := b.bct.craneClaims[c]

def Berth.gangClaim (b : Berth) (g : Gang) : Option GangClaim := b.bct.gangClaims[g]

def Berth.setCraneClaim (b : Berth) (c : Crane) (x : Option Bay) : Berth :=
  { b with bct := { b.bct with craneClaims := modAt b.bct.craneClaims c fun _ => x } }

def Berth.setGangClaim (b : Berth) (g : Gang) (x : Option GangClaim) : Berth :=
  { b with bct := { b.bct with gangClaims := modAt b.bct.gangClaims g fun _ => x } }

/-- The deck test for a crane claim passes (R66). -/
def Berth.deckFree (b : Berth) (bay : Bay) : Bool :=
  (allGangs.all fun g => (b.gangClaim g).all fun k => !b.withinMargin k.bay bay)
    && b.bct.waiters.all fun w => !b.withinMargin w.2 bay

/-- The nearest crane of a list, nearest first, with a known position and no claim (R68). -/
def Berth.nearestPosition (b : Berth) (cs : List Crane) : Option Bay :=
  (cs.find? fun d => (b.crane d).position != 0 && (b.craneClaim d).isNone).map fun d => (b.crane d).position

/-- The clearance test for a crane claim passes (R67, R68); a crane that holds a claim is refused another (R69). -/
def Berth.clearanceFree (b : Berth) (c : Crane) (bay : Bay) : Bool :=
  (b.craneClaim c).isNone
    && (allCranes.all fun d => (b.craneClaim d).all fun x =>
        (!(d.val < c.val) || x.toNat + b.params.clear ≤ bay.toNat)
          && (!(c.val < d.val) || bay.toNat + b.params.clear ≤ x.toNat))
    && ((b.nearestPosition (allCranes.reverse.filter fun d => d.val < c.val)).all fun x =>
        x.toNat + b.params.clear ≤ bay.toNat)
    && (b.nearestPosition (allCranes.filter fun d => c.val < d.val)).all fun x =>
        bay.toNat + b.params.clear ≤ x.toNat

/-- A gang claim may be added at a bay (R70, R71, R73): no crane claim lies within DECK_MARGIN of it and no gang claim
stands at it. -/
def Berth.gangMayClaim (b : Berth) (bay : Bay) : Bool :=
  (allCranes.all fun c => (b.craneClaim c).all fun x => !b.withinMargin x bay)
    && allGangs.all fun g => (b.gangClaim g).all fun k => k.bay != bay

def Berth.isWaiter (b : Berth) (g : Gang) : Bool := b.bct.waiters.any fun w => w.1 == g

def Berth.removeWaiter (b : Berth) (g : Gang) : Berth :=
  { b with bct := { b.bct with waiters := b.bct.waiters.filter fun w => w.1 != g } }

/-! ## The order board (R169 to R171) -/

/-- A WITHDRAW names the grant of a GRANT; a RECALL names the task of a DISPATCH (R170, R171). -/
def OrderBody.cancels : OrderBody → OrderBody → Bool
  | .withdraw _ _ k, .grant _ _ _ _ _ _ _ k' => k == k'
  | .recall t, .dispatch t' _ _ _ => t == t'
  | _, _ => false

/-- The WITHDRAW or RECALL that names an order's own grant or task (R170, R171). -/
def OrderBody.canceller : OrderBody → Option OrderBody
  | .grant t p _ _ _ _ _ k => some (.withdraw t p k)
  | .dispatch t _ _ _ => some (.recall t)
  | _ => none

def freshOrder (body : OrderBody) (now : QTime) : Order := { body, attempts := 0, inFlight := false, queueTime := now }

/-- R170, R171. -/
def Slot.post (s : Slot) (body : OrderBody) (now : QTime) : Slot :=
  match s.current with
  | none => { s with current := some (freshOrder body now) }
  | some cur =>
    if cur.inFlight then
      match s.upcoming with
      | none => { s with upcoming := some (freshOrder body now) }
      | some nxt =>
        if body.cancels nxt.body then { s with upcoming := cur.body.canceller.map (freshOrder · now) }
        else { s with upcoming := some (freshOrder body now) }
    else if body.cancels cur.body then Slot.empty
    else { s with current := some (freshOrder body now) }

def Berth.postCrane (b : Berth) (c : Crane) (body : OrderBody) : Berth :=
  { b with qlc := { b.qlc with craneSlots := modAt b.qlc.craneSlots c fun s => s.post body b.now } }

def Berth.postGang (b : Berth) (g : Gang) (body : OrderBody) : Berth :=
  { b with qlc := { b.qlc with gangSlots := modAt b.qlc.gangSlots g fun s => s.post body b.now } }

/-- R172: the tail of the promote queue. -/
def Berth.postPromote (b : Berth) (body : OrderBody) : Berth :=
  { b with qlc := { b.qlc with promotes := b.qlc.promotes ++ [freshOrder body b.now] } }

/-- The queue after orders have left it: a new head has its queue time set (R172). -/
def promotesAfter (old new : List Order) (now : QTime) : List Order :=
  match old, new with
  | _, [] => []
  | o :: _, n :: ns => if o = n then n :: ns else { n with queueTime := now } :: ns
  | [], n :: ns => n :: ns

def Berth.setPromotes (b : Berth) (l : List Order) : Berth :=
  { b with qlc := { b.qlc with promotes := promotesAfter b.qlc.promotes l b.now } }

/-! ## The free values (log 31) -/

def Berth.consult (b : Berth) : Berth := { b with free := b.free + 1 }

end Sys2Proof.Machine
end

