-- ==== Sys2Proof/Machine/Flags.lean ====
section
/-! DEFINITION. The notice causes: raising an edge cause, evaluating the level causes, the flagged set and NOTIFY
(spec/09_notices.md). -/

namespace Sys2Proof.Machine

/-! Causes as members of a set of sixteen (9.1). -/

def ticketDone : BitVec 16 := 0x0001
def ticketFailed : BitVec 16 := 0x0002
def grantMissed : BitVec 16 := 0x0004
def liftFault : BitVec 16 := 0x0008
def ticketLateCause : BitVec 16 := 0x0010
def craneStarvedCause : BitVec 16 := 0x0020
def arrivalRefused : BitVec 16 := 0x0040
def priorityArrival : BitVec 16 := 0x0080
def holdingHigh : BitVec 16 := 0x0100
def poolLow : BitVec 16 := 0x0200
def taskPoolEmpty : BitVec 16 := 0x0400
def gangUnassigned : BitVec 16 := 0x0800
def stationOffline : BitVec 16 := 0x1000
def linkError : BitVec 16 := 0x2000
def portTimeout : BitVec 16 := 0x4000
def shiftChange : BitVec 16 := 0x8000

/-- The level causes, 8 to 11 (9.1). -/
def levelCauses : BitVec 16 := 0x0F00

/-- The edge causes (9.1). -/
def edgeCauses : BitVec 16 := 0xF0FF

/-- R199. -/
def Berth.raise (b : Berth) (cause : BitVec 16) : Berth := { b with nu := { b.nu with raw := b.nu.raw ||| cause } }

def flag (p : Bool) (cause : BitVec 16) : BitVec 16 := if p then cause else 0

/-- The level causes whose conditions hold (R112, R27, R116, R129). -/
def Berth.levels (b : Berth) : BitVec 16 :=
  flag (b.params.holdMark ≤ b.occupancy) holdingHigh
    ||| flag (b.freeTickets ≤ b.params.poolMark) poolLow
    ||| flag (b.freeTasks == 0) taskPoolEmpty
    ||| flag (b.ltu.tasks.any fun t => t.state == .opened) gangUnassigned

/-- R200: the raw bit of each level cause follows its condition. -/
def Berth.evalLevels (b : Berth) : Berth :=
  { b with nu := { b.nu with raw := (b.nu.raw &&& edgeCauses) ||| b.levels } }

/-- R201. -/
def Notices.flagged (n : Notices) : BitVec 16 := n.raw &&& n.enable

/-- R202: NOTIFY is driven low; it is released while RESET is asserted. -/
def notifyLow (s : State) : Bool := !s.port.inReset && s.berth.nu.flagged != 0

end Sys2Proof.Machine
end

