-- ==== Sys2Proof/Machine/Gangs.lean ====
section
/-! DEFINITION. The Lashing Task Unit and its dealings with the Bay Claim Table: waiter examinations, tasks, assignment,
dispatch, the gang cycle, duty and rosters (spec/03_bay_claims_and_crane_clearance.md, spec/05_lashing_gangs_and_tasks.md). -/

namespace Sys2Proof.Machine

/-! ## Releases and the waiter examination (R73) -/

/-- One entry of the examination: a waiter that may claim its bay is granted a CLEARING claim and DECK_CLEAR is posted. -/
def examineWaiter (b : Berth) (w : Gang × Bay) : Berth :=
  if b.gangMayClaim w.2 then
    let b := (b.removeWaiter w.1).setGangClaim w.1 (some { bay := w.2, standing := .clearing })
    match (b.gang w.1).tasks.head? with
    | some n => b.postGang w.1 (.deckClear n w.2)
    | none => b
  else b

/-- R73: the whole list, oldest first. -/
def examineWaiters (b : Berth) : Berth := b.bct.waiters.foldl examineWaiter b

def releaseCraneClaim (b : Berth) (c : Crane) : Berth := examineWaiters (b.setCraneClaim c none)

def releaseGangClaim (b : Berth) (g : Gang) : Berth := examineWaiters (b.setGangClaim g none)

/-- A deck request is given up: a waiter entry is withdrawn, a CLEARING claim is released (R121, R136). -/
def leaveDeckRequest (b : Berth) (g : Gang) : Berth :=
  let b := b.removeWaiter g
  match b.gangClaim g with
  | some { standing := .clearing, .. } => releaseGangClaim b g
  | _ => b

/-! ## Tasks -/

/-- The gang whose list holds a task (R117). -/
def Berth.holder (b : Berth) (n : TaskNo) : Option Gang := allGangs.find? fun g => (b.gang g).tasks.contains n

/-- A task leaves a gang's list and the tasks behind it close up (R128). -/
def Berth.unlist (b : Berth) (g : Gang) (n : TaskNo) : Berth :=
  b.modGang g fun r => { r with tasks := r.tasks.filter fun m => m != n }

def Berth.setTaskState (b : Berth) (n : TaskNo) (st : TaskState) : Berth := b.modTask n fun t => { t with state := st }

/-- Every task of a gang's list becomes OPEN and the list is emptied. -/
def Berth.giveUpTasks (b : Berth) (g : Gang) : Berth :=
  ((b.gang g).tasks.foldl (fun b n => b.setTaskState n .opened) b).modGang g fun r => { r with tasks := [] }

/-- What becomes of an UNLASH task whose linked count is 0 (R121). -/
def dropUnlinked (b : Berth) (t : Task) : Berth :=
  match t.state with
  | .opened => b.dropTask t.number
  | .queued => match b.holder t.number with
    | some g => (b.unlist g t.number).dropTask t.number
    | none => b.dropTask t.number
  | .dispatched => match b.holder t.number with
    | some g =>
      let b := leaveDeckRequest ((b.unlist g t.number).dropTask t.number) g
      (b.modGang g fun r => { r with activity := .idle }).postGang g (.recall t.number)
    | none => b.dropTask t.number
  | .active => b

/-- R121: a ticket is unlinked from its unlash task. -/
def unlinkUnlash (b : Berth) (n : TicketNo) : Berth :=
  match (b.ticket? n).bind (·.task) with
  | none => b
  | some k =>
    let b := (b.modTicket n fun t => { t with task := none, lashState := .notNeeded }).modTask k
      fun t => { t with linked := t.linked - 1 }
    match b.task? k with
    | some t => if t.linked = 0 then dropUnlinked b t else b
    | none => b

/-- R126: a ticket being freed is unlinked from its lash task, which stays. -/
def unlinkLash (b : Berth) (t : Ticket) : Berth :=
  match t.lashState, t.task with
  | .linked, some k => b.modTask k fun t => { t with linked := t.linked - 1 }
  | _, _ => b

/-- The lash task that a landing at a bay joins: the earliest-created in OPEN or QUEUED (R125). -/
def Berth.joinableLash (b : Berth) (bay : Bay) : Option Task :=
  firstLeast createdBefore (b.ltu.tasks.filter fun t =>
    t.kind == .lash && t.bay == bay && (t.state == .opened || t.state == .queued))

/-- R125: a landed lift's reservation is turned into a link for each of its tickets `ns`. -/
def linkLash (b : Berth) (c : Crane) (bay : Bay) (ns : List TicketNo) : Berth :=
  let b := b.unreserve
  match b.joinableLash bay with
  | some k =>
    (b.modTask k.number fun t => { t with linked := t.linked + ns.length }).modTickets ns
      fun t => { t with lashState := .linked, task := some k.number }
  | none =>
    match b.freeTaskSlot with
    | some k =>
      (b.createTask k .lash bay c ns.length).modTickets ns fun t => { t with lashState := .linked, task := some k }
    | none => b

/-- R123, R126: the completion of a task. -/
def completeTask (b : Berth) (g : Gang) (t : Task) : Berth :=
  let done : LashState := if t.kind = .unlash then .cleared else .lashed
  let b := b.modTicketsIf (fun x => x.task == some t.number) fun x => { x with lashState := done, task := none }
  (b.unlist g t.number).dropTask t.number

/-! ## Assignment and dispatch (R127, R128, R130) -/

def Berth.eligible (b : Berth) (t : Task) (g : Gang) : Bool :=
  let r := b.gang g
  r.onDuty && b.online (gangStation g) && !r.reliefDue && inSet r.served t.crane.val && r.tasks.length < 8

/-- R128.  An UNLASH with no QUEUED UNLASH to follow goes before the first QUEUED LASH, also where that is a first task
returned to QUEUED (DESIGN CHOICE, log 41). -/
def Berth.listWith (b : Berth) (l : List TaskNo) (n : TaskNo) (kind : TaskKind) : List TaskNo :=
  let queued (k : TaskKind) (m : TaskNo) : Bool := (b.task? m).any fun t => t.state == .queued && t.kind == k
  match kind with
  | .lash => l ++ [n]
  | .unlash =>
    match placeOf (queued .unlash) l.reverse with
    | k + 1 => l.take (l.length - k) ++ n :: l.drop (l.length - k)
    | 0 => match placeOf (queued .lash) l with
      | k + 1 => l.take k ++ n :: l.drop k
      | 0 => l ++ [n]

/-- R127, for one OPEN task. -/
def assignTask (b : Berth) (t : Task) : Berth :=
  match firstLeast (fun g h => (b.gang g).tasks.length < (b.gang h).tasks.length) (allGangs.filter (b.eligible t)) with
  | none => b
  | some g =>
    (b.modGang g fun r => { r with tasks := b.listWith r.tasks t.number t.kind }).setTaskState t.number .queued

/-- R127. -/
def assignPass (b : Berth) : Berth := b.openTasks.foldl assignTask b

/-- R130, for one gang. -/
def dispatchGang (b : Berth) (g : Gang) : Berth :=
  let r := b.gang g
  if r.activity = .idle ∧ r.onDuty ∧ b.online (gangStation g) then
    match b.firstTask g with
    | some t =>
      ((b.setTaskState t.number .dispatched).modGang g fun r => { r with activity := .assigned }).postGang g
        (.dispatch t.number t.kind t.bay t.crane)
    | none => b
  else b

/-- The assignment pass and the dispatches after it, which are made in RUN alone. -/
def gangWork (b : Berth) : Berth := allGangs.foldl dispatchGang (assignPass b)

/-! ## The gang cycle -/

/-- R131, R71. -/
def deckRequest (b : Berth) (g : Gang) (n : TaskNo) : Berth × Reply :=
  let r := b.gang g
  let place : Byte := natByte (placeOf (fun w => w.1 == g) b.bct.waiters)
  let goOnDeck (b : Berth) (t : Task) : Berth :=
    (b.modGang g fun r => { r with activity := .onDeck }).setTaskState t.number .active
  match b.firstTask g with
  | none => (b, refuse .wrongState)
  | some t =>
    if t.number = n ∧ ((t.state = .dispatched ∧ (r.activity = .assigned ∨ r.activity = .waitDeck))
        ∨ (t.state = .active ∧ r.activity = .onDeck)) then
      if (b.gangClaim g).any fun k => k.standing == .clearing then
        (b, { code := .wait, reason := .none, data := [0] })
      else if b.gangClaim g = some { bay := t.bay, standing := .confirmed } then (b, accept)
      else if b.isWaiter g then (b, { code := .wait, reason := .none, data := [place] })
      else if b.gangMayClaim t.bay then
        (goOnDeck (b.setGangClaim g (some { bay := t.bay, standing := .confirmed })) t, accept)
      else
        (({ b with bct := { b.bct with waiters := b.bct.waiters ++ [(g, t.bay)] } }).modGang g
            fun r => { r with activity := .waitDeck },
          { code := .wait, reason := .none, data := [natByte (b.bct.waiters.length + 1)] })
    else (b, refuse .wrongState)

/-- R133. -/
def taskDoneReport (b : Berth) (g : Gang) (n : TaskNo) : Berth × Reply :=
  match b.firstTask g with
  | none => (b, refuse .wrongState)
  | some t =>
    if t.number = n ∧ t.state = .active ∧ (b.gang g).activity = .onDeck then
      let b := completeTask b g t
      match b.firstTask g with
      | some u =>
        if u.bay = t.bay ∧ (b.gang g).reliefDue = false then
          (b.setTaskState u.number .active, accept (bytes16 u.number ++ [u.kind.code, u.bay]))
        else (b, accept (bytes16 0xFFFF ++ [0, 0]))
      | none => (b, accept (bytes16 0xFFFF ++ [0, 0]))
    else (b, refuse .wrongState)

/-- R121: an ACTIVE UNLASH task with no linked ticket is dropped where it would return to QUEUED or OPEN. -/
def dropIfOwedToNobody (b : Berth) (g : Gang) : Berth :=
  match b.firstTask g with
  | some t =>
    if t.state = .active ∧ t.kind = .unlash ∧ t.linked = 0 then (b.unlist g t.number).dropTask t.number else b
  | none => b

/-- R134, R139: what a gang that comes off deck does; `giveUp` is GANG_CLEAR of an OFFLINE gang. -/
def comeOffDeck (b : Berth) (g : Gang) (giveUp : Bool) : Berth :=
  let b := dropIfOwedToNobody (releaseGangClaim b g) g
  if (b.gang g).reliefDue then
    (b.giveUpTasks g).modGang g fun r => { r with onDuty := false, activity := .idle, reliefDue := false }
  else
    let b := if giveUp then b.giveUpTasks g
      else match b.firstTask g with
        | some t => if t.state = .active then b.setTaskState t.number .queued else b
        | none => b
    b.modGang g fun r => { r with activity := .idle }

/-- R134, R75. -/
def offDeckReport (b : Berth) (g : Gang) : Berth × Reply :=
  match b.gangClaim g with
  | some { standing := .confirmed, .. } => (comeOffDeck b g false, accept)
  | _ => (b, refuse .wrongState)

/-! ## Duty and rosters (R136 to R139) -/

/-- The "holds the shift" rows of R136. -/
def dutyOn (b : Berth) (g : Gang) : Berth :=
  b.modGang g fun r => if r.onDuty then { r with reliefDue := false } else { r with onDuty := true, activity := .idle }

/-- The "lacks the shift" rows of R136. -/
def dutyOff (b : Berth) (g : Gang) : Berth :=
  let r := b.gang g
  let leave (b : Berth) : Berth := (b.giveUpTasks g).modGang g fun r => { r with onDuty := false, activity := .idle }
  if r.onDuty then
    match r.activity with
    | .idle => leave b
    | .onDeck => b.modGang g fun r => { r with reliefDue := true }
    | .assigned | .waitDeck =>
      let b := leave (leaveDeckRequest b g)
      match r.tasks.head? with
      | some n => b.postGang g (.recall n)
      | none => b
  else b

/-- R136, for one gang with the shift index in force. -/
def applyRoster (b : Berth) (g : Gang) : Berth :=
  if (b.gang g).roster &&& b.clock.shiftIndex = 0 then dutyOff b g else dutyOn b g

/-- R136 (log 25). -/
def applyRosters (b : Berth) : Berth := allGangs.foldl applyRoster b

/-- R138: QUEUED tasks of cranes outside the set become OPEN and the list closes up. -/
def serve (b : Berth) (g : Gang) (set : BitVec 8) : Berth :=
  let gone := (b.gang g).tasks.filter fun n =>
    (b.task? n).any fun t => t.state == .queued && !inSet set t.crane.val
  let b := gone.foldl (fun b n => (b.unlist g n).setTaskState n .opened) b
  b.modGang g fun r => { r with served := set }

/-! ## Reports of gang orders, stations and modes -/

/-- The gang waits with a CLEARING claim for the task a DECK_CLEAR names (R132). -/
def Berth.awaitsDeckClear (b : Berth) (g : Gang) (n : TaskNo) : Bool :=
  (b.gang g).activity == .waitDeck && (b.gang g).tasks.head? == some n
    && (b.gangClaim g).any fun k => k.standing == .clearing

/-- R132, R135: a delivered order of a gang's slot. -/
def gangDelivered (b : Berth) (g : Gang) (body : OrderBody) : Berth :=
  match body with
  | .deckClear n _ =>
    if b.awaitsDeckClear g n then
      let b := b.setGangClaim g ((b.gangClaim g).map fun k => { k with standing := .confirmed })
      (b.modGang g fun r => { r with activity := .onDeck }).setTaskState n .active
    else b
  | _ => b

/-- R132, R135: an undelivered order of a gang's slot. -/
def gangUndelivered (b : Berth) (g : Gang) (body : OrderBody) : Berth :=
  match body with
  | .deckClear n _ =>
    if b.awaitsDeckClear g n then
      (releaseGangClaim b g).modGang g fun r => { r with activity := .assigned }
    else b
  | .dispatch n .. =>
    match b.firstTask g with
    | some t =>
      if t.number = n ∧ t.state = .dispatched ∧ (b.gang g).activity = .assigned then
        (b.setTaskState n .queued).modGang g fun r => { r with activity := .idle }
      else b
    | none => b
  | _ => b

/-- R140: the tasks of a gang ON_DECK but its ACTIVE one become OPEN and leave the list. -/
def keepActive (b : Berth) (g : Gang) : Berth :=
  let gone := (b.gang g).tasks.filter fun n => (b.task? n).any fun t => t.state == .queued
  gone.foldl (fun b n => (b.unlist g n).setTaskState n .opened) b

/-- R77, R140: a gang's station has gone OFFLINE. -/
def gangOffline (b : Berth) (g : Gang) : Berth :=
  let onDeck := (b.gang g).activity = .onDeck
  let b := leaveDeckRequest b g
  if onDeck then keepActive b g
  else (b.giveUpTasks g).modGang g fun r => { r with activity := .idle }

/-- R141: a gang when the mode enters CONFIG from RUN. -/
def gangEnterConfig (b : Berth) (g : Gang) : Berth :=
  match (b.gang g).activity with
  | .assigned | .waitDeck =>
    let b : Berth := match b.firstTask g with
      | some t => if t.state = .dispatched then b.setTaskState t.number .queued else b
      | none => b
    b.modGang g fun r => { r with activity := .idle }
  | .idle | .onDeck => b

/-- R78: the deck waiter list is emptied and every CLEARING claim released, and no waiter is examined. -/
def claimsEnterConfig (b : Berth) : Berth :=
  let b := { b with bct := { b.bct with waiters := [] } }
  allGangs.foldl (fun b g => if (b.gangClaim g).any fun k => k.standing == .clearing then b.setGangClaim g none else b) b

end Sys2Proof.Machine
end

