-- ==== Sys2Proof/Machine/Trucks.lean ====
section
/-! DEFINITION. The Stand and Holding Unit: the truck match, arrivals, routing, the holding list and promotion
(spec/04_truck_stands_holding_and_routing.md). -/

namespace Sys2Proof.Machine

/-! ## The truck match (R87, R88) -/

/-- R87. -/
def compatible (size : Size) (chassis : Chassis) : Bool :=
  match size with
  | .s20 => chassis != .x45
  | .s40 => chassis != .s20
  | .s45 => chassis == .x45

def Candidate.tickets (k : Candidate) : List Ticket := k.lead :: k.other.toList

/-- R87: the first WAITING empty entry that can carry the candidate. -/
def matchDischarge (stand : List Truck) (k : Candidate) : Except Reason Truck :=
  match stand.find? fun t => t.state == .waiting && t.cargo.isEmpty &&
      (if k.other.isSome then t.chassis == .twin else compatible k.lead.size t.chassis) with
  | some t => .ok t
  | none => .error .truck

/-- R88: the first verified WAITING entry that holds every container of the candidate. -/
def matchLoad (stand : List Truck) (k : Candidate) : Except Reason Truck :=
  let holders := stand.filter fun t =>
    t.state == .waiting && k.tickets.all fun x => x.container.any fun id => t.cargo.contains id
  match holders.find? fun t => !t.unverified with
  | some t => .ok t
  | none => .error (if holders.isEmpty then .truck else .truckUnverified)

/-- Check 4 of R39: RESTOW and HATCH need no truck.  A manual pick's tag limits the match to one entry
(R59), and an entry of it that is neither WAITING nor verified fails TRUCK, as R88 reads WAITING entries alone (log 43). -/
def truckMatch (b : Berth) (c : Crane) (k : Candidate) (pin : Option Tag) : Except Reason (Option Truck) :=
  let stand := match pin with
    | none => b.stand c
    | some tag => (b.stand c).filter fun t => t.tag == tag
  match k.lead.kind with
  | .discharge => (matchDischarge stand k).map some
  | .load => (matchLoad stand k).map some
  | .restow | .hatch => .ok none

/-! ## The holding list (R99) and promotion (R100 to R104) -/

/-- An entry returns to the holding list at its arrival place (R99, R103). -/
def returnToHolding (b : Berth) (c : Crane) (t : Truck) : Berth :=
  let b := b.modStand c fun l => l.filter fun u => u.stay != t.stay
  { b with shu := { b.shu with
      holding := insertBy (fun x y => x.arrival ≤ y.arrival)
        { t with lane := none, joinedAt := b.nowSecs, state := .waiting } b.shu.holding } }

/-- R101: the oldest priority-marked entry whose target set includes the crane, else the oldest. -/
def Berth.nextHeld (b : Berth) (c : Crane) : Option Truck :=
  let held := b.shu.holding.filter fun t => inSet t.targets c.val
  match held.find? fun t => t.priority with
  | some t => some t
  | none => held.head?

/-- R101: one promotion into a lane. -/
def promote (b : Berth) (c : Crane) (l : Lane) (t : Truck) : Berth :=
  let stay := b.shu.stays
  let entry := { t with lane := some l, joinedAt := b.nowSecs, state := .waiting, stay }
  let b := { b with shu := { b.shu with
    holding := b.shu.holding.filter fun u => u.arrival != t.arrival
    stays := stay + 1 } }
  (b.modStand c fun s => s ++ [entry]).postPromote (.promote t.tag c l stay)

/-- R100: held entries into the available spots of one crane, lowest lane first; `fuel` bounds its six lanes. -/
def promoteInto (c : Crane) : Nat → Berth → Berth
  | 0, b => b
  | fuel + 1, b =>
    if b.qlc.promotes.length < 8 then
      match b.lowestLane c, b.nextHeld c with
      | some l, some t => promoteInto c fuel (promote b c l t)
      | _, _ => b
    else b

/-- R100. -/
def promotionCheck (b : Berth) : Berth :=
  if b.mode = .run ∧ b.online gateIn then
    allCranes.foldl (fun b c => if b.takesTrucks c then promoteInto c 6 b else b) b
  else b

/-- A removed entry's PROMOTE leaves the queue unless it is in flight (R104). -/
def dequeuePromote (b : Berth) (tag : Tag) : Berth :=
  b.setPromotes (b.qlc.promotes.filter fun o => o.inFlight || o.body.promoteTag != some tag)

/-- The promoting entries of the stands when the board is emptied on entering CONFIG (R104): WAITING ones return to
holding. -/
def standsEnterConfig (b : Berth) : Berth :=
  allCranes.foldl (fun b c =>
    ((b.stand c).filter fun t => b.promoting t.tag && t.state == .waiting).foldl
      (fun b t => returnToHolding b c t) b) b

/-! ## Arrivals (R89 to R95) -/

/-- Where the routing sends an arrival (R93). -/
inductive Route where
  | stand (mask : BitVec 8)
  | hold (mask : BitVec 8)
  | reject
deriving DecidableEq, Repr

/-- R96. -/
def Rule.matches (r : Rule) (tag : Tag) (chassis : Chassis) (cargo : List ContainerId) : Bool :=
  (r.tagLo ≤ tag && tag ≤ r.tagHi) && inSet r.chassis chassis.code.toNat
    && (match r.cond with
        | some .empty => cargo.isEmpty
        | some .laden => !cargo.isEmpty
        | some .any | none => true)
    && (r.owner.isEmpty || cargo.any fun id => id.take r.owner.length == r.owner)

/-- R93: slot order; the result and the priority mark. -/
def evalRules (p : Params) (tag : Tag) (chassis : Chassis) (cargo : List ContainerId) :
    List Rule → Bool → Route × Bool
  | [], prio => (if p.routeReject then .reject else .stand 0xFF, prio)
  | r :: rs, prio =>
    if r.enabled && r.matches tag chassis cargo then
      match r.action with
      | some .priority => evalRules p tag chassis cargo rs true
      | some .cranes => (.stand r.mask, prio)
      | some .hold => (.hold r.mask, prio)
      | some .reject => (.reject, prio)
      | none => evalRules p tag chassis cargo rs prio
    else evalRules p tag chassis cargo rs prio

def craneMask (c : Crane) : BitVec 8 := BitVec.ofNat 8 (2 ^ c.val)

/-- R91: the cranes of the live tickets that hold the cargo, as a set. -/
def Berth.indexTargets (b : Berth) (cargo : List ContainerId) : BitVec 8 :=
  (cargo.filterMap b.indexed?).foldl (fun m t => m ||| craneMask t.crane) 0

/-- R91, R93. -/
def Berth.route (b : Berth) (tag : Tag) (chassis : Chassis) (cargo : List ContainerId) : Route × Bool :=
  let m := b.indexTargets cargo
  if m = 0 then evalRules b.params tag chassis cargo b.shu.rules false else (.stand m, false)

/-- The PENDING DISCHARGE tickets of a crane whose wait reason is TRUCK (R92). -/
def Berth.truckHunger (b : Berth) (c : Crane) : Nat :=
  ((b.pendingOf c).filter fun t => t.kind == .discharge && t.reason == .truck).length

/-- R92. -/
def Berth.standFor (b : Berth) (mask : BitVec 8) : Option Crane :=
  firstLeast (fun c d => b.truckHunger d < b.truckHunger c)
    (allCranes.filter fun c => inSet mask c.val && b.takesTrucks c && (b.lowestLane c).isSome)

/-- R94: holding, or HOLDING_FULL. -/
def admitToHolding (b : Berth) (t : Truck) : Berth × Reply :=
  if b.occupancy < b.params.holdDepth then
    let b := if t.priority then b.raise priorityArrival else b
    ({ b with shu := { b.shu with holding := b.shu.holding ++ [t], arrivals := b.shu.arrivals + 1 } }.owePromotion,
      { code := .holdArea, reason := .none, data := [natByte (b.shu.holding.length + 1)] })
  else (b.raise arrivalRefused, refuse .holdingFull)

/-- R92: a stand spot. -/
def admitToStand (b : Berth) (t : Truck) (c : Crane) (l : Lane) : Berth × Reply :=
  let b := if t.priority then b.raise priorityArrival else b
  let b := { b with shu := { b.shu with arrivals := b.shu.arrivals + 1, stays := b.shu.stays + 1 } }
  (b.modStand c fun s => s ++ [{ t with lane := some l }], accept [finByte c, finByte l])

/-- R91 to R94, for an arrival whose body and tag have passed. -/
def takeIn (b : Berth) (tag : Tag) (chassis : Chassis) (cargo : List ContainerId) (unverified : Bool) : Berth × Reply :=
  let (route, priority) := b.route tag chassis cargo
  let entry (mask : BitVec 8) : Truck :=
    { tag, lane := none, chassis, cargo, unverified, priority, state := .waiting, joinedAt := b.nowSecs,
      arrivedAt := b.nowSecs, targets := mask, arrival := b.shu.arrivals, stay := b.shu.stays }
  match route with
  | .reject => (b.raise arrivalRefused, refuse .rejected)
  | .hold mask => admitToHolding b (entry mask)
  | .stand mask =>
    match b.standFor mask with
    | none => admitToHolding b (entry mask)
    | some c =>
      match b.lowestLane c with
      | none => admitToHolding b (entry mask)
      | some l => admitToStand b (entry mask) c l

/-- The cargo of an ARRIVE frame, when every ID is well formed (R89). -/
def cargoOf? (body : List Byte) (count : Nat) : Option (List ContainerId) :=
  if count = 0 then some []
  else if count = 1 then (linkContainer? (slice body 4 8)).map fun x => [x]
  else if count = 2 then
    match linkContainer? (slice body 4 8), linkContainer? (slice body 12 8) with
    | some x, some y => if x = y then none else some [x, y]
    | _, _ => none
  else none

def validTag (tag : Tag) : Bool := tag != 0 && tag != 0xFFFFFF

/-- R89 to R95, in RUN. -/
def arriveReport (b : Berth) (body : List Byte) : Berth × Reply :=
  let tag := word24At body 0
  let info := byteAt body 3
  let count := (info &&& 0x03).toNat
  let unverified := !info.msb
  match cargoOf? body count with
  | none => (b.raise arrivalRefused, refuse .rejected)
  | some cargo =>
    if !validTag tag || body.length != 4 + 8 * count then (b.raise arrivalRefused, refuse .rejected)
    else if (b.findTruck tag).isSome then (b.raise arrivalRefused, refuse .duplicateTag)
    else if unverified && !b.params.lenient then (b.raise arrivalRefused, refuse .unverified)
    else takeIn b tag (chassisOf (info.extractLsb' 2 2)) cargo unverified

/-- R110. -/
def lookupTagReply (b : Berth) (tag : Tag) : Reply :=
  match b.findTruck tag with
  | some (.stand c t) => accept [finByte c, laneByte t.lane, t.state.code, boolByte (b.promoting tag)]
  | some (.holding place _) => { code := .holdArea, reason := .none, data := [natByte place] }
  | none => refuse .unknown

end Sys2Proof.Machine
end

