-- ==== Sys2Proof/Machine/Cranes.lean ====
section
/-! DEFINITION. The Crane Dispatch Units: selection passes, grants, withdrawals, lock-on, landing, abandon and the
removal of trucks (spec/02_crane_dispatch.md; spec/04, 4.8). -/

namespace Sys2Proof.Machine

/-! ## Candidates (R38) -/

/-- The PENDING partner of a ticket. -/
def Berth.pendingPartner (b : Berth) (t : Ticket) : Option Ticket :=
  (t.partner.bind b.ticket?).filter fun p => p.state == .pending

/-- The candidate that holds a PENDING ticket. -/
def Berth.candidateOf (b : Berth) (t : Ticket) : Candidate :=
  match b.pendingPartner t with
  | none => { lead := t, other := none }
  | some p => if t.number.toNat ≤ p.number.toNat then { lead := t, other := some p } else { lead := p, other := some t }

/-- Every candidate of a crane, ascending number. -/
def Berth.candidates (b : Berth) (c : Crane) : List Candidate :=
  ((b.pendingOf c).filter fun t => (b.candidateOf t).lead.number == t.number).map b.candidateOf

def Candidate.numbers (k : Candidate) : List TicketNo := k.tickets.map (·.number)

/-- R38: the lower of the two seqs. -/
def Candidate.seq (k : Candidate) : Nat :=
  match k.other with
  | none => k.lead.seq.toNat
  | some p => min k.lead.seq.toNat p.seq.toNat

/-- R28, R38. -/
def Ticket.effective (t : Ticket) : Nat := if t.marks.late then 3 else t.priority.val

def Candidate.effective (k : Candidate) : Nat :=
  match k.other with
  | none => k.lead.effective
  | some p => max k.lead.effective p.effective

/-- R40: one eligible candidate goes before another in PRIORITY. -/
def Candidate.before (x y : Candidate) : Bool :=
  y.effective < x.effective || (x.effective == y.effective &&
    (x.seq < y.seq || (x.seq == y.seq && x.lead.number.toNat < y.lead.number.toNat)))

/-- R38, STRICT: the candidate holding the PENDING ticket of lowest seq, ties to the lowest number. -/
def Berth.headCandidate (b : Berth) (c : Crane) : Option Candidate :=
  (firstLeast (fun x y => x.seq.toNat < y.seq.toNat) (b.pendingOf c)).map b.candidateOf

def Candidate.lashAfter (k : Candidate) : Bool := k.tickets.any fun t => t.lash == .lashAfter

/-! ## The checks (R39) -/

/-- Checks 2 to 7 of R39, in order: the reason of the first that fails, or the matched entry. -/
def checkCandidate (b : Berth) (c : Crane) (k : Candidate) (pin : Option Tag) : Except Reason (Option Truck) :=
  if k.other.isNone && k.lead.partner.isSome then .error .twin
  else if k.tickets.any fun t => t.lashState == .awaiting then .error .lash
  else match truckMatch b c k pin with
    | .error e => .error e
    | .ok truck =>
      if !b.deckFree k.lead.bay then .error .deck
      else if !b.clearanceFree c k.lead.bay then .error .clearance
      else if k.lashAfter && b.freeTasks == 0 then .error .taskPool
      else .ok truck

def Except.passed {α β : Type} : Except α β → Bool
  | .ok _ => true
  | .error _ => false

/-! ## Making a grant (R41, R60) -/

/-- R41's part of the Ticket Table, for one ticket of the candidate. -/
def grantTicketPart (now : Secs) (truck : Option Truck) (t : Ticket) : Ticket :=
  { t with state := .granted, reason := .none, grantedAt := some now, truck := truck.map (·.tag),
           lane := truck.bind (·.lane), lashState := if t.lash = .lashAfter then .reserved else t.lashState }

/-- The grant of a candidate that has passed its checks; `pick` is a manual pick, which posts no GRANT and has no due
time (R41, R60). -/
def makeGrant (b : Berth) (c : Crane) (k : Candidate) (truck : Option Truck) (pick : Bool) : Berth :=
  let now := b.now
  let id := b.grants
  let b := b.modTickets k.numbers (grantTicketPart now.secs truck)
  let b := { b with grants := id + 1 }
  let b := b.modCrane c fun r => { r with
    work := .granted, grantTicket := some k.lead.number, grantPartner := k.other.map (·.number),
    grantBay := some k.lead.bay, grantTruck := truck.map (·.tag), grantLane := truck.bind (·.lane),
    due := if pick then none else some (now.addSecs b.params.grantTime),
    lastExpired := none, starveStart := none, grantId := some id, liftStay := none }
  let b := match truck with
    | some e => b.modEntries c (fun t => t.stay == e.stay) fun t => { t with state := .bound }
    | none => b
  let b := b.setCraneClaim c (some k.lead.bay)
  let b := if k.lashAfter then b.reserve else b
  let b := if pick then b else b.postCrane c (.grant k.lead.number (k.other.map (·.number)) k.lead.bay k.lead.row
    k.lead.tier (truck.map (·.tag)) (truck.bind (·.lane)) id)
  b.craneReasons c

/-! ## The selection pass (R37 to R40) -/

def Berth.setReasons (b : Berth) (ns : List TicketNo) (r : Reason) : Berth :=
  b.modTickets ns fun t => { t with reason := r }

/-- R38, R40: the pass in STRICT. -/
def passStrict (b : Berth) (c : Crane) : Berth :=
  match b.headCandidate c with
  | none => b
  | some k =>
    let b := b.setReasons (((b.pendingOf c).filter fun t => !k.numbers.contains t.number).map (·.number)) .sequence
    match checkCandidate b c k none with
    | .error e => b.setReasons k.numbers e
    | .ok truck => makeGrant b c k truck false

/-- The reason of every candidate that fails (R39). -/
def writeFailures (c : Crane) (b : Berth) (k : Candidate) : Berth :=
  match checkCandidate b c k none with
  | .error e => b.setReasons k.numbers e
  | .ok _ => b

/-- R38, R40: the pass in PRIORITY. -/
def passPriority (b : Berth) (c : Crane) : Berth :=
  let ks := b.candidates c
  let eligible := ks.filter fun k => Except.passed (checkCandidate b c k none)
  let b := ks.foldl (writeFailures c) b
  match firstLeast Candidate.before eligible with
  | none => b
  | some k =>
    match checkCandidate b c k none with
    | .error e => b.setReasons k.numbers e
    | .ok truck => makeGrant b c k truck false

/-- One selection pass of a waiting crane. -/
def selectionPass (b : Berth) (c : Crane) : Berth :=
  match (b.crane c).seqMode with
  | .strict => passStrict b c
  | .priority => passPriority b c

/-! ## Reservations given back -/

/-- The bound entry of a crane's grant returns to WAITING in its place (R47, R49). -/
def unbindTruck (b : Berth) (c : Crane) : Berth :=
  match (b.crane c).grantTruck with
  | none => b
  | some tag => b.modEntries c (fun t => t.tag == tag && t.state == .bound) fun t => { t with state := .waiting }

/-- Some ticket of the crane's lift holds a task-slot reservation (R7, R124). -/
def Berth.liftReserved (b : Berth) (c : Crane) : Bool :=
  (b.crane c).lift.any fun n => (b.ticket? n).any fun t => t.lashState == .reserved

def Berth.giveBackSlot (b : Berth) (c : Crane) : Berth := if b.liftReserved c then b.unreserve else b

/-- One counted failure (R8, R51, R47). -/
def Ticket.count (t : Ticket) : Ticket :=
  { t with attempts := if h : t.attempts.val + 1 < 8 then ⟨t.attempts.val + 1, h⟩ else 7 }

/-- R51, R47: a counted failure is final. -/
def Berth.lastAttempt (b : Berth) (c : Crane) : Bool :=
  (b.crane c).oneShot || (b.crane c).lift.any fun n => (b.ticket? n).any fun t =>
    t.oneShot || b.params.attemptLimit ≤ t.attempts.val + 1

/-- The state a ticket leaves a lift or a grant for, with what every such end writes. -/
def Ticket.leave (t : Ticket) (st : TicketState) (now : Secs) : Ticket :=
  { t with
    state := st
    reason := if st = .pending then .crane else .none
    truck := none
    lane := none
    lashState := if t.lashState = .reserved then .notNeeded else t.lashState
    doneAt := if st.live then t.doneAt else some now }

def Ticket.mark (t : Ticket) (f : Marks → Marks) : Ticket := { t with marks := f t.marks }

/-! ## Withdrawal (R49 to R51) -/

def Cause.counted : Cause → Bool
  | .expiry | .undelivered => true
  | _ => false

/-- R50: the crane returns to WAITING. -/
def Cause.waits : Cause → Bool
  | .truckGone | .promoteFailed | .hold _ | .cancel _ => true
  | _ => false

/-- R50: what becomes of one ticket of the grant. -/
def Cause.ticket (cause : Cause) (fails : Bool) (now : Secs) (t : Ticket) : Ticket :=
  match cause with
  | .expiry | .undelivered =>
    (t.count.leave (if fails then .failed else .pending) now).mark fun m => { m with missed := true }
  | .truckGone | .promoteFailed | .manual | .offline => t.leave .pending now
  | .hold n => t.leave (if t.number = n then .held else .pending) now
  | .cancel n => t.leave (if t.number = n then .cancelled else .pending) now
  | .halt => (t.leave .held now).mark fun m => { m with halted := true }

def CraneRec.expiredPair (r : CraneRec) : Option (TicketNo × Option TicketNo) :=
  r.grantTicket.map fun n => (n, r.grantPartner)

/-- R49. -/
def withdraw (b : Berth) (c : Crane) (cause : Cause) : Berth :=
  let r := b.crane c
  let now := b.now
  let fails := cause.counted && b.lastAttempt c
  let b := (unbindTruck b c).giveBackSlot c
  let b := b.modTickets r.lift (cause.ticket fails now.secs)
  let b := b.modCrane c fun r =>
    let e := if cause = .expiry then { r.emptied with lastExpired := r.expiredPair } else r.emptied
    if cause.waits then e.startWaiting now else e.goIdle
  let b := releaseCraneClaim b c
  let b := match cause, r.grantTicket, r.grantId with
    | .offline, _, _ => b
    | _, some n, some id => b.postCrane c (.withdraw n r.grantPartner id)
    | _, _, _ => b
  let b := b.craneReasons c
  if fails then b.raise ticketFailed else if cause.counted then b.raise grantMissed else b

/-! ## Lock-on (R44) -/

/-- The containers of a lift's tickets, ascending number (R105). -/
def Berth.liftContainers (b : Berth) (c : Crane) : List ContainerId :=
  ((b.tickets.filter fun t => (b.crane c).lift.contains t.number).filterMap (·.container))

/-- The kind of a crane's lift. -/
def Berth.liftKind (b : Berth) (c : Crane) : Option Kind :=
  ((b.crane c).grantTicket.bind b.ticket?).map (·.kind)

/-- R105: the bound entry at the lock-on of a LOAD. -/
def Truck.lockOnLoad (t : Truck) (dual : Bool) (ids : List ContainerId) : Truck :=
  let cargo := t.cargo.filter fun id => !ids.contains id
  { t with cargo, state := if cargo.isEmpty && !dual then .departing else .waiting }

/-- R44, R105: the trucks' part of a lock-on, with the stay of the entry a LOAD leaves (R47). -/
def lockOnTruck (b : Berth) (c : Crane) : Berth :=
  match b.liftKind c, (b.crane c).grantTruck with
  | some .load, some tag =>
    let ids := b.liftContainers c
    let stay := ((b.stand c).find? fun t => t.tag == tag && t.state == .bound).map (·.stay)
    let b := b.modEntries c (fun t => t.tag == tag && t.state == .bound) fun t => t.lockOnLoad b.params.dualCycle ids
    b.modCrane c fun r => { r with liftStay := stay }
  | _, _ => b

/-- R44. -/
def lockOn (b : Berth) (c : Crane) : Berth :=
  let b := b.modTickets (b.crane c).lift fun t => { t with state := .lifting, reason := .none }
  let b := b.modCrane c fun r => { r with work := .lifting, due := none, position := r.grantBay.getD r.position }
  lockOnTruck b c

/-! ## The end of a lift (R46, R47) -/

/-- Freeing a ticket's slot (R20): the partner loses its link and a LINKED ticket leaves its lash task. -/
def freeTicket (b : Berth) (n : TicketNo) : Berth :=
  match b.ticket? n with
  | none => b
  | some t =>
    let b := match t.partner with
      | some p => b.modTicket p fun x => if x.partner = some n then { x with partner := none } else x
      | none => b
    (unlinkLash b t).dropTicket n

/-- R46, the stand: the bound entry of a DISCHARGE departs with the landed containers. -/
def landOnTruck (b : Berth) (c : Crane) : Berth :=
  match b.liftKind c, (b.crane c).grantTruck with
  | some .discharge, some tag =>
    b.modEntries c (fun t => t.tag == tag && t.state == .bound) fun t =>
      { t with state := .departing, cargo := b.liftContainers c }
  | _, _ => b

/-- R46's part of the Ticket Table. -/
def landTicketPart (now : Secs) (t : Ticket) : Ticket :=
  { t with state := .done, reason := .none, doneAt := some now, truck := none, lane := none }

/-- R46: an accepted SET_DOWN, or FORCE_DONE with the continue flag clear (R22). -/
def land (b : Berth) (c : Crane) (continue_ : Bool) : Berth :=
  let r := b.crane c
  let now := b.now
  let lashing := r.lift.filter fun n => (b.ticket? n).any fun t => t.lashState == .reserved
  let b := landOnTruck b c
  let b := (b.modTickets r.lift (landTicketPart now.secs)).raise ticketDone
  let b := b.modCrane c fun r =>
    if continue_ && r.control == .auto && !r.halt then r.emptied.startWaiting now else r.emptied.goIdle
  let b := releaseCraneClaim b c
  let b := match lashing, r.grantBay with
    | [], _ | _, none => b
    | ns, some bay => linkLash b c bay ns
  let b := b.craneReasons c
  if b.params.autoRetire then r.lift.foldl freeTicket b else b

/-- R47: the entry a LOAD lock-on left takes its containers back. -/
def putBack (b : Berth) (c : Crane) (ids : List ContainerId) : Berth :=
  match (b.crane c).liftStay with
  | none => b
  | some stay => b.modEntries c (fun t => t.stay == stay && t.state != .bound) fun t =>
      { t with state := .waiting, cargo := t.cargo ++ ids }

/-- R47, the truck. -/
def abandonTruck (b : Berth) (c : Crane) : Berth :=
  match b.liftKind c with
  | some .discharge => unbindTruck b c
  | some .load => putBack b c (b.liftContainers c)
  | _ => b

/-- R47: an accepted ABANDON, or FORCE_BACK (R22). -/
def abandonLift (b : Berth) (c : Crane) : Berth :=
  let r := b.crane c
  let now := b.nowSecs
  let fails := b.lastAttempt c
  let st : TicketState := if fails then .failed else if r.halt then .held else .pending
  let b := (abandonTruck b c).giveBackSlot c
  let b := b.modTickets r.lift fun t =>
    (t.count.leave st now).mark fun m => { m with fault := true, halted := m.halted || st == .held }
  let b := b.modCrane c fun r => r.emptied.goIdle
  let b := releaseCraneClaim b c
  let b := (b.craneReasons c).raise liftFault
  if fails then b.raise ticketFailed else b

/-! ## Trucks removed (R106 to R108) -/

/-- R107: the bound truck of a LIFTING DISCHARGE departs. -/
def truckLeavesLift (b : Berth) (c : Crane) : Berth :=
  let b := b.modTickets (b.crane c).lift fun t =>
    ({ t with truck := none, lane := none } : Ticket).mark fun m => { m with fault := true }
  (b.modCrane c fun r => { r with grantTruck := none, grantLane := none }).raise liftFault

/-- The entry leaves its stand: the spot is freed and a promotion check is owed (R100, R106). -/
def dropEntry (b : Berth) (c : Crane) (t : Truck) : Berth :=
  (dequeuePromote (b.modStand c fun l => l.filter fun u => u.stay != t.stay) t.tag).owePromotion

/-- R106: the entry at a place is removed. -/
def removeTruck (b : Berth) : Place → Berth
  | .holding _ t => { b with shu := { b.shu with holding := b.shu.holding.filter fun u => u.arrival != t.arrival } }
  | .stand c t =>
    if t.state = .bound ∧ (b.crane c).grantTruck = some t.tag then
      match (b.crane c).work with
      | .granted => dropEntry (withdraw b c .truckGone) c t
      | .lifting => dropEntry (truckLeavesLift b c) c t
      | .idle | .waiting => dropEntry b c t
    else dropEntry b c t

/-! ## Modes of a crane (R33, R55 to R58) -/

/-- The crane leaves WAITING for IDLE (R35, R36). -/
def endWaiting (b : Berth) (c : Crane) : Berth := (b.modCrane c CraneRec.goIdle).craneReasons c

/-- R57. -/
def setManual (b : Berth) (c : Crane) : Berth :=
  if (b.crane c).control = .manual then b
  else
    let b := b.modCrane c fun r => { r with control := .manual }
    match (b.crane c).work with
    | .idle | .lifting => b
    | .waiting => endWaiting b c
    | .granted => withdraw b c .manual

/-- R58; a promotion check follows (R100). -/
def setAuto (b : Berth) (c : Crane) : Berth :=
  if (b.crane c).control = .auto then b else (b.modCrane c fun r => { r with control := .auto }).owePromotion

/-- R55: a PENDING ticket is sent to HELD with HALTED. -/
def Ticket.haltHeld (t : Ticket) : Ticket :=
  { t with state := .held, reason := .none, marks := { t.marks with halted := true } }

/-- R55. -/
def haltCrane (b : Berth) (c : Crane) : Berth :=
  let b := b.modCrane c fun r => { r with halt := true }
  let b := b.modTicketsIf (fun t => t.crane == c && t.state == .pending) Ticket.haltHeld
  match (b.crane c).work with
  | .waiting => endWaiting b c
  | .granted => withdraw b c .halt
  | .idle | .lifting => b

/-- R62: the crane's station has gone OFFLINE. -/
def craneOffline (b : Berth) (c : Crane) : Berth :=
  match (b.crane c).work with
  | .idle => b
  | .waiting => endWaiting b c
  | .granted => withdraw b c .offline
  | .lifting =>
    (b.modTickets (b.crane c).lift fun t => t.mark fun m => { m with fault := true }).raise liftFault

/-! ## Reports (R34, R35, R44 to R48, R57 to R60) -/

/-- R34. -/
def askReport (b : Berth) (c : Crane) : Berth × Reply :=
  let r := b.crane c
  if r.halt then (b, refuse .halted)
  else if r.control = .manual then (b, refuse .manualMode)
  else match r.work with
    | .idle => (b.modCrane c fun r => r.startWaiting b.now, accept)
    | .waiting => (b, accept)
    | .granted | .lifting => (b, refuse .wrongState)

/-- R35. -/
def standbyReport (b : Berth) (c : Crane) : Berth × Reply :=
  match (b.crane c).work with
  | .idle => (b, accept)
  | .waiting => (endWaiting b c, accept)
  | .granted | .lifting => (b, refuse .wrongState)

/-- R48.  In GRANTED or LIFTING every bay is answered ACCEPT, one of 128 to 255 too (log 37). -/
def positionReport (b : Berth) (c : Crane) (bay : Bay) : Berth × Reply :=
  match (b.crane c).work with
  | .granted | .lifting => (b, accept)
  | .idle | .waiting =>
    if bay.toNat ≤ 127 then (b.modCrane c fun r => { r with position := bay }, accept) else (b, refuse .wrongState)

/-- R59, R60: LOCK_ON of an IDLE crane in MANUAL. -/
def manualPick (b : Berth) (c : Crane) (n : TicketNo) (tag : Option Tag) : Berth × Reply :=
  match b.ticket? n with
  | none => (b, refuse .unknown)
  | some t =>
    if (b.crane c).halt then (b, refuse .halted)
    else if t.crane ≠ c ∨ t.state ≠ .pending then (b, refuse .wrongState)
    else
      let k := b.candidateOf t
      match checkCandidate b c k tag with
      | .error e => (b, refuse .blocked [e.code])
      | .ok truck =>
        (lockOn ((makeGrant b c k truck true).modTickets k.numbers
          fun t => t.mark fun m => { m with manual := true }) c, accept)

/-- R45: the ticket is one of the last-expired grant. -/
def CraneRec.expired (r : CraneRec) (n : TicketNo) : Bool :=
  r.lastExpired.any fun x => x.1 == n || x.2 == some n

/-- R44, R45, R59 (log 30). -/
def lockOnReport (b : Berth) (c : Crane) (n : TicketNo) (tag : Option Tag) : Berth × Reply :=
  let r := b.crane c
  if r.work = .granted ∧ r.lift.contains n then (lockOn b c, accept)
  else if r.work = .lifting ∧ r.lift.contains n then (b, accept)
  else match r.control with
    | .auto => if r.expired n then (b, refuse .expired) else (b, refuse .notGranted)
    | .manual => if r.work = .idle then manualPick b c n tag else (b, refuse .wrongState)

/-- R46: the lift is a DISCHARGE whose bound truck has departed. -/
def Berth.targetGone (b : Berth) (c : Crane) : Bool :=
  b.liftKind c == some .discharge && (((b.crane c).grantTicket.bind b.ticket?).any fun t => t.truck.isNone)

/-- R46.  Its refusals are not ordered: a SET_DOWN of a ticket that is not the lift, from a crane whose DISCHARGE has lost its
truck, is answered NOT_GRANTED (DESIGN CHOICE, log 40). -/
def setDownReport (b : Berth) (c : Crane) (n : TicketNo) (continue_ : Bool) : Berth × Reply :=
  let r := b.crane c
  if r.work ≠ .lifting then (b, refuse .wrongState)
  else if !r.lift.contains n then (b, refuse .notGranted)
  else if b.targetGone c then (b, refuse .noTarget)
  else (land b c continue_, accept)

/-- R47. -/
def abandonReport (b : Berth) (c : Crane) (n : TicketNo) : Berth × Reply :=
  let r := b.crane c
  if r.work ≠ .lifting then (b, refuse .wrongState)
  else if !r.lift.contains n then (b, refuse .notGranted)
  else (abandonLift b c, accept)

/-- R106. -/
def departReport (b : Berth) (tag : Tag) : Berth × Reply :=
  match b.findTruck tag with
  | none => (b, refuse .unknown)
  | some p => (removeTruck b p, accept)

end Sys2Proof.Machine
end

