-- ==== Sys2Proof/Machine/Settle.lean ====
section
/-! DEFINITION. What follows a change within the change: deadlines, gang work, promotion checks, selection passes with their
starve checks, and level causes (R28, R37, R42, R61, R100, R127, R200; log 4, log 5, log 8). -/

namespace Sys2Proof.Machine

/-! ## Deadlines (R28) -/

/-- The ticket is to be marked LATE now. -/
def Ticket.late? (clock : Clock) (t : Ticket) : Bool :=
  clock.running && (t.deadline.any fun d => secsReached d clock.time.secs)
    && (t.state == .held || t.state == .pending || t.state == .granted) && !t.marks.late

def Ticket.markLate (t : Ticket) : Ticket := t.mark fun m => { m with late := true }

/-- R28: every ticket whose deadline is reached in a qualifying state is marked, once. -/
def markLates (b : Berth) : Berth :=
  if b.tickets.any fun t => t.late? b.clock then
    (b.modTicketsIf (Ticket.late? b.clock) Ticket.markLate).raise ticketLateCause
  else b

/-! ## Starve (R61) -/

def Reason.lacksTruck : Reason → Bool
  | .truck | .truckUnverified => true
  | _ => false

/-- The condition of R61. -/
def Berth.starving (b : Berth) (c : Crane) : Bool :=
  match (b.crane c).seqMode with
  | .strict => (b.headCandidate c).any fun k => k.lead.reason.lacksTruck
  | .priority => (b.pendingOf c).any fun t => t.reason.lacksTruck

/-- The starve check of one crane is met (R61). -/
def Berth.starveMet (b : Berth) (c : Crane) : Bool :=
  let r := b.crane c
  b.clock.running && r.work == .waiting && b.params.starveTime != 0 && !r.starveReported
    && (r.starveStart.any fun q => (q.addSecs b.params.starveTime).reached b.now) && b.starving c

/-- R61: the check of one crane; what it finds met is raised and reported once. -/
def starveCheck (b : Berth) (c : Crane) : Berth :=
  if b.starveMet c then (b.modCrane c fun r => { r with starveReported := true }).raise craneStarvedCause else b

/-- The checks of all cranes, made where a due time may have been reached (R61; log 8). -/
def starveSweep (b : Berth) : Berth := allCranes.foldl starveCheck b

/-! ## Passes (R37, R42) -/

def Berth.waitingCranes (b : Berth) : List Crane := allCranes.filter fun c => (b.crane c).work == .waiting

/-- The order in which waiting cranes run their passes: free where there are several (R42; log 4). -/
def Berth.passOrder (b : Berth) : List Crane :=
  match b.waitingCranes with
  | [] => []
  | [c] => [c]
  | cs => sortBy (fun c d => Config.passKey b.free c ≤ Config.passKey b.free d) cs

/-- A consultation of the free order is one use of the free values. -/
def Berth.orderTaken (b : Berth) : Berth := if 2 ≤ b.waitingCranes.length then b.consult else b

/-- A pass and, since it may have rewritten reasons, the starve check after it; a pass that grants ends the waiting
period, so nothing is left to check (R41, R61; log 8). -/
def passAndCheck (b : Berth) (c : Crane) : Berth := starveCheck (selectionPass b c) c

/-- Passes in an order, up to the first that grants. -/
def scanPasses : List Crane → Berth → Berth × Bool
  | [], b => (b, false)
  | c :: cs, b =>
    let b := passAndCheck b c
    if (b.crane c).work = .waiting then scanPasses cs b else (b, true)

/-- R37, R42: passes until every waiting crane has run one on the records as they stand; each round but the last
makes a grant, so nine rounds are enough. -/
def passRounds : Nat → Berth → Berth
  | 0, b => b
  | fuel + 1, b =>
    let (b', granted) := scanPasses b.passOrder b.orderTaken
    if granted then passRounds fuel b' else b'

def runPasses (b : Berth) : Berth := passRounds 9 b

/-- The promotion check owed in this change, if any (R100). -/
def promoteDue (b : Berth) : Berth :=
  if b.shu.promotionDue then promotionCheck { b with shu := { b.shu with promotionDue := false } } else b

/-- The order of the promotion check and the passes matters: something is promoted while a crane waits (log 5). -/
def Berth.promotionMeetsPasses (b : Berth) : Bool :=
  !b.waitingCranes.isEmpty && (promoteDue b).qlc.promotes.length != b.qlc.promotes.length

/-- The dispatch of RUN: gangs, trucks and cranes (log 5). -/
def runWork (b : Berth) : Berth :=
  let b := gangWork b
  if b.promotionMeetsPasses && !Config.promotionFirst b.free then runPasses (promoteDue (runPasses b.consult))
  else runPasses (promoteDue (if b.promotionMeetsPasses then b.consult else b))

/-! ## The end of a change -/

/-- What every change of the berth's records brings with it before it ends. -/
def settle (b : Berth) : Berth :=
  let b := markLates b
  let b := if b.mode = .run then runWork b else { b with shu := { b.shu with promotionDue := false } }
  (starveSweep b).evalLevels

/-- An event that changed no record settles nothing. -/
def settleIf (before after : Berth) : Berth := if after = before then before else settle after

/-! ## Events of quay time (R152) -/

/-- A grant whose due time is reached (R52). -/
def Berth.expiryDue (b : Berth) (c : Crane) : Bool :=
  b.clock.running && (b.crane c).work == .granted && (b.crane c).due.any fun q => q.reached b.now

/-- R154: a ticket of an expiring grant whose deadline the same change reaches is marked LATE first, or is not (log 6). -/
def deadlineBeforeExpiry (b : Berth) (n : TicketNo) : Berth :=
  match b.ticket? n with
  | none => b
  | some t =>
    if t.late? b.clock then
      if Config.deadlineFirst b.free n then ((b.modTicket n Ticket.markLate).raise ticketLateCause).consult
      else b.consult
    else b

/-- R53. -/
def expireGrant (b : Berth) (c : Crane) : Berth :=
  if b.expiryDue c then withdraw ((b.crane c).lift.foldl deadlineBeforeExpiry b) c .expiry else b

/-- R152: a step, start, set or adjustment is handed to the owners of due times; deadlines are swept when the change
settles (log 8). -/
def dueTimeEvent (b : Berth) : Berth := allCranes.foldl expireGrant (starveSweep b)

/-! ## Shifts (R149 to R151) -/

/-- R151: the index is recomputed; a different one is a shift change. -/
def evalShift (b : Berth) : Berth :=
  let index := shiftOneHot b.params b.nowSecs
  if index = b.clock.shiftIndex then b
  else applyRosters (({ b with clock := { b.clock with shiftIndex := index } }).raise shiftChange)

end Sys2Proof.Machine
end

