-- ==== Sys2Proof/Machine/Tickets.lean ====
section
/-! DEFINITION. The Ticket Table's commands: the checks and the changes of LOAD, AMEND, RELEASE, HOLD, CANCEL, RETIRE and
FORCE, and FIND and the station lookups (spec/01_move_tickets.md). -/

namespace Sys2Proof.Machine

def ticketRes (code : ResultCode) (n : TicketNo) (detail : Byte) : Res := { code, entity := n, detail }

/-! ## Field checks (R1, R2) -/

/-- The offset of the first field found invalid. -/
def firstInvalid : List (Bool × Byte) → Option Byte
  | [] => none
  | (ok, offset) :: l => if ok then firstInvalid l else some offset

def validNumber (n : TicketNo) : Bool := n != 0 && n != 0xFFFF

def validBay (x : Byte) : Bool := x != 0 && x.toNat ≤ 127

def validPartner (n : TicketNo) : Bool := n != 0xFFFF

/-- R1, the fields of a LOAD body in window order. -/
def loadInvalid (body : List Byte) : Option Byte :=
  firstInvalid
    [(validNumber (word16At body 0), 0), ((craneOf? (byteAt body 2)).isSome, 2), ((kindOf? (byteAt body 6)).isSome, 6),
     ((sizeOf? (byteAt body 7)).isSome, 7), (validBay (byteAt body 8), 8), ((byteAt body 9).toNat ≤ 31, 9),
     ((byteAt body 10).toNat ≤ 127, 10), ((levelOf? (byteAt body 11)).isSome, 11), ((byteAt body 12).toNat ≤ 3, 12),
     ((boolOf? (byteAt body 13)).isSome, 13), ((lashOf? (byteAt body 14)).isSome, 14),
     (validPartner (word16At body 15), 16), ((containerOf? (slice body 17 11)).isSome, 18)]

/-- R2. -/
def comboInvalid (t : Ticket) : Option Byte :=
  if t.kind = .load ∧ t.container = none then some 18
  else if t.kind = .hatch ∧ t.container ≠ none then some 18
  else if t.lash = .unlashBefore ∧ ((t.kind ≠ .discharge ∧ t.kind ≠ .restow) ∨ t.level = .hold) then some 14
  else if t.lash = .lashAfter ∧ ((t.kind ≠ .load ∧ t.kind ≠ .restow) ∨ t.level = .hold) then some 14
  else if t.kind = .hatch ∧ t.partner ≠ none then some 16
  else none

def priorityOf (x : Byte) : Fin 4 := if h : x.toNat < 4 then ⟨x.toNat, h⟩ else 0

/-- R13: the ticket that a LOAD body whose fields are valid creates. -/
def loadedTicket (body : List Byte) : Ticket where
  number := word16At body 0
  crane := (craneOf? (byteAt body 2)).getD 0
  seq := word16At body 4
  kind := (kindOf? (byteAt body 6)).getD .discharge
  bay := byteAt body 8
  row := byteAt body 9
  tier := byteAt body 10
  level := (levelOf? (byteAt body 11)).getD .deck
  container := (containerOf? (slice body 17 11)).getD none
  size := (sizeOf? (byteAt body 7)).getD .s20
  partner := partnerOf (word16At body 15)
  lash := (lashOf? (byteAt body 14)).getD .none
  lashState := .notNeeded
  task := none
  priority := priorityOf (byteAt body 12)
  oneShot := (boolOf? (byteAt body 13)).getD false
  deadline := deadlineOf (word32At body 28)
  state := .held
  marks := {}
  reason := .none
  attempts := 0
  truck := none
  lane := none
  releasedAt := none
  grantedAt := none
  doneAt := none

/-- R188: the expect byte of a maximum-length body. -/
def expectOf (max : Nat) (body : List Byte) : Option Byte := if body.length = max then some (byteAt body (max - 1)) else none

/-- The state a number names, FREE included (R10). -/
def Berth.stateCode (b : Berth) (n : TicketNo) : Byte := ((b.ticket? n).map (·.state.code)).getD 0

/-- R10: what the expect byte refuses. -/
def expectRefusal (b : Berth) (n : TicketNo) (expect : Option Byte) : Option Res :=
  match expect with
  | none => none
  | some e =>
    if 7 < e.toNat then some (ticketRes .badField n 3)
    else if e ≠ b.stateCode n then some (ticketRes .stale n (b.stateCode n)) else none

/-- R24, causes 1 to 5: why a named partner does not qualify for a ticket. -/
def partnerCause (b : Berth) (t : Ticket) (p : TicketNo) : Option Byte :=
  match b.ticket? p with
  | none => some 1
  | some x =>
    if p = t.number then some 1
    else if x.state ≠ .held ∧ x.state ≠ .pending then some 2
    else if x.partner.any fun q => q != t.number then some 3
    else if x.crane ≠ t.crane ∨ x.bay ≠ t.bay ∨ x.kind ≠ t.kind ∨ x.level ≠ t.level then some 4
    else if t.size ≠ .s20 ∨ x.size ≠ .s20 then some 5
    else none

/-! ## Release (R11) -/

/-- The UNLASH task at a bay, in any state (R11, R120). -/
def Berth.unlashTaskAt (b : Berth) (bay : Bay) : Option Task := b.ltu.tasks.find? fun t => t.kind == .unlash && t.bay == bay

/-- R11: the link to an unlash task that a release needs, or none where the pool has no room. -/
def linkUnlash (b : Berth) (t : Ticket) : Option Berth :=
  let link (b : Berth) (k : TaskNo) : Berth :=
    b.modTicket t.number fun x => { x with lashState := .awaiting, task := some k }
  match b.unlashTaskAt t.bay with
  | some k => some (link (b.modTask k.number fun x => { x with linked := x.linked + 1 }) k.number)
  | none =>
    if b.freeTasks = 0 then none
    else match b.freeTaskSlot with
      | some k => some (link (b.createTask k .unlash t.bay t.crane 1) k)
      | none => none

/-- R11: the move to PENDING (the reason is R5's; a pass rewrites it). -/
def Ticket.released (now : Secs) (t : Ticket) : Ticket :=
  { t with state := .pending, reason := .crane, releasedAt := some now, marks := { t.marks with halted := false } }

/-- R11. -/
def releaseTicket (b : Berth) (t : Ticket) : Except Res Berth :=
  if (b.crane t.crane).halt then .error (ticketRes .halted t.number (finByte t.crane))
  else
    let go (b : Berth) : Berth := b.modTicket t.number (Ticket.released b.nowSecs)
    if t.lash = .unlashBefore ∧ t.lashState = .notNeeded then
      match linkUnlash b t with
      | some b => .ok (go b)
      | none => .error (ticketRes .taskPoolFull t.number 0)
    else .ok (go b)

/-! ## LOAD (R12, R13) -/

/-- Checks 4 to 7 of R12. -/
def loadRefusal (b : Berth) (t : Ticket) : Option Res :=
  if (b.ticket? t.number).isSome then some (ticketRes .duplicateNumber t.number 0)
  else if b.freeTickets = 0 then some (ticketRes .poolFull t.number 0)
  else if t.container.any fun id => (b.indexed? id).isSome then some (ticketRes .duplicateContainer t.number 0)
  else (t.partner.bind (partnerCause b t)).map fun cause => ticketRes .twinMismatch t.number cause

/-- R13, before any release. -/
def createTicket (b : Berth) (t : Ticket) : Berth :=
  let b := b.addTicket t
  match t.partner with
  | some p => b.modTicket p fun x => { x with partner := some t.number }
  | none => b

def ownLoad (b : Berth) (body : List Byte) : Berth × Res :=
  let n := word16At body 0
  let t := loadedTicket body
  match loadInvalid body with
  | some offset => (b, ticketRes .badField n offset)
  | none =>
    match comboInvalid t with
    | some offset => (b, ticketRes .badField n offset)
    | none =>
      match expectRefusal b n (expectOf 33 body) with
      | some res => (b, res)
      | none =>
        match loadRefusal b t with
        | some res => (b, res)
        | none =>
          if byteAt body 3 = 0 then (settle (createTicket b t), ticketRes .ok n 0)
          else match releaseTicket (createTicket b t) t with
            | .ok b' => (settle b', ticketRes .ok n 0)
            | .error res => (b, res)

/-! ## AMEND (R14, R15) -/

/-- R14, check 4: the named fields of an AMEND body in window order; `set` is its field set. -/
def amendInvalid (set : BitVec 16) (body : List Byte) : Option Byte :=
  let named (i : Nat) (ok : Bool) : Bool := !inSet set i || ok
  firstInvalid
    [(named 0 (craneOf? (byteAt body 4)).isSome, 2), (named 2 (validBay (byteAt body 7)), 8),
     (named 3 ((byteAt body 8).toNat ≤ 31), 9), (named 4 ((byteAt body 9).toNat ≤ 127), 10),
     (named 5 ((byteAt body 10).toNat ≤ 3), 12), (named 6 (boolOf? (byteAt body 11)).isSome, 13),
     (named 8 (lashOf? (byteAt body 16)).isSome, 14), (named 10 (validPartner (word16At body 28)), 16),
     (named 9 (containerOf? (slice body 17 11)).isSome, 18)]

/-- The host-written fields as an AMEND leaves them; the deadline named clears LATE (R15; log 14). -/
def amendFields (set : BitVec 16) (body : List Byte) (t : Ticket) : Ticket :=
  let named {α : Type} (i : Nat) (new old : α) : α := if inSet set i then new else old
  { t with
    crane := named 0 ((craneOf? (byteAt body 4)).getD t.crane) t.crane
    seq := named 1 (word16At body 5) t.seq
    bay := named 2 (byteAt body 7) t.bay
    row := named 3 (byteAt body 8) t.row
    tier := named 4 (byteAt body 9) t.tier
    priority := named 5 (priorityOf (byteAt body 10)) t.priority
    oneShot := named 6 ((boolOf? (byteAt body 11)).getD t.oneShot) t.oneShot
    deadline := named 7 (deadlineOf (word32At body 12)) t.deadline
    marks := named 7 { t.marks with late := false } t.marks
    lash := named 8 ((lashOf? (byteAt body 16)).getD t.lash) t.lash
    container := named 9 ((containerOf? (slice body 17 11)).getD t.container) t.container
    partner := named 10 (partnerOf (word16At body 28)) t.partner }

/-- Where a truck entry carries a container: its crane, or 8 for the holding list (R9, R14).  Where several entries carry it,
the lowest crane among their stands is reported, and the holding list only when no stand has one (log 36). -/
def Berth.carrier (b : Berth) (id : ContainerId) : Option Byte :=
  match allCranes.find? fun c => (b.stand c).any fun t => t.cargo.contains id with
  | some c => some (finByte c)
  | none => if b.shu.holding.any fun t => t.cargo.contains id then some 8 else none

/-- Checks 5 to 8 of R14: `t` as it is and `u` as the AMEND would leave it. -/
def amendRefusal (b : Berth) (t u : Ticket) : Option Res :=
  let n := t.number
  match (if u.crane ≠ t.crane ∨ u.container ≠ t.container then t.container.bind b.carrier else none) with
  | some place => some (ticketRes .truckPresent n place)
  | none =>
    if (u.crane ≠ t.crane ∨ u.bay ≠ t.bay) ∧ t.partner ≠ none ∧ u.partner ≠ none then
      some (ticketRes .twinMismatch n 6)
    else
      match (if u.partner ≠ t.partner then u.partner else none) with
      | some p =>
        match partnerCause b u p with
        | some cause => some (ticketRes .twinMismatch n cause)
        | none =>
          if t.partner ≠ none then some (ticketRes .twinMismatch n 7)
          else if u.container ≠ t.container ∧ (u.container.any fun id => (b.indexed? id).isSome) then
            some (ticketRes .duplicateContainer n 0)
          else none
      | none =>
        if u.container ≠ t.container ∧ (u.container.any fun id => (b.indexed? id).isSome) then
          some (ticketRes .duplicateContainer n 0)
        else none

/-- The lash state an AMEND leaves (R15, R122). -/
def amendLash (t u : Ticket) : LashState :=
  if u.lash ≠ t.lash then .notNeeded
  else if u.bay ≠ t.bay ∧ (t.lashState = .cleared ∨ t.lashState = .awaiting) then .notNeeded
  else t.lashState

/-- R15. -/
def amendTicket (b : Berth) (set : BitVec 16) (body : List Byte) (t : Ticket) : Berth :=
  let u := amendFields set body t
  let b := if t.lashState = .awaiting ∧ (u.lash ≠ t.lash ∨ u.bay ≠ t.bay) then unlinkUnlash b t.number else b
  let b := if u.partner = t.partner then b
    else match t.partner with
      | some p => b.modTicket p fun x => { x with partner := none }
      | none => b
  let b := if u.partner = t.partner then b
    else match u.partner with
      | some p => b.modTicket p fun x => { x with partner := some t.number }
      | none => b
  b.modTicket t.number fun x => amendFields set body { x with lashState := amendLash x (amendFields set body x) }

def ownAmend (b : Berth) (body : List Byte) : Berth × Res :=
  let n := word16At body 0
  let set := word16At body 2
  match b.ticket? n with
  | none => (b, ticketRes .unknown n 0)
  | some t =>
    match expectRefusal b n (expectOf 31 body) with
    | some res => (b, res)
    | none =>
      if t.state ≠ .held then (b, ticketRes .wrongState n t.state.code)
      else match amendInvalid set body with
        | some offset => (b, ticketRes .badField n offset)
        | none =>
          match comboInvalid (amendFields set body t) with
          | some offset => (b, ticketRes .badField n offset)
          | none =>
            match amendRefusal b t (amendFields set body t) with
            | some res => (b, res)
            | none => (settle (amendTicket b set body t), ticketRes .ok n 0)

/-! ## RELEASE, HOLD, CANCEL, RETIRE (R16 to R20) -/

/-- R9, R10: the ticket a command names, its expect byte compared. -/
def namedTicket (b : Berth) (n : TicketNo) (expect : Option Byte) : Except Res Ticket :=
  match b.ticket? n with
  | none => .error (ticketRes .unknown n 0)
  | some t =>
    match expectRefusal b n expect with
    | some res => .error res
    | none => .ok t

def ownRelease (b : Berth) (body : List Byte) : Berth × Res :=
  let n := word16At body 0
  match namedTicket b n (expectOf 3 body) with
  | .error res => (b, res)
  | .ok t =>
    if t.state ≠ .held then (b, ticketRes .wrongState n t.state.code)
    else match releaseTicket b t with
      | .ok b' => (settle b', ticketRes .ok n 0)
      | .error res => (b, res)

def ownHold (b : Berth) (body : List Byte) : Berth × Res :=
  let n := word16At body 0
  match namedTicket b n (expectOf 3 body) with
  | .error res => (b, res)
  | .ok t =>
    match t.state with
    | .held => (b, ticketRes .ok n 0)
    | .pending => (settle (b.modTicket n fun x => { x with state := .held, reason := .none }), ticketRes .ok n 0)
    | .granted => (settle (withdraw b t.crane (.hold n)), ticketRes .ok n 0)
    | .lifting | .done | .cancelled | .failed => (b, ticketRes .wrongState n t.state.code)

/-- R19, after any withdrawal. -/
def cancelTicket (b : Berth) (t : Ticket) : Berth :=
  let b := if t.lashState = .awaiting then unlinkUnlash b t.number else b
  let b := match t.partner with
    | some p => b.modTicket p fun x => { x with partner := none }
    | none => b
  b.modTicket t.number fun x => { x.leave .cancelled b.nowSecs with partner := none }

def ownCancel (b : Berth) (body : List Byte) : Berth × Res :=
  let n := word16At body 0
  match namedTicket b n (expectOf 3 body) with
  | .error res => (b, res)
  | .ok t =>
    match t.state with
    | .held | .pending => (settle (cancelTicket b t), ticketRes .ok n 0)
    | .granted => (settle (cancelTicket (withdraw b t.crane (.cancel n)) t), ticketRes .ok n 0)
    | .lifting | .done | .cancelled | .failed => (b, ticketRes .wrongState n t.state.code)

def ownRetire (b : Berth) (body : List Byte) : Berth × Res :=
  let n := word16At body 0
  match namedTicket b n (expectOf 3 body) with
  | .error res => (b, res)
  | .ok t =>
    if t.state.live then (b, ticketRes .wrongState n t.state.code)
    else (settle (freeTicket b n), ticketRes .ok n 0)

/-! ## FORCE (R22) -/

/-- The crane's station is OFFLINE or the crane is in MANUAL. -/
def Berth.forceable (b : Berth) (c : Crane) : Bool := !b.online (craneStation c) || (b.crane c).control == .manual

def setForced (b : Berth) (c : Crane) (n : TicketNo) : Berth :=
  b.modTickets (n :: (b.crane c).lift) fun t => t.mark fun m => { m with forced := true }

def ownForce (b : Berth) (body : List Byte) : Berth × Res :=
  let n := word16At body 0
  let action := byteAt body 2
  match namedTicket b n (expectOf 4 body) with
  | .error res => (b, res)
  | .ok t =>
    if action ≠ 1 ∧ action ≠ 2 then (b, ticketRes .badField n 0)
    else if t.state ≠ .lifting ∨ b.forceable t.crane = false then (b, ticketRes .wrongState n t.state.code)
    else if action = 1 then (settle (land (setForced b t.crane n) t.crane false), ticketRes .ok n 0)
    else (settle (abandonLift (setForced b t.crane n) t.crane), ticketRes .ok n 0)

/-! ## FIND and lookups (R23, R29) -/

/-- R23: state set bit n−1 stands for the state coded n (11.3). -/
def findNumber (b : Berth) (after : TicketNo) (states cranes : Byte) (container : List Byte) : TicketNo :=
  match b.tickets.find? fun t =>
      after.toNat < t.number.toNat && inSet states (t.state.code.toNat - 1) && inSet cranes t.crane.val
        && (container == zeros 11 || t.container == some container) with
  | some t => t.number
  | none => 0xFFFF

/-- The compact ticket view (R29, 11.5). -/
def Ticket.view (t : Ticket) : List Byte :=
  bytes16 t.number ++ [t.state.code, finByte t.crane, t.bay, t.row, t.tier, t.reason.code]

def ticketReply (t : Option Ticket) : Reply :=
  match t with
  | some t => accept t.view
  | none => refuse .unknown

end Sys2Proof.Machine
end

