-- ==== Sys2Proof/Machine/Commands.lean ====
section
/-! DEFINITION. The other write commands as their owners take them: cranes, lanes, trucks, rules, gangs, clock, notices,
modes, configuration, partition and CLEAR_TABLES (spec/02, 04, 05, 06, 09, 10). -/

namespace Sys2Proof.Machine

def okRes (entity : BitVec 16 := 0) (detail : Byte := 0) : Res := { code := .ok, entity, detail }

/-- A refusal whose rule gives no entity (R194; log 11). -/
def badField (detail : Byte) : Res := { code := .badField, entity := 0, detail }

/-! ## Cranes (R33, R55, R56) -/

def ownCraneHalt (b : Berth) (body : List Byte) : Berth × Res :=
  match craneOf? (byteAt body 0) with
  | none => (b, badField 0)
  | some c => (settle (haltCrane b c), okRes (fin16 c))

def ownCraneResume (b : Berth) (body : List Byte) : Berth × Res :=
  match craneOf? (byteAt body 0) with
  | none => (b, badField 0)
  | some c => (b.modCrane c fun r => { r with halt := false }, okRes (fin16 c))

def ownCraneMode (b : Berth) (body : List Byte) : Berth × Res :=
  match craneOf? (byteAt body 0), seqModeOf? (byteAt body 1), boolOf? (byteAt body 2), controlOf? (byteAt body 3) with
  | some c, some m, some o, some k =>
    let b := b.modCrane c fun r => { r with seqMode := m, oneShot := o }
    let b := match k with
      | .manual => setManual b c
      | .auto => setAuto b c
    (settle b, okRes (fin16 c))
  | _, _, _, _ => (b, badField 0)

/-! ## Lanes, trucks, rules (R82, R97, R108, R109) -/

def laneMask (l : Lane) : BitVec 6 := BitVec.ofNat 6 (2 ^ l.val)

def ownLaneSet (b : Berth) (body : List Byte) : Berth × Res :=
  match laneOf? (byteAt body 0), boolOf? (byteAt body 1) with
  | some l, some opened =>
    if inSet b.shu.openLanes l.val = opened then (b, okRes (fin16 l))
    else
      let b := { b with shu := { b.shu with openLanes := b.shu.openLanes ^^^ laneMask l } }
      (settle (if opened then b.owePromotion else b), okRes (fin16 l))
  | _, _ => (b, badField 0)

/-- R108: the entity and detail of an entry's place. -/
def Place.res : Place → Res
  | .stand c t => okRes (fin16 c) (laneByte t.lane)
  | .holding place _ => okRes 8 (natByte place)

def unknownTag : Res := { code := .unknown, entity := 0xFFFF, detail := 0 }

def ownTruckRemove (b : Berth) (body : List Byte) : Berth × Res :=
  match b.findTruck (word24At body 0) with
  | none => (b, unknownTag)
  | some p => (settle (removeTruck b p), p.res)

/-- R109: the unverified mark of an entry is cleared. -/
def verifyTruck (b : Berth) : Place → Berth
  | .stand c t => b.modEntries c (fun u => u.stay == t.stay) fun u => { u with unverified := false }
  | .holding _ t => { b with shu := { b.shu with
      holding := b.shu.holding.map fun u => if u.arrival == t.arrival then { u with unverified := false } else u } }

def ownTruckVerify (b : Berth) (body : List Byte) : Berth × Res :=
  match b.findTruck (word24At body 0) with
  | none => (b, unknownTag)
  | some p => (settle (verifyTruck b p), p.res)

/-- R97: no letter after padding, and no byte but letters before it.  Only A-Z are
letters here, after padding as before it: a lower-case letter or any other byte after padding is accepted (DESIGN CHOICE,
log 39). -/
def ownerValid : List Byte → Bool
  | [] => true
  | x :: xs => if x = 0 then xs.all fun y => !isLetter y else isLetter x && ownerValid xs

/-- R97: the offset of the first invalid field of a RULE_WRITE body (DESIGN CHOICE, log 9): the order of the
tags is free between 2 and 5; a tag_hi out of range gives 5 also where it lies below a valid tag_lo; the empty mask of a CRANES
or HOLD rule gives 15, the mask. -/
def ruleInvalid (body : List Byte) : Option Byte :=
  let lo := word24At body 2
  let hi := word24At body 5
  let ordered := lo ≤ hi
  firstInvalid
    [((boolOf? (byteAt body 1)).isSome, 1),
     (validTag lo && (ordered || Config.tagOrderAtHi || !validTag hi), 2), (validTag hi && ordered, 5),
     ((condOf? (byteAt body 9)).isSome, 9), (ownerValid (slice body 10 4), 10), ((actionOf? (byteAt body 14)).isSome, 14),
     (!((byteAt body 14 == 1 || byteAt body 14 == 2) && byteAt body 15 == 0), 15)]

/-- R97: the rule that a valid body gives; the chassis set keeps its four members (log 23), and the prefix its letters before
the first 0x00: what stands after padding is not kept (log 39). -/
def ruleOf (body : List Byte) : Rule where
  enabled := byteAt body 1 == 1
  tagLo := word24At body 2
  tagHi := word24At body 5
  chassis := (byteAt body 8).extractLsb' 0 4
  cond := condOf? (byteAt body 9)
  owner := (slice body 10 4).takeWhile fun x => x != 0
  action := actionOf? (byteAt body 14)
  mask := if byteAt body 14 = 1 ∨ byteAt body 14 = 2 then byteAt body 15 else 0

def ownRuleWrite (b : Berth) (body : List Byte) : Berth × Res :=
  let n := (byteAt body 0).toNat
  if n < b.sizes.ruleSlots then
    match ruleInvalid body with
    | some offset => (b, badField offset)
    | none => ({ b with shu := { b.shu with rules := b.shu.rules.set n (ruleOf body) } }, okRes (BitVec.ofNat 16 n))
  else (b, badField 0)

/-! ## Gangs (R76, R136 to R139) -/

def ownGangDuty (b : Berth) (body : List Byte) : Berth × Res :=
  match gangOf? (byteAt body 0), boolOf? (byteAt body 1) with
  | some g, some on => (settle (if on then dutyOn b g else dutyOff b g), okRes (fin16 g))
  | _, _ => (b, badField 0)

def ownGangServe (b : Berth) (body : List Byte) : Berth × Res :=
  match gangOf? (byteAt body 0) with
  | some g => (settle (serve b g (byteAt body 1)), okRes (fin16 g))
  | none => (b, badField 0)

def ownGangRoster (b : Berth) (body : List Byte) : Berth × Res :=
  match gangOf? (byteAt body 0) with
  | some g =>
    if (byteAt body 1).toNat < 16 then
      (settle (applyRoster (b.modGang g fun r => { r with roster := (byteAt body 1).extractLsb' 0 4 }) g), okRes (fin16 g))
    else (b, badField 0)
  | none => (b, badField 0)

def ownGangClear (b : Berth) (body : List Byte) : Berth × Res :=
  match gangOf? (byteAt body 0) with
  | some g =>
    if (b.gangClaim g).any fun k => k.standing == .confirmed then
      (settle (comeOffDeck b g (!b.online (gangStation g))), okRes (fin16 g))
    else (b, { code := .wrongState, entity := 0, detail := 0 })
  | none => (b, badField 0)

/-! ## Clock (R142 to R147) -/

def Berth.setTime (b : Berth) (q : QTime) : Berth := { b with clock := { b.clock with time := q } }

def Berth.setRunning (b : Berth) (r : Bool) : Berth := { b with clock := { b.clock with running := r } }

/-- 6.2: entity 0 and the shift index after the command. -/
def clockRes (b : Berth) : Res := okRes 0 (natByte (oneHotNo b.clock.shiftIndex))

def ownClockSet (b : Berth) (body : List Byte) : Berth × Res :=
  let six := if body.length = 5 then byteAt body 4 else 0
  if 15 < six.toNat then (b, badField 4)
  else
    let b := settle (dueTimeEvent (evalShift (b.setTime { secs := word32At body 0, six := six.extractLsb' 0 4 })))
    (b, clockRes b)

/-- R147: the adjusted quay time. -/
def QTime.adjust (q : QTime) (d : Byte) : QTime := QTime.ofBits (q.bits + d.signExtend 36)

def ownClockAdjust (b : Berth) (body : List Byte) : Berth × Res :=
  let d := byteAt body 0
  if d = 0x80 then (b, badField 0)
  else if d = 0 then (b, clockRes b)
  else
    let t := b.now.adjust d
    let c := b.setTime t
    let b := settle (dueTimeEvent (if t.secs = b.nowSecs then c else evalShift c))
    (b, clockRes b)

def ownClockRun (b : Berth) : Berth × Res :=
  if b.clock.running then (b, clockRes b)
  else
    let b := settle (dueTimeEvent (b.setRunning true))
    (b, clockRes b)

def ownClockStop (b : Berth) : Berth × Res := (b.setRunning false, clockRes b)

/-! ## Notices (R201, R203) -/

def ownNoticeClear (b : Berth) (body : List Byte) : Berth × Res :=
  ({ b with nu := { b.nu with raw := b.nu.raw &&& ~~~(word16At body 0 &&& edgeCauses) } }, okRes)

def ownNoticeEnable (b : Berth) (body : List Byte) : Berth × Res :=
  ({ b with nu := { b.nu with enable := word16At body 0 } }, okRes)

/-! ## Modes (R208 to R212) -/

/-- The board emptied with no report (R178); an order in flight completes its attempt, so the window stays. -/
def Berth.emptyBoard (b : Berth) : Berth :=
  { b with qlc := { b.qlc with craneSlots := Vector.replicate 8 Slot.empty, gangSlots := Vector.replicate 4 Slot.empty,
                               promotes := [] } }

def Berth.setMode (b : Berth) (m : Mode) : Berth := { b with mode := m }

/-- R210. -/
def enterRun (b : Berth) : Berth := (applyRosters (b.setMode .run)).owePromotion

/-- R211. -/
def enterConfigFromRun (b : Berth) : Berth :=
  let b := standsEnterConfig (b.setMode .config)
  let b := b.emptyBoard
  let b := allCranes.foldl (fun b c => if (b.crane c).work = .waiting then endWaiting b c else b) b
  allGangs.foldl gangEnterConfig (claimsEnterConfig b)

/-- R212. -/
def enterMonitor (b : Berth) : Berth :=
  let stations := Vector.ofFn fun i => { b.qlc.stations[i] with heard := false }
  { b.setMode .monitor with qlc := { b.qlc with stations } }

def WorkState.lifted : WorkState → Bool
  | .granted | .lifting => true
  | .idle | .waiting => false

/-- R209: the lowest crane whose work state is GRANTED or LIFTING. -/
def Berth.busyCrane (b : Berth) : Option Crane := allCranes.find? fun c => (b.crane c).work.lifted

/-- R209: a ticket is GRANTED or LIFTING (log 26). -/
def Berth.lifting (b : Berth) : Bool :=
  b.busyCrane.isSome || b.tickets.any fun t => t.state == .granted || t.state == .lifting

def Sizes.valid (z : Sizes) : Bool := z.sum ≤ 1600

/-- R208, R209. -/
def moveMode (b : Berth) (m : Mode) : Berth × Res :=
  let ok := okRes 0 b.mode.code
  match b.mode, m with
  | .config, .config | .run, .run | .monitor, .monitor => (b, ok)
  | .config, .run =>
    if b.sizes.valid then (settle (enterRun b), ok)
    else (b, { code := .partitionInvalid, entity := BitVec.ofNat 16 b.sizes.sum, detail := 0 })
  | .config, .monitor => (enterMonitor b, ok)
  | .run, .config =>
    if b.lifting then (b, { code := .occupied, entity := 0, detail := finByte (b.busyCrane.getD 0) })
    else (settle (enterConfigFromRun b), ok)
  | .monitor, .config => (b.setMode .config, ok)
  | .run, .monitor | .monitor, .run => (b, { code := .notConfig, entity := 0, detail := 0 })

def ownModeSet (b : Berth) (body : List Byte) : Berth × Res :=
  match modeOf? (byteAt body 0) with
  | none => (b, badField 0)
  | some m => moveMode b m

/-! ## Configuration (R214, R215) -/

def inRange (lo hi : Nat) (v : Nat) : Bool := lo ≤ v && v ≤ hi

/-- R214: the value lies in the parameter's range. -/
def paramInRange (code : Nat) (v : Nat) : Bool :=
  match code with
  | 1 => inRange 1 8 v
  | 2 => inRange 0 3 v
  | 3 => inRange 1 63 v
  | 4 => inRange 10 600 v
  | 5 => inRange 1 7 v
  | 6 => v == 0 || inRange 10 900 v
  | 7 => inRange 0 32 v
  | 8 => inRange 1 32 v
  | 9 => inRange 0 255 v
  | 10 | 11 | 12 | 13 => inRange 0 1 v
  | 14 => inRange 60 720 v
  | 15 => inRange 2 4 v
  | _ => true

/-- The parameter written (R214); the index is a lane set's crane. -/
def Params.write (p : Params) (code : Nat) (c : Crane) (value : BitVec 32) : Params :=
  let v := value.toNat
  match code with
  | 1 => { p with clear := v }
  | 2 => { p with deckMargin := v }
  | 3 => { p with laneSets := modAt p.laneSets c fun _ => value.extractLsb' 0 6 }
  | 4 => { p with grantTime := v }
  | 5 => { p with attemptLimit := v }
  | 6 => { p with starveTime := v }
  | 7 => { p with holdDepth := v }
  | 8 => { p with holdMark := v }
  | 9 => { p with poolMark := v }
  | 10 => { p with lenient := v == 1 }
  | 11 => { p with dualCycle := v == 1 }
  | 12 => { p with routeReject := v == 1 }
  | 13 => { p with autoRetire := v == 1 }
  | 14 => { p with shiftLength := v }
  | 15 => { p with shiftCount := v }
  | 16 => { p with shiftOrigin := value }
  | _ => p

/-- R215: the lowest lane outside a lane set whose spot holds an entry. -/
def Berth.strandedLane (b : Berth) (c : Crane) (set : BitVec 6) : Option Lane :=
  allLanes.find? fun l => !inSet set l.val && (b.stand c).any fun t => t.lane == some l

/-- R215: the OCCUPIED guard, with its detail. -/
def configGuard (b : Berth) (code : Nat) (c : Crane) (value : BitVec 32) : Option Byte :=
  match code with
  | 3 => (b.strandedLane c (value.extractLsb' 0 6)).map finByte
  | 7 => if value.toNat < b.occupancy then some (natByte b.occupancy) else none
  | _ => none

def isShiftParam (code : Nat) : Bool := code == 14 || code == 15 || code == 16

/-- R151: a write of a shift parameter re-evaluates the shift; a SHIFT_COUNT write rewrites the one-hot value alone
where the number is unchanged, which is no shift change. -/
def applyConfig (b : Berth) (code : Nat) (c : Crane) (value : BitVec 32) : Berth :=
  let b := { b with params := b.params.write code c value }
  if isShiftParam code then evalShift b else b

def ownConfigWrite (b : Berth) (body : List Byte) : Berth × Res :=
  let code := (byteAt body 0).toNat
  let index := byteAt body 1
  let value := word32At body 2
  if code < 1 ∨ 16 < code then (b, badField 0)
  else if code = 3 ∧ 7 < index.toNat then (b, badField 1)
  else if !paramInRange code value.toNat then (b, badField 2)
  else
    let c := (craneOf? index).getD 0
    match configGuard b code c value with
    | some detail => (b, { code := .occupied, entity := 0, detail })
    | none => (settle (applyConfig b code c value), okRes (BitVec.ofNat 16 code) index)

/-! ## Partition and CLEAR_TABLES (R216, R218) -/

def stepped (step lo hi v : Nat) : Bool := inRange lo hi v && v % step == 0

def partitionInvalidAt (z : Sizes) : Option Byte :=
  firstInvalid [(stepped 64 64 1536 z.ticketSlots, 0), (stepped 16 16 256 z.taskSlots, 2),
    (stepped 8 0 64 z.ruleSlots, 4)]

/-- R216. -/
def applyPartition (b : Berth) (z : Sizes) : Berth :=
  { b with
    sizes := z
    shu := { b.shu with rules := List.replicate z.ruleSlots Rule.cleared }
    ltu := { b.ltu with creation := 0 } }

/-- R216: the field checks, then the tickets, then the task pool.  The rule gives both OCCUPIED details and orders them by
nothing but its text: where a slot is non-FREE and the pool also holds a task or a reservation, the detail is 1 (DESIGN CHOICE,
log 44). -/
def ownPartition (b : Berth) (body : List Byte) : Berth × Res :=
  let z : Sizes := { ticketSlots := (word16At body 0).toNat, taskSlots := (word16At body 2).toNat,
                     ruleSlots := (byteAt body 4).toNat }
  match partitionInvalidAt z with
  | some detail => (b, badField detail)
  | none =>
    if !b.tickets.isEmpty then (b, { code := .occupied, entity := 0, detail := 1 })
    else if !b.ltu.tasks.isEmpty || b.ltu.reserved != 0 then (b, { code := .occupied, entity := 0, detail := 2 })
    else (settle (applyPartition b z), okRes (BitVec.ofNat 16 z.sum) (boolByte (!z.valid)))

/-- R31, R218: a crane record at CLEAR_TABLES. -/
def CraneRec.cleared (r : CraneRec) : CraneRec :=
  { r with position := 0, lastExpired := none, starveStart := none, starveReported := false }

/-- R141, R218: a gang record at CLEAR_TABLES. -/
def GangRec.cleared (r : GangRec) : GangRec :=
  { r with activity := .idle, tasks := [], onDuty := r.onDuty && !r.reliefDue, reliefDue := false }

/-- R218. -/
def clearAll (b : Berth) : Berth :=
  let b := b.emptyBoard
  { b with
    tickets := []
    cranes := Vector.ofFn fun i => b.cranes[i].cleared
    bct := { craneClaims := Vector.replicate 8 none, gangClaims := Vector.replicate 4 none, waiters := [] }
    shu := { b.shu with stands := Vector.replicate 8 [], holding := [] }
    ltu := { gangs := Vector.ofFn fun i => b.ltu.gangs[i].cleared, tasks := [], reserved := 0, creation := 0 }
    nu := { b.nu with raw := b.nu.raw &&& levelCauses } }

def ownClearTables (b : Berth) : Berth × Res := (settle (clearAll b), okRes)

end Sys2Proof.Machine
end

