-- ==== Sys2Proof/Machine/Link.lean ====
section
/-! DEFINITION. The Quay Link Controller: taking frames, replies, the ends of attempts, sending orders and declaring
stations OFFLINE (spec/07_quay_link.md). -/

namespace Sys2Proof.Machine

/-! ## Roles and kinds (R159, R164, 11.5) -/

inductive Role where
  | crane (c : Crane)
  | gateIn
  | gateOut
  | gang (g : Gang)
  | unassigned
  | self
deriving DecidableEq, Repr

/-- The role of a station number (7.4). -/
def roleOf (s : Station) : Role :=
  if h : s.val < 8 then .crane ⟨s.val, h⟩
  else if s.val = 8 then .gateIn
  else if s.val = 9 then .gateOut
  else if h : s.val - 10 < 4 then .gang ⟨s.val - 10, h⟩
  else if s.val = 14 then .unassigned
  else .self

def Role.code : Role → Byte
  | .crane _ => 0 | .gateIn => 1 | .gateOut => 2 | .gang _ => 3 | .unassigned => 4 | .self => 5

/-- R164: the kinds a role may send. -/
def Role.kinds : Role → List Byte
  | .crane _ => [kindHello, kindAsk, kindStandby, kindPosition, kindLockOn, kindSetDown, kindAbandon, kindManual,
      kindAuto, kindLookup]
  | .gateIn => [kindHello, kindArrive, kindLookup]
  | .gateOut => [kindHello, kindDepart, kindLookup]
  | .gang _ => [kindHello, kindDeckRequest, kindTaskDone, kindOffDeck, kindLookup]
  | .unassigned | .self => []

/-- The class of a station's kind (R156, 11.5). -/
def classOf (kind : Byte) : BitVec 2 :=
  if kind = kindArrive ∨ kind = kindDepart then 2 else if kind = kindLookup then 3 else 1

/-- R159, R164: the body has a length its kind allows; a LOOKUP has the length of its selector's value (log 29). -/
def lengthAllowed (kind : Byte) (body : List Byte) : Bool :=
  let n := body.length
  if kind = kindPosition then n == 1
  else if kind = kindLockOn then n == 2 || n == 5
  else if kind = kindSetDown || kind = kindDepart then n == 3
  else if kind = kindAbandon || kind = kindDeckRequest || kind = kindTaskDone then n == 2
  else if kind = kindArrive then n == 4 || n == 12 || n == 20
  else if kind = kindLookup then
    (byteAt body 0 == 1 && n == 3) || (byteAt body 0 == 2 && n == 9) || (byteAt body 0 == 3 && n == 4)
  else n == 0

/-! ## Stations (R161, R162, R177) -/

def Berth.setSent (b : Berth) (x : Option (List Byte)) : Berth := { b with qlc := { b.qlc with sent := x } }

def Berth.setWindow (b : Berth) (x : Option Station) : Berth := { b with qlc := { b.qlc with window := x } }

def setHeard (b : Berth) (s : Station) : Berth := b.modStation s fun r => { r with heard := true }

/-- R162: a good frame makes an OFFLINE station ONLINE; a crane's or GATE-IN's return owes a promotion check. -/
def makeOnline (b : Berth) (s : Station) : Berth :=
  if b.online s then b
  else
    let b := b.modStation s fun r => { r with online := true, fails := 0 }
    match roleOf s with
    | .crane _ | .gateIn => b.owePromotion
    | .gateOut | .gang _ | .unassigned | .self => b

/-- R177: every order addressed to the station leaves the board. -/
def emptyOrders (b : Berth) (role : Role) : Berth :=
  match role with
  | .crane c => { b with qlc := { b.qlc with craneSlots := modAt b.qlc.craneSlots c fun _ => Slot.empty } }
  | .gang g => { b with qlc := { b.qlc with gangSlots := modAt b.qlc.gangSlots g fun _ => Slot.empty } }
  | .gateIn => { b with qlc := { b.qlc with promotes := [] } }
  | .gateOut | .unassigned | .self => b

/-- R177: the blocks that act on the declaration. -/
def offlineEffects (b : Berth) (role : Role) : Berth :=
  match role with
  | .crane c => craneOffline b c
  | .gang g => gangOffline b g
  | .gateIn | .gateOut | .unassigned | .self => b

/-- R177. -/
def declareOffline (b : Berth) (s : Station) : Berth :=
  let b := (b.modStation s fun r => { r with online := false }).raise stationOffline
  offlineEffects (emptyOrders b (roleOf s)) (roleOf s)

/-! ## The end of an attempt (R173, R175, R176) -/

/-- An order as it becomes current (R169). -/
def Order.becomeCurrent (o : Order) (now : QTime) : Order := { o with attempts := 0, inFlight := false, queueTime := now }

/-- R173: the slot after its current order's attempt, and the order reported, with whether it was delivered. -/
def Slot.endAttempt (s : Slot) (e : AttemptEnd) (now : QTime) : Slot × Option (OrderBody × Bool) :=
  match s.current with
  | none => (s, none)
  | some cur =>
    let final : Bool := e == .refused || 4 ≤ cur.attempts + 1
    match e, s.upcoming with
    | .accepted, none => (Slot.empty, some (cur.body, true))
    | .accepted, some n => ({ current := some (n.becomeCurrent now), upcoming := none }, some (cur.body, true))
    | _, none =>
      if final then (Slot.empty, some (cur.body, false))
      else ({ s with current := some { cur with attempts := cur.attempts + 1, inFlight := false, queueTime := now } }, none)
    | _, some n =>
      if n.body.cancels cur.body then (Slot.empty, none)
      else ({ current := some (n.becomeCurrent now), upcoming := none }, if final then some (cur.body, false) else none)

/-- R173, for the head of the promote queue. -/
def promotesEndAttempt (l : List Order) (e : AttemptEnd) (now : QTime) : List Order × Option (OrderBody × Bool) :=
  match l with
  | [] => ([], none)
  | o :: rest =>
    let next := promotesAfter (o :: rest) rest now
    match e with
    | .accepted => (next, some (o.body, true))
    | .refused => (next, some (o.body, false))
    | .noReply =>
      if 4 ≤ o.attempts + 1 then (next, some (o.body, false))
      else ({ o with attempts := o.attempts + 1, inFlight := false, queueTime := now } :: rest, none)

/-- R54. -/
def craneUndelivered (b : Berth) (c : Crane) (body : OrderBody) : Berth :=
  match body with
  | .grant _ _ _ _ _ _ _ id =>
    if (b.crane c).work = .granted ∧ (b.crane c).grantId = some id then withdraw b c .undelivered else b
  | _ => b

/-- R103, for the entry whose stay the PROMOTE began (log 16). -/
def promoteUndelivered (b : Berth) (body : OrderBody) : Berth :=
  match body with
  | .promote tag c _ stay =>
    match (b.stand c).find? fun t => t.tag == tag && t.stay == stay with
    | none => b
    | some t =>
      match t.state, (b.crane c).work with
      | .waiting, _ => returnToHolding b c t
      | .bound, .granted => returnToHolding (withdraw b c .promoteFailed) c t
      | _, _ => b
  | _ => b

/-- R176: the block that posted the order takes the report. -/
def ownerReport (b : Berth) (role : Role) (body : OrderBody) (delivered : Bool) : Berth :=
  match role with
  | .crane c => if delivered then b else craneUndelivered b c body
  | .gang g => if delivered then gangDelivered b g body else gangUndelivered b g body
  | .gateIn => (if delivered then b else promoteUndelivered b body).owePromotion
  | .gateOut | .unassigned | .self => b

def StationRec.countFail (r : StationRec) : StationRec :=
  { r with fails := if h : r.fails.val + 1 < 4 then ⟨r.fails.val + 1, h⟩ else 3 }

/-- R176, R177: the report, then the fail count, then the declaration.  The promotion check that a PROMOTE's report owes
(R103) is made at the end of the change, so after a declaration of GATE-IN that the same report causes (log 38). -/
def reportOrder (b : Berth) (s : Station) (report : Option (OrderBody × Bool)) : Berth :=
  match report with
  | none => b
  | some (body, true) => (ownerReport b (roleOf s) body true).modStation s fun r => { r with fails := 0 }
  | some (body, false) =>
    let b := (ownerReport b (roleOf s) body false).modStation s StationRec.countFail
    if (b.station s).fails = 3 then declareOffline b s else b

def Slot.flying (s : Slot) : Bool := s.current.any fun o => o.inFlight

/-- The station whose order is in flight (R174: one at most). -/
def Berth.flying (b : Berth) : Option Station :=
  match allCranes.find? fun c => (b.qlc.craneSlots[c]).flying with
  | some c => some (craneStation c)
  | none =>
    match allGangs.find? fun g => (b.qlc.gangSlots[g]).flying with
    | some g => some (gangStation g)
    | none => if (b.qlc.promotes.head?.any fun o => o.inFlight) then some gateIn else none

/-- R173, R175: the attempt of the order in flight ends.  When the board has been emptied meanwhile, nothing else changes
(R178; log 35). -/
def endAttempt (b : Berth) (e : AttemptEnd) : Berth :=
  let b := b.setWindow none
  match b.flying with
  | none => b
  | some s =>
    match roleOf s with
    | .crane c =>
      let (slot, report) := (b.qlc.craneSlots[c]).endAttempt e b.now
      reportOrder { b with qlc := { b.qlc with craneSlots := modAt b.qlc.craneSlots c fun _ => slot } } s report
    | .gang g =>
      let (slot, report) := (b.qlc.gangSlots[g]).endAttempt e b.now
      reportOrder { b with qlc := { b.qlc with gangSlots := modAt b.qlc.gangSlots g fun _ => slot } } s report
    | .gateIn =>
      let (promotes, report) := promotesEndAttempt b.qlc.promotes e b.now
      reportOrder { b with qlc := { b.qlc with promotes } } s report
    | .gateOut | .unassigned | .self => b

/-! ## Taking a frame (R160 to R168) -/

/-- R165: the kinds that CONFIG hands on. -/
def takenInConfig (kind : Byte) : Bool :=
  kind == kindHello || kind == kindDepart || kind == kindOffDeck || kind == kindLookup

/-- R168. -/
def lookupReply (b : Berth) (body : List Byte) : Reply :=
  if byteAt body 0 = 1 then ticketReply (b.ticket? (word16At body 1))
  else if byteAt body 0 = 2 then ticketReply ((linkContainer? (body.drop 1)).bind b.indexed?)
  else lookupTagReply b (word24At body 1)

/-- R166: the owner takes a report. -/
def ownReport (b : Berth) (role : Role) (kind : Byte) (body : List Byte) : Berth × Reply :=
  if kind = kindLookup then (b, lookupReply b body)
  else match role with
    | .crane c =>
      if kind = kindAsk then askReport b c
      else if kind = kindStandby then standbyReport b c
      else if kind = kindPosition then positionReport b c (byteAt body 0)
      else if kind = kindLockOn then
        lockOnReport b c (word16At body 0) (if body.length = 5 then tagOf? (word24At body 2) else none)
      else if kind = kindSetDown then setDownReport b c (word16At body 0) (byteAt body 2 != 0)
      else if kind = kindAbandon then abandonReport b c (word16At body 0)
      else if kind = kindManual then (setManual b c, accept)
      else if kind = kindAuto then (setAuto b c, accept)
      else (b, accept)
    | .gateIn => if kind = kindArrive then arriveReport b body else (b, accept)
    | .gateOut => if kind = kindDepart then departReport b (word24At body 0) else (b, accept)
    | .gang g =>
      if kind = kindDeckRequest then deckRequest b g (word16At body 0)
      else if kind = kindTaskDone then taskDoneReport b g (word16At body 0)
      else if kind = kindOffDeck then offDeckReport b g
      else (b, accept)
    | .unassigned | .self => (b, accept)

/-- A reply is begun in the window of the frame it answers (R160). -/
def sendReply (b : Berth) (s : Station) (r : Reply) : Berth := b.setSent (some (r.frame s))

/-- A refusal of R164 is answered in RUN and CONFIG, and not in MONITOR (R165). -/
def answer (b : Berth) (s : Station) (r : Reply) : Berth :=
  if b.mode = .monitor then b else sendReply b s r

/-- R165, R166: a frame that has passed R163 and R164. -/
def handFrame (b : Berth) (s : Station) (kind : Byte) (body : List Byte) : Berth :=
  match b.mode with
  | .monitor => b
  | .config =>
    let b' := makeOnline b s
    let (b', r) := if takenInConfig kind then ownReport b' (roleOf s) kind body else (b', refuse .notRunning)
    sendReply (settleIf b b') s r
  | .run =>
    let (b', r) := ownReport (makeOnline b s) (roleOf s) kind body
    sendReply (settleIf b b') s r

/-- R163, R164: a frame from a station while no order's window is open. -/
def takeFrame (b : Berth) (s : Station) (cls : BitVec 2) (kind : Byte) (body : List Byte) : Berth :=
  if 14 ≤ s.val ∨ kind = kindReply then b.raise linkError
  else if !(roleOf s).kinds.contains kind || cls != classOf kind then
    answer (b.raise linkError) s (refuse .wrongStation)
  else if !lengthAllowed kind body then answer (b.raise linkError) s (refuse .wrongState)
  else handFrame b s kind body

/-- R160: a good REPLY naming the addressee (log 17). -/
def goodReply (addressee s : Station) (cls : BitVec 2) (kind : Byte) (body : List Byte) : Bool :=
  s == addressee && cls == 0 && kind == kindReply && 2 ≤ body.length && body.length ≤ 12

/-- A frame that has passed R157 and R158.  Within an order's window, one that is not the reply awaited is not taken, and
leaves the link state of its station as it is, OFFLINE too (R160 over R162: DESIGN CHOICE, log 42). -/
def goodFrame (b : Berth) (s : Station) (cls : BitVec 2) (kind : Byte) (body : List Byte) : Berth :=
  let b := (setHeard b s).setSent none
  match b.qlc.window with
  | some a =>
    if goodReply a s cls kind body then
      settle (endAttempt b (if byteAt body 0 = ReplyCode.accept.code then .accepted else .refused))
    else settle (endAttempt (b.raise linkError) .noReply)
  | none => takeFrame b s cls kind body

/-- R157, R158: a frame that fails the checks. -/
def badFrame (b : Berth) : Berth :=
  let b := (b.setSent none).raise linkError
  if b.qlc.window.isSome then settle (endAttempt b .noReply) else b

/-- A frame event of the table: one whose length field could not state its body is no frame (R157). -/
def frameEvent (kind : Byte) (f : Frame) (b : Berth) : Berth :=
  if f.body.length ≤ maxFrameBody then goodFrame b f.station f.cls kind f.body else badFrame b

/-- R157, R158: the frame that bytes on the line make, when they make a good one (log 18). -/
def parseFrame (raw : List Byte) : Option (Station × BitVec 2 × Byte × List Byte) :=
  let h := byteAt raw 0
  let n := (byteAt raw 2).toNat
  let body := slice raw 3 n
  let station : Station := ⟨(h.extractLsb' 2 4).toNat, (h.extractLsb' 2 4).isLt⟩
  if 5 ≤ raw.length ∧ n ≤ maxFrameBody ∧ raw.length = n + 5 ∧ h.extractLsb' 0 2 = 0
      ∧ word16At raw (n + 3) = checkSequence (raw.take (n + 3)) then
    some (station, h.extractLsb' 6 2, byteAt raw 1, body)
  else none

def rawFrame (raw : List Byte) (b : Berth) : Berth :=
  match parseFrame raw with
  | some (s, cls, kind, body) => goodFrame b s cls kind body
  | none => badFrame b

/-- R175: the window closes with no reply begun. -/
def windowClose (b : Berth) : Berth :=
  let b := b.setSent none
  if b.qlc.window.isSome then settle (endAttempt b .noReply) else b

/-! ## Sending (R174) -/

def Order.waits (o : Order) : Bool := !o.inFlight

/-- The current order of a slot that may be begun. -/
def Slot.sendable (s : Slot) : Option Order := s.current.filter Order.waits

def earlier (x y : Station × Order) : Bool := x.2.queueTime.bits.toNat < y.2.queueTime.bits.toNat

/-- R174: crane slots by queue time, then gang slots, then the head of the promote queue. -/
def Berth.nextOrder (b : Berth) : Option (Station × Order) :=
  match firstLeast earlier (allCranes.filterMap fun c => (b.qlc.craneSlots[c]).sendable.map fun o => (craneStation c, o)) with
  | some x => some x
  | none =>
    match firstLeast earlier (allGangs.filterMap fun g => (b.qlc.gangSlots[g]).sendable.map fun o => (gangStation g, o)) with
    | some x => some x
    | none => (b.qlc.promotes.head?.filter Order.waits).map fun o => (gateIn, o)

def Order.fly (o : Order) : Order := { o with inFlight := true }

def Slot.fly (s : Slot) : Slot := { s with current := s.current.map Order.fly }

/-- The current order of a station, or the head of the promote queue, is in flight. -/
def launch (b : Berth) (s : Station) : Berth :=
  match roleOf s with
  | .crane c => { b with qlc := { b.qlc with craneSlots := modAt b.qlc.craneSlots c Slot.fly } }
  | .gang g => { b with qlc := { b.qlc with gangSlots := modAt b.qlc.gangSlots g Slot.fly } }
  | .gateIn => { b with qlc := { b.qlc with promotes := b.qlc.promotes.modifyHead Order.fly } }
  | .gateOut | .unassigned | .self => b

/-- R174, R156: the transmitter begins an order, and what becomes of it. -/
def sendOrder (outcome : SendOutcome) (b : Berth) : Berth :=
  let b := b.setSent none
  if b.mode = .run ∧ b.qlc.window = none then
    match b.nextOrder with
    | none => b
    | some (s, o) =>
      match outcome with
      | .lost => b
      | .sent => ((launch b s).setWindow (some s)).setSent (some (frameBytes 0 s o.body.kind o.body.bytes))
      | .bitError => settle (endAttempt (launch b s) .noReply)
  else b

end Sys2Proof.Machine
end

