-- ==== Sys2Proof/Machine/Windows.lean ====
section
/-! DEFINITION. The read windows: the layouts of spec/11_record_and_message_layouts.md, 11.3, with the absence encodings
of R221. -/

namespace Sys2Proof.Machine

/-- Ticket window, 64 bytes. -/
def Ticket.windowBytes (t : Ticket) : List Byte :=
  window 64 (bytes16 t.number ++ [finByte t.crane, t.state.code] ++ bytes16 t.seq ++ [t.kind.code, t.size.code, t.bay, t.row,
    t.tier, t.level.code, finByte t.priority, boolByte t.oneShot, t.lash.code, t.lashState.code] ++ ticketBytes t.partner
    ++ containerBytes t.container ++ [t.marks.code, t.reason.code, finByte t.attempts] ++ tagBytes t.truck
    ++ [laneByte t.lane] ++ taskBytes t.task ++ secsBytes t.deadline ++ secsBytes t.releasedAt ++ secsBytes t.grantedAt
    ++ secsBytes t.doneAt)

/-- R4. -/
def ticketWindow (b : Berth) (n : TicketNo) : List Byte := (b.ticket? n).elim (zeros 64) Ticket.windowBytes

def Result.bytes (r : Result) : List Byte :=
  [r.code.code, r.command] ++ bytes16 r.entity ++ [r.detail, r.mode.code] ++ bytes16 r.free

/-- Crane window, 32 bytes (R32). -/
def craneWindow (b : Berth) (x : Byte) : List Byte :=
  match craneOf? x with
  | none => ones 32
  | some c =>
    let r := b.crane c
    window 32 ([r.work.code, r.control.code, r.seqMode.code, boolByte r.oneShot, boolByte r.halt,
      boolByte (b.online (craneStation c))] ++ ticketBytes r.grantTicket ++ ticketBytes r.grantPartner ++ [bayByte r.grantBay]
      ++ tagBytes r.grantTruck ++ [laneByte r.grantLane] ++ qtimeBytes r.due
      ++ ticketBytes (r.lastExpired.map (·.1)) ++ ticketBytes (r.lastExpired.bind (·.2)) ++ [r.position]
      ++ qtimeBytes r.starveStart ++ [boolByte r.starveReported])

/-- The two cargo places of a spot block or the holding window. -/
def cargoBytes (l : List ContainerId) : List Byte :=
  (l.head?.getD (zeros 11)) ++ (l.tail.head?.getD (zeros 11))

/-- One spot block of 40 bytes (11.3). -/
def spotBlock (b : Berth) (c : Crane) (l : Lane) : List Byte :=
  match (b.stand c).find? fun t => t.lane == some l with
  | none => zeros 40
  | some t =>
    bytes24 t.tag ++ [t.chassis.code, natByte t.cargo.length] ++ cargoBytes t.cargo
      ++ [boolByte t.unverified, boolByte t.priority, t.state.code] ++ bytes32 t.joinedAt ++ bytes32 t.arrivedAt
      ++ [natByte (placeOf (fun u => u.stay == t.stay) (b.stand c)), boolByte (b.promoting t.tag)]

/-- Stand window, 256 bytes (R111). -/
def standWindow (b : Berth) (x : Byte) : List Byte :=
  match craneOf? x with
  | none => ones 256
  | some c =>
    window 256 ((allLanes.flatMap (spotBlock b c)) ++ [finByte c, b.params.laneSets[c].setWidth 8,
      b.shu.openLanes.setWidth 8, natByte (b.stand c).length])

/-- Holding window, 48 bytes (R111). -/
def holdingWindow (b : Berth) (place : Byte) : List Byte :=
  let head := [place, natByte b.shu.holding.length, natByte b.promotingCount, natByte b.params.holdDepth]
  match (if place = 0 then none else b.shu.holding[place.toNat - 1]?) with
  | none => window 48 head
  | some t =>
    window 48 (head ++ bytes24 t.tag ++ [t.chassis.code, natByte t.cargo.length] ++ cargoBytes t.cargo
      ++ [boolByte t.unverified, boolByte t.priority] ++ bytes32 t.arrivedAt ++ bytes32 t.joinedAt ++ [t.targets])

/-- One list place of the gang window: a task number and its state. -/
def listPlace (b : Berth) (n : Option TaskNo) : List Byte :=
  match n with
  | none => ones 3
  | some n => bytes16 n ++ [((b.task? n).map (·.state.code)).getD 0]

/-- Gang window, 40 bytes (R115). -/
def gangWindow (b : Berth) (x : Byte) : List Byte :=
  match gangOf? x with
  | none => ones 40
  | some g =>
    let r := b.gang g
    window 40 ([finByte g, boolByte r.onDuty, r.activity.code, boolByte r.reliefDue, r.served, r.roster.setWidth 8,
      boolByte (b.online (gangStation g)), natByte r.tasks.length]
      ++ ([0, 1, 2, 3, 4, 5, 6, 7].flatMap fun i => listPlace b r.tasks[i]?)
      ++ [((b.gangClaim g).map (·.bay)).getD 0, ((b.gangClaim g).map (·.standing.code)).getD 0])

/-- Task window, 16 bytes (R118). -/
def taskWindow (b : Berth) (n : TaskNo) : List Byte :=
  if n.toNat < b.sizes.taskSlots then
    match b.task? n with
    | none => window 16 (bytes16 n)
    | some t =>
      let g := b.holder n
      window 16 (bytes16 n ++ [t.state.code, t.kind.code, t.bay, finByte t.crane] ++ nat16 t.linked ++ bytes32 t.created
        ++ [g.elim 0xFF finByte, g.elim 0 fun g => natByte (placeOf (fun m => m == n) (b.gang g).tasks)])
  else ones 16

/-- Claims window, 32 bytes (R80). -/
def claimsWindow (b : Berth) : List Byte :=
  window 32 ((allCranes.map fun c => bayByte (b.craneClaim c)) ++ (allGangs.map fun g => ((b.gangClaim g).map (·.bay)).getD 0)
    ++ (allGangs.map fun g => ((b.gangClaim g).map (·.standing.code)).getD 0) ++ [natByte b.bct.waiters.length]
    ++ window 8 (b.bct.waiters.flatMap fun w => [finByte w.1, w.2]) ++ [natByte b.params.clear, natByte b.params.deckMargin])

/-- The grant ticket or task an order is shown by (11.3). -/
def OrderBody.shown : OrderBody → BitVec 16
  | .grant t .. | .withdraw t .. | .dispatch t .. | .deckClear t _ | .recall t => t
  | .promote .. => 0xFFFF

/-- The current and next orders of a slot as the station window shows them. -/
def Slot.bytes (s : Slot) : List Byte :=
  (match s.current with
    | none => [0, 0xFF, 0xFF, 0, 0]
    | some o => [o.body.kind] ++ bytes16 o.body.shown ++ [natByte o.attempts, boolByte o.inFlight])
  ++ (match s.upcoming with
    | none => [0, 0xFF, 0xFF]
    | some o => [o.body.kind] ++ bytes16 o.body.shown)

def Berth.slotOf (b : Berth) : Role → Slot
  | .crane c => b.qlc.craneSlots[c]
  | .gang g => b.qlc.gangSlots[g]
  | .gateIn | .gateOut | .unassigned | .self => Slot.empty

/-- The promote queue as GATE-IN's window shows it. -/
def promoteBytes (b : Berth) (role : Role) : List Byte :=
  match role with
  | .gateIn =>
    [natByte b.qlc.promotes.length] ++ tagBytes (b.qlc.promotes.head?.bind fun o => o.body.promoteTag)
      ++ [natByte (b.qlc.promotes.head?.elim 0 fun o => o.attempts)]
  | .crane _ | .gateOut | .gang _ | .unassigned | .self => zeros 5

/-- Station window, 24 bytes (R179; log 22 for a station with no slot). -/
def stationWindow (b : Berth) (x : Byte) : List Byte :=
  match stationOf? x with
  | none => ones 24
  | some s =>
    let r := b.station s
    window 24 ([x, (roleOf s).code, boolByte r.online, finByte r.fails, boolByte r.heard] ++ (b.slotOf (roleOf s)).bytes
      ++ promoteBytes b (roleOf s))

/-- Rule window, 16 bytes (R98). -/
def ruleWindow (b : Berth) (x : Byte) : List Byte :=
  if x.toNat < b.sizes.ruleSlots then
    match b.shu.rules[x.toNat]? with
    | none => window 16 [x]
    | some r =>
      window 16 ([x, boolByte r.enabled] ++ bytes24 r.tagLo ++ bytes24 r.tagHi ++ [r.chassis.setWidth 8,
        r.cond.elim 0 CargoCond.code] ++ window 4 r.owner ++ [r.action.elim 0 RuleAction.code, r.mask])
  else ones 16

/-- Clock window, 12 bytes (R148). -/
def clockWindow (b : Berth) : List Byte :=
  window 12 (bytes32 b.clock.time.secs ++ [b.clock.time.six.setWidth 8, boolByte b.clock.running,
    b.clock.shiftIndex.setWidth 8] ++ bytes32 (BitVec.ofInt 32 (shiftNumber b.params b.nowSecs)))

/-- Notice window, 8 bytes (R204). -/
def noticeWindow (b : Berth) : List Byte :=
  bytes16 b.nu.raw ++ bytes16 b.nu.enable ++ bytes16 b.nu.flagged ++ [boolByte (b.nu.flagged != 0), 0]

def Params.switches (p : Params) : Byte :=
  boolByte p.lenient + 2 * boolByte p.dualCycle + 4 * boolByte p.routeReject + 8 * boolByte p.autoRetire

/-- Configuration window, 48 bytes (R219). -/
def configWindow (b : Berth) : List Byte :=
  let p := b.params
  let z := b.sizes
  window 48 ([b.mode.code, natByte p.clear, natByte p.deckMargin] ++ (allCranes.map fun c => p.laneSets[c].setWidth 8)
    ++ nat16 p.grantTime ++ [natByte p.attemptLimit] ++ nat16 p.starveTime ++ [natByte p.holdDepth, natByte p.holdMark,
    natByte p.poolMark, p.switches] ++ nat16 p.shiftLength ++ [natByte p.shiftCount] ++ bytes32 p.shiftOrigin
    ++ [b.shu.openLanes.setWidth 8] ++ nat16 z.ticketSlots ++ nat16 z.taskSlots ++ [natByte z.ruleSlots] ++ nat16 z.sum
    ++ [boolByte z.valid] ++ nat16 z.taskSlotsWithin ++ nat16 b.freeTickets ++ nat16 b.ltu.tasks.length
    ++ [natByte b.ltu.reserved] ++ nat16 b.freeTasks ++ [natByte b.occupancy])

end Sys2Proof.Machine
end

