-- ==== Sys2Proof/Machine/Port.lean ====
section
/-! DEFINITION. The Planning Port: the transaction states, the staging buffer, snapshots, the timer, the result record and
the application of writes (spec/08_planning_port.md), and a host command as its actions on the wire (log 1). -/

namespace Sys2Proof.Machine

/-! ## Command codes (11.2) -/

/-- R183: the parameter bytes of a read code. -/
def readParams? (code : Byte) : Option Nat :=
  match code.toNat with
  | 0x01 | 0x09 | 0x0C | 0x0D | 0x0E => some 0
  | 0x02 | 0x08 => some 2
  | 0x03 => some 15
  | 0x04 | 0x05 | 0x06 | 0x07 | 0x0A | 0x0B => some 1
  | _ => none

/-- R186: the minimum and maximum body lengths of a write code. -/
def writeLengths? (code : Byte) : Option (Nat × Nat) :=
  match code.toNat with
  | 0x20 => some (32, 33)
  | 0x21 => some (30, 31)
  | 0x22 | 0x23 | 0x24 | 0x25 => some (2, 3)
  | 0x26 => some (3, 4)
  | 0x30 | 0x31 => some (1, 1)
  | 0x32 => some (4, 4)
  | 0x38 => some (2, 2)
  | 0x39 | 0x3A => some (3, 3)
  | 0x40 | 0x41 | 0x42 => some (2, 2)
  | 0x43 => some (1, 1)
  | 0x48 => some (16, 16)
  | 0x50 => some (4, 5)
  | 0x51 => some (1, 1)
  | 0x52 | 0x53 => some (0, 0)
  | 0x58 | 0x59 => some (2, 2)
  | 0x60 => some (1, 1)
  | 0x61 => some (6, 6)
  | 0x62 => some (5, 5)
  | 0x63 => some (0, 0)
  | _ => none

/-- R190: what a mode refuses. -/
def modeRefusal (code : Byte) (m : Mode) : Option ResultCode :=
  match code.toNat, m with
  | 0x38, .config | 0x40, .config | 0x41, .config | 0x42, .config | 0x43, .config
  | 0x38, .monitor | 0x40, .monitor | 0x41, .monitor | 0x42, .monitor | 0x43, .monitor => some .notRunning
  | 0x61, .run | 0x62, .run | 0x63, .run | 0x61, .monitor | 0x62, .monitor | 0x63, .monitor => some .notConfig
  | _, _ => none

/-- R187, third step: the owner of a write takes its body. -/
def ownWrite (code : Byte) (body : List Byte) (b : Berth) : Berth × Res :=
  match code.toNat with
  | 0x20 => ownLoad b body
  | 0x21 => ownAmend b body
  | 0x22 => ownRelease b body
  | 0x23 => ownHold b body
  | 0x24 => ownCancel b body
  | 0x25 => ownRetire b body
  | 0x26 => ownForce b body
  | 0x30 => ownCraneHalt b body
  | 0x31 => ownCraneResume b body
  | 0x32 => ownCraneMode b body
  | 0x38 => ownLaneSet b body
  | 0x39 => ownTruckVerify b body
  | 0x3A => ownTruckRemove b body
  | 0x40 => ownGangDuty b body
  | 0x41 => ownGangServe b body
  | 0x42 => ownGangRoster b body
  | 0x43 => ownGangClear b body
  | 0x48 => ownRuleWrite b body
  | 0x50 => ownClockSet b body
  | 0x51 => ownClockAdjust b body
  | 0x52 => ownClockRun b
  | 0x53 => ownClockStop b
  | 0x58 => ownNoticeClear b body
  | 0x59 => ownNoticeEnable b body
  | 0x60 => ownModeSet b body
  | 0x61 => ownConfigWrite b body
  | 0x62 => ownPartition b body
  | 0x63 => ownClearTables b
  | _ => (b, { code := .badCommand, entity := 0, detail := 0xFF })

/-- R183: the snapshot of a read whose parameters are complete. -/
def snapshotOf (code : Byte) (params : List Byte) (result : Result) (b : Berth) : List Byte :=
  match code.toNat with
  | 0x01 => result.bytes
  | 0x02 => ticketWindow b (word16At params 0)
  | 0x03 => bytes16 (findNumber b (word16At params 0) (byteAt params 2) (byteAt params 3) (slice params 4 11))
  | 0x04 => craneWindow b (byteAt params 0)
  | 0x05 => standWindow b (byteAt params 0)
  | 0x06 => holdingWindow b (byteAt params 0)
  | 0x07 => gangWindow b (byteAt params 0)
  | 0x08 => taskWindow b (word16At params 0)
  | 0x09 => claimsWindow b
  | 0x0A => stationWindow b (byteAt params 0)
  | 0x0B => ruleWindow b (byteAt params 0)
  | 0x0C => clockWindow b
  | 0x0D => noticeWindow b
  | _ => configWindow b

/-! ## The result record (R193, R194) -/

/-- The record as a change of the berth to `b` ends. -/
def resultOf (command : Byte) (r : Res) (b : Berth) : Result :=
  { code := r.code, command, entity := r.entity, detail := r.detail, mode := b.mode,
    free := BitVec.ofNat 16 b.freeTickets }

/-- R187: length, mode, owner. -/
def applyWrite (code : Byte) (body : List Byte) (b : Berth) : Berth × Res :=
  if body.length < ((writeLengths? code).map (·.1)).getD 0 then
    (b, { code := .badCommand, entity := 0, detail := natByte body.length })
  else match modeRefusal code b.mode with
    | some rc => (b, { code := rc, entity := 0, detail := 0 })
    | none => ownWrite code body b

/-! ## The transaction (R180 to R192) -/

/-- R181, IDLE: chip select falls. -/
def chipFall (s : State) : State :=
  if s.port.selected then s
  else if s.port.inReset then { s with port := { s.port with selected := true } }
  else { s with port := { s.port with
    selected := true, state := .command, command := 0, params := [], staged := [], snapshot := none, position := 0,
    timer := true, modeAtFall := s.berth.mode, miso := none, misoHeld := none } }

/-- R181: the command byte is taken. -/
def takeCommand (s : State) (code : Byte) : Port :=
  let p := { s.port with command := code, miso := some s.port.modeAtFall.code }
  match readParams? code with
  | some 0 => { p with state := .window, position := 0, snapshot := some (snapshotOf code [] s.port.result s.berth) }
  | some _ => { p with state := .parameter }
  | none => if (writeLengths? code).isSome then { p with state := .staging } else { p with state := .discard }

/-- R181, R183: a parameter byte is taken. -/
def takeParam (s : State) (x : Byte) : Port :=
  let params := s.port.params ++ [x]
  let p := { s.port with params, miso := some 0 }
  if params.length = (readParams? s.port.command).getD 0 then
    { p with state := .window, position := 0, snapshot := some (snapshotOf s.port.command params s.port.result s.berth) }
  else p

/-- R184: a byte of the window, at the position, which advances and wraps. -/
def takeWindow (p : Port) : Port :=
  let w := p.snapshot.getD []
  { p with miso := some (byteAt w p.position), position := if p.position + 1 < w.length then p.position + 1 else 0 }

/-- R186. -/
def takeBody (p : Port) (x : Byte) : Port :=
  { p with miso := some 0
           staged := if p.staged.length < ((writeLengths? p.command).map (·.2)).getD 0 then p.staged ++ [x] else p.staged }

/-- R181, R182: a byte completes its eighth clock edge. -/
def takeByte (s : State) (x : Byte) : State :=
  if s.port.inReset then s
  else match s.port.state with
    | .idle => s
    | .command => { s with port := takeCommand s x }
    | .parameter => { s with port := takeParam s x }
    | .window => { s with port := takeWindow s.port }
    | .staging => { s with port := takeBody s.port x }
    | .discard => { s with port := { s.port with miso := some 0 } }
    | .abandoned => { s with port := { s.port with miso := some (s.port.misoHeld.getD 0xFF), misoHeld := none } }

def takeBytes (s : State) (l : List Byte) : State := l.foldl takeByte s

/-- The port as a transaction ends. -/
def Port.ended (p : Port) : Port :=
  { p with selected := false, state := .idle, timer := false, staged := [], miso := none, misoHeld := none }

/-- R181: chip select rises. -/
def chipRise (s : State) : State :=
  if s.port.inReset || !s.port.selected then { s with port := { s.port with selected := false } }
  else match s.port.state with
    | .staging =>
      let (b, r) := applyWrite s.port.command s.port.staged s.berth
      { s with berth := b, port := { s.port.ended with result := resultOf s.port.command r b } }
    | .discard =>
      { s with port := { s.port.ended with
          result := resultOf s.port.command { code := .badCommand, entity := 0, detail := 0xFF } s.berth } }
    | .idle | .command | .parameter | .window | .abandoned => { s with port := s.port.ended }

/-- R182: what the byte in progress gives. -/
def Port.misoNow (p : Port) : Option Byte :=
  match p.state with
  | .idle => none
  | .command => some p.modeAtFall.code
  | .parameter | .staging | .discard => some 0
  | .window => some (byteAt (p.snapshot.getD []) p.position)
  | .abandoned => some 0xFF

/-- R191: the transaction timer expires; a byte in progress completes with the value it began with (R182). -/
def portTimeoutEvent (byteInProgress : Bool) (s : State) : State :=
  match s.port.state with
  | .idle | .abandoned => s
  | .command | .parameter | .window | .staging | .discard =>
    { s with
      berth := s.berth.raise portTimeout
      port := { s.port with
        state := .abandoned, timer := false, staged := [], snapshot := none
        misoHeld := if byteInProgress then s.port.misoNow else none
        result := resultOf s.port.command { code := .timeout, entity := 0, detail := 0 } s.berth } }

/-! ## Host commands as actions on the wire (log 1) -/

/-- The command byte is in, with the transaction it opens: one is opened where none stands ready for it. -/
def openWith (code : Byte) (s : State) : State :=
  match s.port.state, s.port.selected with
  | .idle, false => takeByte (chipFall s) code
  | .command, _ => takeByte s code
  | _, _ => takeByte (chipFall (chipRise s)) code

/-- A read: the command byte and its parameters, or the parameters still missing of the same read. -/
def hostRead (code : Byte) (params : List Byte) (s : State) : State :=
  if s.port.state = .parameter ∧ s.port.command = code then takeBytes s (params.drop s.port.params.length)
  else takeBytes (openWith code s) params

/-- A write: the command byte, its body and the rise; or the rise alone, where the same write is staged already. -/
def hostWrite (code : Byte) (body : List Byte) (s : State) : State :=
  if s.port.state = .staging ∧ s.port.command = code then chipRise s
  else chipRise (takeBytes (openWith code s) body)

/-- R198. -/
def emptyTransactionEvent (s : State) : State :=
  match s.port.state, s.port.selected with
  | .idle, false => chipRise (chipFall s)
  | .command, _ => chipRise s
  | _, _ => chipRise (chipFall (chipRise s))

/-! ## Reset (R197, R220) -/

/-- Power-on, or RESET asserted: every block at its reset value, no event taken until the reset ends (log 2). -/
def resetEvent (s : State) : State :=
  { s with
    berth := { Berth.reset with free := s.berth.free }
    port := { Port.reset with inReset := true, selected := s.port.selected } }

/-- R220: the reset ends. -/
def resetEndEvent (s : State) : State := { s with port := { s.port with inReset := false } }

/-- An event of the berth, which no block takes while RESET is asserted (R220). -/
def berthEvent (f : Berth → Berth) (s : State) : State := if s.port.inReset then s else { s with berth := f s.berth }

end Sys2Proof.Machine
end

