-- ==== Sys2Proof/Machine/HostReads.lean ====
section
/-! DEFINITION. The meanings of the read commands (R183): the wire actions of a read of each code (log 1). -/

namespace Sys2Proof.Machine

abbrev Outcome := Host.Outcome State Fault Refusal

/-- STATUS (R195). -/
def execStatus (s : State) : Outcome := .next (hostRead 0x01 [] s)

/-- READ_TICKET (R4). -/
def execReadTicket (number : TicketNo) (s : State) : Outcome := .next (hostRead 0x02 (bytes16 number) s)

/-- FIND (R23). -/
def execFind (after : TicketNo) (states cranes : Byte) (container : List Byte) (s : State) : Outcome := .next (hostRead 0x03 (bytes16 after ++ [states, cranes] ++ container) s)

/-- READ_CRANE (R32). -/
def execReadCrane (crane : Byte) (s : State) : Outcome := .next (hostRead 0x04 [crane] s)

/-- READ_STAND (R111). -/
def execReadStand (crane : Byte) (s : State) : Outcome := .next (hostRead 0x05 [crane] s)

/-- READ_HOLDING (R111). -/
def execReadHolding (place : Byte) (s : State) : Outcome := .next (hostRead 0x06 [place] s)

/-- READ_GANG (R115). -/
def execReadGang (gang : Byte) (s : State) : Outcome := .next (hostRead 0x07 [gang] s)

/-- READ_TASK (R118). -/
def execReadTask (task : TaskNo) (s : State) : Outcome := .next (hostRead 0x08 (bytes16 task) s)

/-- READ_CLAIMS (R80). -/
def execReadClaims (s : State) : Outcome := .next (hostRead 0x09 [] s)

/-- READ_STATION (R179). -/
def execReadStation (station : Byte) (s : State) : Outcome := .next (hostRead 0x0A [station] s)

/-- READ_RULE (R98). -/
def execReadRule (slot : Byte) (s : State) : Outcome := .next (hostRead 0x0B [slot] s)

/-- READ_CLOCK (R148). -/
def execReadClock (s : State) : Outcome := .next (hostRead 0x0C [] s)

/-- READ_NOTICES (R204). -/
def execReadNotices (s : State) : Outcome := .next (hostRead 0x0D [] s)

/-- READ_CONFIG (R219). -/
def execReadConfig (s : State) : Outcome := .next (hostRead 0x0E [] s)

end Sys2Proof.Machine
end

