-- ==== Sys2Proof/Machine/HostWrites.lean ====
section
/-! DEFINITION. The meanings of the write commands (R187): the wire actions of a write of each code (log 1). -/

namespace Sys2Proof.Machine

/-- LOAD (R13). -/
def execLoad (body : List Byte) (s : State) : Outcome := .next (hostWrite 0x20 body s)

/-- AMEND (R14). -/
def execAmend (body : List Byte) (s : State) : Outcome := .next (hostWrite 0x21 body s)

/-- RELEASE (R16). -/
def execRelease (body : List Byte) (s : State) : Outcome := .next (hostWrite 0x22 body s)

/-- HOLD (R17). -/
def execHold (body : List Byte) (s : State) : Outcome := .next (hostWrite 0x23 body s)

/-- CANCEL (R18). -/
def execCancel (body : List Byte) (s : State) : Outcome := .next (hostWrite 0x24 body s)

/-- RETIRE (R20). -/
def execRetire (body : List Byte) (s : State) : Outcome := .next (hostWrite 0x25 body s)

/-- CRANE_HALT (R55). -/
def execCraneHalt (body : List Byte) (s : State) : Outcome := .next (hostWrite 0x30 body s)

/-- CRANE_RESUME (R56). -/
def execCraneResume (body : List Byte) (s : State) : Outcome := .next (hostWrite 0x31 body s)

/-- CRANE_MODE (R33). -/
def execCraneMode (body : List Byte) (s : State) : Outcome := .next (hostWrite 0x32 body s)

/-- LANE_SET (R82). -/
def execLaneSet (body : List Byte) (s : State) : Outcome := .next (hostWrite 0x38 body s)

/-- TRUCK_VERIFY (R109). -/
def execTruckVerify (body : List Byte) (s : State) : Outcome := .next (hostWrite 0x39 body s)

/-- TRUCK_REMOVE (R108). -/
def execTruckRemove (body : List Byte) (s : State) : Outcome := .next (hostWrite 0x3A body s)

/-- GANG_DUTY (R137). -/
def execGangDuty (body : List Byte) (s : State) : Outcome := .next (hostWrite 0x40 body s)

/-- GANG_SERVE (R138). -/
def execGangServe (body : List Byte) (s : State) : Outcome := .next (hostWrite 0x41 body s)

/-- GANG_ROSTER (R138). -/
def execGangRoster (body : List Byte) (s : State) : Outcome := .next (hostWrite 0x42 body s)

/-- GANG_CLEAR (R139). -/
def execGangClear (body : List Byte) (s : State) : Outcome := .next (hostWrite 0x43 body s)

/-- RULE_WRITE (R97). -/
def execRuleWrite (body : List Byte) (s : State) : Outcome := .next (hostWrite 0x48 body s)

/-- CLOCK_SET (R146). -/
def execClockSet (body : List Byte) (s : State) : Outcome := .next (hostWrite 0x50 body s)

/-- CLOCK_ADJUST (R147). -/
def execClockAdjust (body : List Byte) (s : State) : Outcome := .next (hostWrite 0x51 body s)

/-- NOTICE_CLEAR (R203). -/
def execNoticeClear (body : List Byte) (s : State) : Outcome := .next (hostWrite 0x58 body s)

/-- NOTICE_ENABLE (R201). -/
def execNoticeEnable (body : List Byte) (s : State) : Outcome := .next (hostWrite 0x59 body s)

/-- CONFIG_WRITE (R214). -/
def execConfigWrite (body : List Byte) (s : State) : Outcome := .next (hostWrite 0x61 body s)

/-- PARTITION (R216). -/
def execPartition (body : List Byte) (s : State) : Outcome := .next (hostWrite 0x62 body s)

/-- FORCE_DONE (R22): FORCE with action 1. -/
def execForceDone (number : TicketNo) (expect : Option Byte) (s : State) : Outcome :=
  .next (hostWrite 0x26 (bytes16 number ++ [1] ++ expect.toList) s)

/-- FORCE_BACK (R22): FORCE with action 2. -/
def execForceBack (number : TicketNo) (expect : Option Byte) (s : State) : Outcome :=
  .next (hostWrite 0x26 (bytes16 number ++ [2] ++ expect.toList) s)

/-- CLOCK_RUN (R144). -/
def execClockRun (s : State) : Outcome := .next (hostWrite 0x52 [] s)

/-- CLOCK_STOP (R145). -/
def execClockStop (s : State) : Outcome := .next (hostWrite 0x53 [] s)

/-- MODE_SET_RUN (R210). -/
def execModeSetRun (s : State) : Outcome := .next (hostWrite 0x60 [2] s)

/-- MODE_SET_CONFIG (R211). -/
def execModeSetConfig (s : State) : Outcome := .next (hostWrite 0x60 [1] s)

/-- MODE_SET_MONITOR (R212). -/
def execModeSetMonitor (s : State) : Outcome := .next (hostWrite 0x60 [3] s)

/-- CLEAR_TABLES (R218). -/
def execClearTables (s : State) : Outcome := .next (hostWrite 0x63 [] s)

end Sys2Proof.Machine
end

