-- ==== Sys2Proof/Machine/LinkEvents.lean ====
section
/-! DEFINITION. The meanings of the other events of the quay link (spec/07_quay_link.md). -/

namespace Sys2Proof.Machine

/-- DISCARDED_FRAME (R157; log 18): bytes that make a good frame are taken as that frame. -/
def execDiscardedFrame (raw : List Byte) (s : State) : Outcome := .next (berthEvent (rawFrame raw) s)

/-- REPLY (R175). -/
def execReply (f : Frame) (s : State) : Outcome := .next (berthEvent (frameEvent kindReply f) s)

/-- REPLY_WINDOW_CLOSE (R175). -/
def execReplyWindowClose (s : State) : Outcome := .next (berthEvent windowClose s)

/-- ORDER_SEND (R174). -/
def execOrderSend (outcome : SendOutcome) (s : State) : Outcome := .next (berthEvent (sendOrder outcome) s)

end Sys2Proof.Machine
end

