-- ==== Sys2Proof/Machine/PortEvents.lean ====
section
/-! DEFINITION. The meanings of the pins and of the framing of the planning port (R180 to R198, R220). -/

namespace Sys2Proof.Machine

/-- POWER_ON (R220). -/
def execPowerOn (s : State) : Outcome := .next (resetEvent s)

/-- PIN_RESET (R220). -/
def execPinReset (s : State) : Outcome := .next (resetEvent s)

/-- RESET_END (R220). -/
def execResetEnd (s : State) : Outcome := .next (resetEndEvent s)

/-- CHIP_SELECT_FALL (R181). -/
def execChipSelectFall (s : State) : Outcome := .next (chipFall s)

/-- CHIP_SELECT_RISE (R181, R185). -/
def execChipSelectRise (s : State) : Outcome := .next (chipRise s)

/-- BYTE_TAKEN (R181). -/
def execByteTaken (mosi : Byte) (s : State) : Outcome := .next (takeByte s mosi)

/-- EMPTY_TRANSACTION (R198; log 1). -/
def execEmptyTransaction (s : State) : Outcome := .next (emptyTransactionEvent s)

/-- UNASSIGNED_COMMAND (R189; log 1): the code, what the host clocks after it, and the rise. -/
def execUnassignedCommand (code : Byte) (bytes : List Byte) (s : State) : Outcome :=
  .next (chipRise (takeBytes (openWith code s) bytes))

/-- TRANSACTION_TIMEOUT (R191). -/
def execTransactionTimeout (byteInProgress : Bool) (s : State) : Outcome := .next (portTimeoutEvent byteInProgress s)

end Sys2Proof.Machine
end

