-- ==== Sys2Proof/Machine/StationFrames.lean ====
section
/-! DEFINITION. The meanings of the frames that stations send (spec/07_quay_link.md; R163 to R168). -/

namespace Sys2Proof.Machine

/-- HELLO (R162). -/
def execHello (f : Frame) (s : State) : Outcome := .next (berthEvent (frameEvent kindHello f) s)

/-- ASK (R34). -/
def execAsk (f : Frame) (s : State) : Outcome := .next (berthEvent (frameEvent kindAsk f) s)

/-- STANDBY (R35). -/
def execStandby (f : Frame) (s : State) : Outcome := .next (berthEvent (frameEvent kindStandby f) s)

/-- POSITION (R48). -/
def execPosition (f : Frame) (s : State) : Outcome := .next (berthEvent (frameEvent kindPosition f) s)

/-- LOCK_ON (R44). -/
def execLockOn (f : Frame) (s : State) : Outcome := .next (berthEvent (frameEvent kindLockOn f) s)

/-- SET_DOWN (R46). -/
def execSetDown (f : Frame) (s : State) : Outcome := .next (berthEvent (frameEvent kindSetDown f) s)

/-- ABANDON (R47). -/
def execAbandon (f : Frame) (s : State) : Outcome := .next (berthEvent (frameEvent kindAbandon f) s)

/-- MANUAL (R57). -/
def execManual (f : Frame) (s : State) : Outcome := .next (berthEvent (frameEvent kindManual f) s)

/-- AUTO (R58). -/
def execAuto (f : Frame) (s : State) : Outcome := .next (berthEvent (frameEvent kindAuto f) s)

/-- ARRIVE (R89). -/
def execArrive (f : Frame) (s : State) : Outcome := .next (berthEvent (frameEvent kindArrive f) s)

/-- DEPART (R106). -/
def execDepart (f : Frame) (s : State) : Outcome := .next (berthEvent (frameEvent kindDepart f) s)

/-- DECK_REQUEST (R131). -/
def execDeckRequest (f : Frame) (s : State) : Outcome := .next (berthEvent (frameEvent kindDeckRequest f) s)

/-- TASK_DONE (R133). -/
def execTaskDone (f : Frame) (s : State) : Outcome := .next (berthEvent (frameEvent kindTaskDone f) s)

/-- OFF_DECK (R134). -/
def execOffDeck (f : Frame) (s : State) : Outcome := .next (berthEvent (frameEvent kindOffDeck f) s)

/-- A LOOKUP frame: the selector byte stands before the value (R168, 11.5). -/
def lookupFrame (selector : Byte) (f : Frame) : Frame := { f with body := selector :: f.body }

/-- LOOKUP_TICKET (R29). -/
def execLookupTicket (f : Frame) (s : State) : Outcome :=
  .next (berthEvent (frameEvent kindLookup (lookupFrame 1 f)) s)

/-- LOOKUP_CONTAINER (R168). -/
def execLookupContainer (f : Frame) (s : State) : Outcome :=
  .next (berthEvent (frameEvent kindLookup (lookupFrame 2 f)) s)

/-- LOOKUP_TAG (R110). -/
def execLookupTag (f : Frame) (s : State) : Outcome :=
  .next (berthEvent (frameEvent kindLookup (lookupFrame 3 f)) s)

end Sys2Proof.Machine
end

