-- ==== Sys2Proof/Machine/TimeEvents.lean ====
section
/-! DEFINITION. The meanings of the events of quay time (spec/06_quay_clock_and_shifts.md). -/

namespace Sys2Proof.Machine

/-- One sixteenth later (R142). -/
def QTime.next (q : QTime) : QTime := QTime.ofBits (q.bits + 1)

/-- R142: a step of the time base; the owners' event, then the shift (log 34). -/
def clockStep (b : Berth) : Berth :=
  if b.clock.running then
    let q := b.now.next
    let c := dueTimeEvent (b.setTime q)
    settle (if q.secs = b.nowSecs then c else evalShift c)
  else b

/-- TIME_BASE_STEP (R142). -/
def execTimeBaseStep (s : State) : Outcome := .next (berthEvent clockStep s)

/-- R53: the owner compares one crane's due time (log 24). -/
def expiryEvent (c : Crane) (b : Berth) : Berth := if b.expiryDue c then settle (expireGrant b c) else b

/-- GRANT_EXPIRY (R53). -/
def execGrantExpiry (crane : Crane) (s : State) : Outcome := .next (berthEvent (expiryEvent crane) s)

/-- R28: the owner compares one ticket's deadline (log 24). -/
def lateEvent (n : TicketNo) (b : Berth) : Berth :=
  if (b.ticket? n).any (Ticket.late? b.clock) then settle ((b.modTicket n Ticket.markLate).raise ticketLateCause) else b

/-- TICKET_LATE (R28). -/
def execTicketLate (number : TicketNo) (s : State) : Outcome := .next (berthEvent (lateEvent number) s)

/-- CRANE_STARVED (R61; log 24). -/
def execCraneStarved (crane : Crane) (s : State) : Outcome := .next (berthEvent (starveCheck · crane) s)

/-- R150: the shift index is compared with the seconds of the running clock (log 24). -/
def boundaryEvent (b : Berth) : Berth :=
  if b.clock.running ∧ shiftOneHot b.params b.nowSecs ≠ b.clock.shiftIndex then settle (evalShift b) else b

/-- SHIFT_BOUNDARY (R150). -/
def execShiftBoundary (s : State) : Outcome := .next (berthEvent boundaryEvent s)

end Sys2Proof.Machine
end

