-- ==== Sys2Proof/Machine/Dispatch.lean ====
section
/-! DEFINITION. One arm per command or event. -/

namespace Sys2Proof.Machine

def exec (i : Instr) (s : State) : Host.Outcome State Fault Refusal :=
  match i with
  | .powerOn => Sys2Proof.Machine.execPowerOn s
  | .pinReset => Sys2Proof.Machine.execPinReset s
  | .chipSelectFall => Sys2Proof.Machine.execChipSelectFall s
  | .emptyTransaction => Sys2Proof.Machine.execEmptyTransaction s
  | .unassignedCommand code bytes => Sys2Proof.Machine.execUnassignedCommand code bytes s
  | .transactionTimeout byteInProgress => Sys2Proof.Machine.execTransactionTimeout byteInProgress s
  | .status => Sys2Proof.Machine.execStatus s
  | .readTicket number => Sys2Proof.Machine.execReadTicket number s
  | .find after states cranes container => Sys2Proof.Machine.execFind after states cranes container s
  | .readCrane crane => Sys2Proof.Machine.execReadCrane crane s
  | .readStand crane => Sys2Proof.Machine.execReadStand crane s
  | .readHolding place => Sys2Proof.Machine.execReadHolding place s
  | .readGang gang => Sys2Proof.Machine.execReadGang gang s
  | .readTask task => Sys2Proof.Machine.execReadTask task s
  | .readClaims => Sys2Proof.Machine.execReadClaims s
  | .readStation station => Sys2Proof.Machine.execReadStation station s
  | .readRule slot => Sys2Proof.Machine.execReadRule slot s
  | .readClock => Sys2Proof.Machine.execReadClock s
  | .readNotices => Sys2Proof.Machine.execReadNotices s
  | .readConfig => Sys2Proof.Machine.execReadConfig s
  | .load body => Sys2Proof.Machine.execLoad body s
  | .amend body => Sys2Proof.Machine.execAmend body s
  | .release body => Sys2Proof.Machine.execRelease body s
  | .hold body => Sys2Proof.Machine.execHold body s
  | .cancel body => Sys2Proof.Machine.execCancel body s
  | .retire body => Sys2Proof.Machine.execRetire body s
  | .forceDone number expect => Sys2Proof.Machine.execForceDone number expect s
  | .forceBack number expect => Sys2Proof.Machine.execForceBack number expect s
  | .craneHalt body => Sys2Proof.Machine.execCraneHalt body s
  | .craneResume body => Sys2Proof.Machine.execCraneResume body s
  | .craneMode body => Sys2Proof.Machine.execCraneMode body s
  | .laneSet body => Sys2Proof.Machine.execLaneSet body s
  | .truckVerify body => Sys2Proof.Machine.execTruckVerify body s
  | .truckRemove body => Sys2Proof.Machine.execTruckRemove body s
  | .gangDuty body => Sys2Proof.Machine.execGangDuty body s
  | .gangServe body => Sys2Proof.Machine.execGangServe body s
  | .gangRoster body => Sys2Proof.Machine.execGangRoster body s
  | .gangClear body => Sys2Proof.Machine.execGangClear body s
  | .ruleWrite body => Sys2Proof.Machine.execRuleWrite body s
  | .clockSet body => Sys2Proof.Machine.execClockSet body s
  | .clockAdjust body => Sys2Proof.Machine.execClockAdjust body s
  | .clockRun => Sys2Proof.Machine.execClockRun s
  | .clockStop => Sys2Proof.Machine.execClockStop s
  | .noticeClear body => Sys2Proof.Machine.execNoticeClear body s
  | .noticeEnable body => Sys2Proof.Machine.execNoticeEnable body s
  | .modeSetRun => Sys2Proof.Machine.execModeSetRun s
  | .modeSetConfig => Sys2Proof.Machine.execModeSetConfig s
  | .modeSetMonitor => Sys2Proof.Machine.execModeSetMonitor s
  | .configWrite body => Sys2Proof.Machine.execConfigWrite body s
  | .partition body => Sys2Proof.Machine.execPartition body s
  | .clearTables => Sys2Proof.Machine.execClearTables s
  | .hello f => Sys2Proof.Machine.execHello f s
  | .ask f => Sys2Proof.Machine.execAsk f s
  | .standby f => Sys2Proof.Machine.execStandby f s
  | .position f => Sys2Proof.Machine.execPosition f s
  | .lockOn f => Sys2Proof.Machine.execLockOn f s
  | .setDown f => Sys2Proof.Machine.execSetDown f s
  | .abandon f => Sys2Proof.Machine.execAbandon f s
  | .manual f => Sys2Proof.Machine.execManual f s
  | .auto f => Sys2Proof.Machine.execAuto f s
  | .arrive f => Sys2Proof.Machine.execArrive f s
  | .depart f => Sys2Proof.Machine.execDepart f s
  | .deckRequest f => Sys2Proof.Machine.execDeckRequest f s
  | .taskDone f => Sys2Proof.Machine.execTaskDone f s
  | .offDeck f => Sys2Proof.Machine.execOffDeck f s
  | .lookupTicket f => Sys2Proof.Machine.execLookupTicket f s
  | .lookupContainer f => Sys2Proof.Machine.execLookupContainer f s
  | .lookupTag f => Sys2Proof.Machine.execLookupTag f s
  | .discardedFrame raw => Sys2Proof.Machine.execDiscardedFrame raw s
  | .reply f => Sys2Proof.Machine.execReply f s
  | .replyWindowClose => Sys2Proof.Machine.execReplyWindowClose s
  | .orderSend outcome => Sys2Proof.Machine.execOrderSend outcome s
  | .timeBaseStep => Sys2Proof.Machine.execTimeBaseStep s
  | .grantExpiry crane => Sys2Proof.Machine.execGrantExpiry crane s
  | .ticketLate number => Sys2Proof.Machine.execTicketLate number s
  | .craneStarved crane => Sys2Proof.Machine.execCraneStarved crane s
  | .shiftBoundary => Sys2Proof.Machine.execShiftBoundary s
  | .byteTaken mosi => Sys2Proof.Machine.execByteTaken mosi s
  | .chipSelectRise => Sys2Proof.Machine.execChipSelectRise s
  | .resetEnd => Sys2Proof.Machine.execResetEnd s

end Sys2Proof.Machine
end

