-- ==== Sys2Proof/Machine/Step.lean ====
section
/-! DEFINITION. One step: the front of the queue is taken and run on the rest; on an empty queue the part idles (log 3). -/

namespace Sys2Proof.Machine

def step (s : State) : Host.Outcome State Fault Refusal :=
  match s.pending with
  | [] => .next s
  | c :: rest => exec c { s with pending := rest }

/-- The command a word spells put at the front of the queue (log 33: no word spells one). -/
def State.withFetchWord (s : State) (nbits w : Nat) : State :=
  match decodeTableWord nbits w with
  | none => s
  | some c => { s with pending := c :: s.pending }

end Sys2Proof.Machine
end

