-- ==== Sys2Proof/Safety.lean ====
section
/-! DEFINITION. The terms that statements use: states in which a command's own effect can happen, the states that follow,
and the invariants of a run. -/

namespace Sys2Proof.Machine

/-! ## Ports -/

/-- The host may open a transaction: chip select is high, no reset is asserted, the port is IDLE (R181). -/
def PortReady (s : State) : Prop := s.port.inReset = false ∧ s.port.state = .idle ∧ s.port.selected = false

/-- The state after a write of `code` whose owner left the berth as `b` with the outcome `r` (R187, R193). -/
def applied (code : Byte) (b : Berth) (r : Res) (s : State) : State :=
  { s with
    berth := b
    port := { s.port with
      selected := false, state := .idle, command := code, params := [], staged := [], snapshot := none, position := 0,
      timer := false, modeAtFall := s.berth.mode, miso := none, misoHeld := none, result := resultOf code r b } }

/-- The state after a read of `code`: the snapshot is held and the window stands at byte 0 (R183, R184). -/
def readDone (code : Byte) (params snapshot : List Byte) (s : State) : State :=
  { s with port := { s.port with
      selected := true, state := .window, command := code, params, staged := [], snapshot := some snapshot, position := 0,
      timer := true, modeAtFall := s.berth.mode, miso := some (if params = [] then s.berth.mode.code else 0),
      misoHeld := none } }

/-- The link takes a station's frame: no reset is asserted and no order's reply window is open (R160). -/
def LinkReady (s : State) : Prop := s.port.inReset = false ∧ s.berth.qlc.window = none

/-- The berth as a good frame is taken: the station has been heard (R162). -/
def heardFrom (b : Berth) (st : Station) : Berth := (setHeard b st).setSent none

/-- The state after a frame that its owner took, leaving the berth as `b`, and answered with `r` (R166). -/
def replied (s : State) (st : Station) (b : Berth) (r : Reply) : State :=
  { s with berth := sendReply (settleIf (heardFrom s.berth st) b) st r }

/-- A frame of a station's own, as the station sends it. -/
def frameOf (st : Station) (cls : BitVec 2) (body : List Byte) : Frame := { station := st, cls, body }

/-- A crane in RUN whose station is ONLINE and whose frame the link takes. -/
def CraneSpeaks (s : State) (c : Crane) : Prop :=
  LinkReady s ∧ s.berth.mode = .run ∧ s.berth.online (craneStation c) = true

/-- A station in RUN that is ONLINE and whose frame the link takes. -/
def StationSpeaks (s : State) (st : Station) : Prop := LinkReady s ∧ s.berth.mode = .run ∧ s.berth.online st = true

/-! ## The berth between changes -/

/-- In CONFIG or MONITOR with the clock stopped, nothing follows a change but the level notices. -/
def Quiet (b : Berth) : Prop := b.mode ≠ .run ∧ b.clock.running = false

/-! ## Withdrawals -/

/-- R50, R51: the state that a ticket of the grant takes; `fails` says that the tickets enter FAILED (R51). -/
def Cause.stateAfter (cause : Cause) (fails : Bool) (n : TicketNo) : TicketState :=
  match cause with
  | .expiry | .undelivered => if fails then .failed else .pending
  | .truckGone | .promoteFailed | .manual | .offline => .pending
  | .hold m => if n = m then .held else .pending
  | .cancel m => if n = m then .cancelled else .pending
  | .halt => .held

/-! ## Lashing work -/

/-- R121: the unlinking of a ticket from the unlash task `x`, from `b` to `b'`.  The linked count falls by 1; at 0 the task is
dropped as its state says (an ACTIVE one goes on), a QUEUED or DISPATCHED one out of the one list that holds it. -/
def UnlashLinkGivenUp (b b' : Berth) (x : Task) : Prop :=
  let k := x.number
  (∀ m, m ≠ k → b'.task? m = b.task? m)
  ∧ (1 < x.linked ∨ x.state = .active → b'.task? k = some { x with linked := x.linked - 1 })
  ∧ (1 < x.linked ∨ x.state = .active ∨ x.state = .opened →
      b'.ltu.gangs = b.ltu.gangs ∧ b'.bct = b.bct ∧ b'.qlc = b.qlc)
  ∧ (x.linked = 1 → x.state ≠ .active → b'.task? k = none)
  ∧ (x.linked = 1 → ∀ g : Gang, (∀ h : Gang, k ∈ (b.gang h).tasks ↔ h = g) →
      (∀ h : Gang, h ≠ g → b'.gang h = b.gang h)
      ∧ (x.state = .queued → b'.gang g = { b.gang g with tasks := (b.gang g).tasks.filter fun n => n != k }
          ∧ b'.bct = b.bct ∧ b'.qlc = b.qlc)
      ∧ (x.state = .dispatched →
          b'.gang g = { b.gang g with activity := .idle, tasks := (b.gang g).tasks.filter fun n => n != k }
          ∧ b'.bct = (leaveDeckRequest b g).bct
          ∧ b'.qlc.gangSlots[g] = (b.qlc.gangSlots[g]).post (.recall k) b.now
          ∧ ∀ h : Gang, h ≠ g → b'.qlc.gangSlots[h] = (leaveDeckRequest b g).qlc.gangSlots[h]))

/-- R121: a gang's first task is an ACTIVE UNLASH task with no ticket linked to it. -/
def OwedToNobody (b : Berth) (g : Gang) (t : Task) : Prop :=
  b.firstTask g = some t ∧ t.state = .active ∧ t.kind = .unlash ∧ t.linked = 0

/-! ## Lists of tasks -/

/-- A number of a gang's list names a QUEUED task of a kind (R128). -/
def QueuedKind (b : Berth) (kind : TaskKind) (n : TaskNo) : Prop :=
  ∃ t, b.task? n = some t ∧ t.state = .queued ∧ t.kind = kind

/-! ## Invariants -/

/-- R200: the raw bit of each level cause shows its condition. -/
def LevelsAgree (s : State) : Prop := s.berth.nu.raw &&& levelCauses = s.berth.levels

/-- R65, R69, R70: crane claims keep CLEAR in crane order, gang claims name different bays, no crane claim lies within
DECK_MARGIN of a gang claim, a claim belongs to a crane GRANTED or LIFTING, and none exists outside RUN. -/
def ClaimsKept (s : State) : Prop :=
  (∀ i j : Crane, i < j → ∀ x y, s.berth.craneClaim i = some x → s.berth.craneClaim j = some y →
    x.toNat + s.berth.params.clear ≤ y.toNat)
  ∧ (∀ g h : Gang, g ≠ h → ∀ x y, s.berth.gangClaim g = some x → s.berth.gangClaim h = some y → x.bay ≠ y.bay)
  ∧ (∀ (c : Crane) (g : Gang), ∀ x y, s.berth.craneClaim c = some x → s.berth.gangClaim g = some y →
    s.berth.withinMargin x y.bay = false)
  ∧ (∀ c : Crane, (s.berth.craneClaim c).isSome → (s.berth.crane c).work.lifted = true)
  ∧ (s.berth.mode ≠ .run → ∀ c : Crane, s.berth.craneClaim c = none)

/-- R3, R27: ticket numbers are unique (each less than the next) and the tickets fit their section. -/
def TicketsKept (s : State) : Prop :=
  (s.berth.tickets.map fun t => t.number.toNat).Pairwise (· < ·) ∧ s.berth.tickets.length ≤ s.berth.sizes.ticketSlots

/-- R116, R117: task numbers are unique slot numbers, and used plus reserved slots fit the section. -/
def TasksKept (s : State) : Prop :=
  (s.berth.ltu.tasks.map fun t => t.number.toNat).Pairwise (· < ·)
  ∧ (∀ t ∈ s.berth.ltu.tasks, t.number.toNat < s.berth.sizes.taskSlots)
  ∧ s.berth.ltu.tasks.length + s.berth.ltu.reserved ≤ s.berth.sizes.taskSlots

/-- R70, R72, R117, R131, R132: the gangs, their lists and their deck entries agree.  Task numbers are unique.  A listed
task is not OPEN, stands in one list once, and is QUEUED unless it is the first.  A DISPATCHED first task has its gang
ASSIGNED or WAIT_DECK; an ACTIVE one has it ON_DECK with a CONFIRMED claim at the task's bay.  A CONFIRMED claim is of a gang
ON_DECK; a CLEARING claim and a waiter entry are of a gang WAIT_DECK whose first task is DISPATCHED at that bay.  A gang waits
at most once, and holds no claim while it waits.  A gang OFF_DUTY is IDLE with an empty list. -/
def GangsKept (s : State) : Prop :=
  let b := s.berth
  (b.ltu.tasks.map fun t => t.number.toNat).Pairwise (· < ·)
  ∧ (∀ g : Gang, (b.gang g).tasks.Nodup
      ∧ (∀ n ∈ (b.gang g).tasks, ∃ t, b.task? n = some t ∧ t.state ≠ .opened)
      ∧ (∀ n ∈ (b.gang g).tasks.tail, ∃ t, b.task? n = some t ∧ t.state = .queued)
      ∧ ∀ h : Gang, h ≠ g → ∀ n ∈ (b.gang g).tasks, n ∉ (b.gang h).tasks)
  ∧ (∀ (g : Gang) (t : Task), b.firstTask g = some t →
      (t.state = .dispatched → (b.gang g).activity = .assigned ∨ (b.gang g).activity = .waitDeck)
      ∧ (t.state = .active → (b.gang g).activity = .onDeck
          ∧ b.gangClaim g = some { bay := t.bay, standing := .confirmed }))
  ∧ (∀ (g : Gang) (bay : Bay), b.gangClaim g = some { bay, standing := .confirmed } → (b.gang g).activity = .onDeck)
  ∧ (∀ (g : Gang) (bay : Bay), (b.gangClaim g = some { bay, standing := .clearing } ∨ (g, bay) ∈ b.bct.waiters) →
      (b.gang g).activity = .waitDeck ∧ ∃ t, b.firstTask g = some t ∧ t.state = .dispatched ∧ t.bay = bay)
  ∧ (b.bct.waiters.map (·.1)).Nodup ∧ (∀ w ∈ b.bct.waiters, b.gangClaim w.1 = none)
  ∧ ∀ g : Gang, (b.gang g).onDuty = false → (b.gang g).activity = .idle ∧ (b.gang g).tasks = []

/-- R181, R184, R186, R191: the staging buffer's bound; the timer runs exactly in an open transaction that is not
ABANDONED; a transaction is open only while chip select is low and no reset is asserted; WINDOW has its snapshot, and the position is in it. -/
def PortKept (s : State) : Prop :=
  s.port.staged.length ≤ 33
  ∧ (s.port.timer = true ↔ s.port.state ≠ .idle ∧ s.port.state ≠ .abandoned)
  ∧ (s.port.state ≠ .idle → s.port.selected = true)
  ∧ (s.port.inReset = true → s.port.state = .idle)
  ∧ (s.port.state = .window → ∃ w, s.port.snapshot = some w ∧ s.port.position < w.length)

end Sys2Proof.Machine
end

