-- ==== Sys2Proof/Certificates/Slice0/Obligations.lean ====
section
/-! DEFINITION. The statements for the provers. -/

open Sys2Proof Sys2Proof.Machine

/-! ## Steps and outcomes -/

/-- A step takes the command at the front of the queue (the model's queue of events: log 33) and runs it on the rest; on an
empty queue the part idles (log 3). -/
def Obligations.StepRunsFront : Prop :=
  (∀ (c : Instr) (s : State), Machine.step { s with pending := c :: s.pending } = Machine.exec c s)
  ∧ ∀ s : State, s.pending = [] → Machine.step s = .next s

/-- Every command has a next state from every state, and none touches the queue. -/
def Obligations.EveryCommandHasANextState : Prop :=
  ∀ (c : Instr) (s : State), ∃ t, Machine.exec c s = .next t ∧ t.pending = s.pending

/-! ## Reset -/

/-- R30, R31, R64, R113, R114, R119, R143, R161, R197, R205, R208, R214 on the state right after reset. -/
def Obligations.ResetValues : Prop :=
  let b := State.reset.berth
  b.mode = .config ∧ b.params = Params.reset ∧ b.freeTickets = 1024 ∧ b.freeTasks = 128 ∧ b.sizes.ruleSlots = 32
  ∧ b.clock = { time := { secs := 0, six := 0 }, running := false, shiftIndex := 1 }
  ∧ b.tickets = [] ∧ b.ltu.tasks = [] ∧ b.ltu.creation = 0 ∧ b.bct.waiters = [] ∧ b.shu.holding = [] ∧ b.shu.openLanes = 0x3F
  ∧ (∀ c : Crane, b.crane c = CraneRec.reset ∧ b.craneClaim c = none ∧ b.stand c = [])
  ∧ (∀ g : Gang, b.gang g = GangRec.reset ∧ b.gangClaim g = none)
  ∧ (∀ st : Station, b.station st = { online := false, fails := 0, heard := false })
  ∧ b.nu = { raw := 0, enable := 0 } ∧ notifyLow State.reset = false
  ∧ State.reset.port.state = .idle ∧ State.reset.port.timer = false
  ∧ State.reset.port.result = { code := .ok, command := 0, entity := 0, detail := 0, mode := .config, free := 1024 }

/-- R220: POWER_ON and PIN_RESET have the same effect, every block at its reset value and no event taken; RESET_END ends
it.  (The queue, the level of chip select and the model's own free counter stand: log 2, log 31.)
R220: while RESET is asserted no frame, no reply, no other link event and no clock event reaches the berth, and no byte moves
the port. -/
def Obligations.ResetEvents : Prop :=
  ((∀ s : State, Machine.exec .powerOn s = Machine.exec .pinReset s)
    ∧ (∀ s : State, Machine.exec .pinReset s = .next { s with
        berth := { Berth.reset with free := s.berth.free }
        port := { Port.reset with inReset := true, selected := s.port.selected } })
    ∧ ∀ s : State, Machine.exec .resetEnd s = .next { s with port := { s.port with inReset := false } })
  ∧ (∀ s : State, s.port.inReset = true →
      (∀ f : Frame, ∀ i ∈ [Instr.hello f, .ask f, .standby f, .position f, .lockOn f, .setDown f, .abandon f, .manual f,
          .auto f, .arrive f, .depart f, .deckRequest f, .taskDone f, .offDeck f, .lookupTicket f, .lookupContainer f,
          .lookupTag f, .reply f], Machine.exec i s = .next s)
      ∧ (∀ raw, Machine.exec (.discardedFrame raw) s = .next s)
      ∧ Machine.exec .timeBaseStep s = .next s ∧ Machine.exec .replyWindowClose s = .next s
      ∧ (∀ c, Machine.exec (.grantExpiry c) s = .next s ∧ Machine.exec (.craneStarved c) s = .next s)
      ∧ (∀ n, Machine.exec (.ticketLate n) s = .next s) ∧ Machine.exec .shiftBoundary s = .next s
      ∧ (∀ o, Machine.exec (.orderSend o) s = .next s)
      ∧ ∀ x, Machine.exec (.byteTaken x) s = .next s)

/-! ## The planning port -/

/-- R183, R185: each read takes its parameters, holds its owner's window as its snapshot and changes nothing else. -/
def Obligations.ReadsSnapshotTheirRecord : Prop :=
  ∀ s : State, PortReady s →
    Machine.exec .status s = .next (readDone 0x01 [] s.port.result.bytes s)
    ∧ (∀ n, Machine.exec (.readTicket n) s = .next (readDone 0x02 (bytes16 n) (ticketWindow s.berth n) s))
    ∧ (∀ after states cranes container, container.length = 11 → Machine.exec (.find after states cranes container) s =
        .next (readDone 0x03 (bytes16 after ++ [states, cranes] ++ container)
          (bytes16 (findNumber s.berth after states cranes container)) s))
    ∧ (∀ x, Machine.exec (.readCrane x) s = .next (readDone 0x04 [x] (craneWindow s.berth x) s))
    ∧ (∀ x, Machine.exec (.readStand x) s = .next (readDone 0x05 [x] (standWindow s.berth x) s))
    ∧ (∀ x, Machine.exec (.readHolding x) s = .next (readDone 0x06 [x] (holdingWindow s.berth x) s))
    ∧ (∀ x, Machine.exec (.readGang x) s = .next (readDone 0x07 [x] (gangWindow s.berth x) s))
    ∧ (∀ n, Machine.exec (.readTask n) s = .next (readDone 0x08 (bytes16 n) (taskWindow s.berth n) s))
    ∧ Machine.exec .readClaims s = .next (readDone 0x09 [] (claimsWindow s.berth) s)
    ∧ (∀ x, Machine.exec (.readStation x) s = .next (readDone 0x0A [x] (stationWindow s.berth x) s))
    ∧ (∀ x, Machine.exec (.readRule x) s = .next (readDone 0x0B [x] (ruleWindow s.berth x) s))
    ∧ Machine.exec .readClock s = .next (readDone 0x0C [] (clockWindow s.berth) s)
    ∧ Machine.exec .readNotices s = .next (readDone 0x0D [] (noticeWindow s.berth) s)
    ∧ Machine.exec .readConfig s = .next (readDone 0x0E [] (configWindow s.berth) s)

/-- R183, R221, 11.3: every window has its length, and each field of it stands at its offset; a byte that no field defines is
zero.  A name that has no record gives the window of its owner's rule: zeros (R4), all 0xFF (R32, R98, R115, R118, R179), the
number alone for a free task slot (R118).  R202, R204: the NOTIFY byte.  A station with no slot shows none (log 22).
11.1, 11.5: the codes of the states, kinds and modes that the fields carry, and how an order is shown. -/
def Obligations.WindowContents : Prop :=
  (∀ (s : State) (x : Byte) (n : BitVec 16),
      s.port.result.bytes.length = 8 ∧ (ticketWindow s.berth n).length = 64 ∧ (craneWindow s.berth x).length = 32
      ∧ (standWindow s.berth x).length = 256 ∧ (holdingWindow s.berth x).length = 48 ∧ (gangWindow s.berth x).length = 40
      ∧ (taskWindow s.berth n).length = 16 ∧ (claimsWindow s.berth).length = 32 ∧ (stationWindow s.berth x).length = 24
      ∧ (ruleWindow s.berth x).length = 16 ∧ (clockWindow s.berth).length = 12 ∧ (noticeWindow s.berth).length = 8
      ∧ (configWindow s.berth).length = 48)
  ∧ ((∀ b n, b.ticket? n = none → ticketWindow b n = zeros 64)
    ∧ ∀ b n t, b.ticket? n = some t → (∀ id, t.container = some id → id.length = 11) → let w := ticketWindow b n
        word16At w 0 = n ∧ byteAt w 2 = finByte t.crane ∧ byteAt w 3 = t.state.code ∧ word16At w 4 = t.seq
        ∧ byteAt w 6 = t.kind.code ∧ byteAt w 7 = t.size.code ∧ byteAt w 8 = t.bay ∧ byteAt w 9 = t.row
        ∧ byteAt w 10 = t.tier ∧ byteAt w 11 = t.level.code ∧ byteAt w 12 = finByte t.priority
        ∧ byteAt w 13 = boolByte t.oneShot ∧ byteAt w 14 = t.lash.code ∧ byteAt w 15 = t.lashState.code
        ∧ word16At w 16 = t.partner.getD 0 ∧ slice w 18 11 = t.container.getD (zeros 11) ∧ byteAt w 29 = t.marks.code
        ∧ byteAt w 30 = t.reason.code ∧ byteAt w 31 = finByte t.attempts ∧ word24At w 32 = t.truck.getD 0
        ∧ byteAt w 35 = laneByte t.lane ∧ word16At w 36 = t.task.getD 0xFFFF ∧ word32At w 38 = t.deadline.getD 0xFFFFFFFF
        ∧ word32At w 42 = t.releasedAt.getD 0xFFFFFFFF ∧ word32At w 46 = t.grantedAt.getD 0xFFFFFFFF
        ∧ word32At w 50 = t.doneAt.getD 0xFFFFFFFF ∧ w.drop 54 = zeros 10)
  ∧ ((∀ (b : Berth) (x : Byte), 8 ≤ x.toNat → craneWindow b x = ones 32)
    ∧ ∀ (b : Berth) (c : Crane), let w := craneWindow b (finByte c); let r := b.crane c
        byteAt w 0 = r.work.code ∧ byteAt w 1 = r.control.code ∧ byteAt w 2 = r.seqMode.code
        ∧ byteAt w 3 = boolByte r.oneShot ∧ byteAt w 4 = boolByte r.halt ∧ byteAt w 5 = boolByte (b.online (craneStation c))
        ∧ word16At w 6 = r.grantTicket.getD 0 ∧ word16At w 8 = r.grantPartner.getD 0 ∧ byteAt w 10 = r.grantBay.getD 0
        ∧ word24At w 11 = r.grantTruck.getD 0 ∧ byteAt w 14 = laneByte r.grantLane
        ∧ (∀ q, r.due = some q → word32At w 15 = q.secs ∧ byteAt w 19 = q.six.setWidth 8)
        ∧ (r.due = none → slice w 15 5 = ones 5)
        ∧ word16At w 20 = (r.lastExpired.map (·.1)).getD 0 ∧ word16At w 22 = (r.lastExpired.bind (·.2)).getD 0
        ∧ byteAt w 24 = r.position
        ∧ (∀ q, r.starveStart = some q → word32At w 25 = q.secs ∧ byteAt w 29 = q.six.setWidth 8)
        ∧ (r.starveStart = none → slice w 25 5 = ones 5) ∧ byteAt w 30 = boolByte r.starveReported ∧ byteAt w 31 = 0)
  ∧ (∀ (b : Berth) (c : Crane), (∀ u ∈ b.stand c, ∀ id ∈ u.cargo, id.length = 11) → let w := standWindow b (finByte c)
      (∀ l : Lane, let k := slice w (40 * l.val) 40
        ((∀ u ∈ b.stand c, u.lane ≠ some l) → k = zeros 40)
        ∧ ∀ t, (b.stand c).find? (fun u => u.lane == some l) = some t →
          word24At k 0 = t.tag ∧ byteAt k 3 = t.chassis.code ∧ byteAt k 4 = natByte t.cargo.length
          ∧ slice k 5 11 = t.cargo.head?.getD (zeros 11) ∧ slice k 16 11 = t.cargo.tail.head?.getD (zeros 11)
          ∧ byteAt k 27 = boolByte t.unverified ∧ byteAt k 28 = boolByte t.priority ∧ byteAt k 29 = t.state.code
          ∧ word32At k 30 = t.joinedAt ∧ word32At k 34 = t.arrivedAt
          ∧ byteAt k 38 = natByte (placeOf (fun u => u.stay == t.stay) (b.stand c)) ∧ byteAt k 39 = boolByte (b.promoting t.tag))
      ∧ byteAt w 240 = finByte c ∧ byteAt w 241 = b.params.laneSets[c].setWidth 8
      ∧ byteAt w 242 = b.shu.openLanes.setWidth 8 ∧ byteAt w 243 = natByte (b.stand c).length ∧ w.drop 244 = zeros 12)
  ∧ (∀ (b : Berth) (x : Byte), let w := holdingWindow b x
      byteAt w 0 = x ∧ byteAt w 1 = natByte b.shu.holding.length ∧ byteAt w 2 = natByte b.promotingCount
      ∧ byteAt w 3 = natByte b.params.holdDepth ∧ (x = 0 ∨ b.shu.holding.length < x.toNat → w.drop 4 = zeros 44)
      ∧ ∀ t, x ≠ 0 → b.shu.holding[x.toNat - 1]? = some t → (∀ id ∈ t.cargo, id.length = 11) →
        word24At w 4 = t.tag ∧ byteAt w 7 = t.chassis.code ∧ byteAt w 8 = natByte t.cargo.length
        ∧ slice w 9 11 = t.cargo.head?.getD (zeros 11) ∧ slice w 20 11 = t.cargo.tail.head?.getD (zeros 11)
        ∧ byteAt w 31 = boolByte t.unverified ∧ byteAt w 32 = boolByte t.priority ∧ word32At w 33 = t.arrivedAt
        ∧ word32At w 37 = t.joinedAt ∧ byteAt w 41 = t.targets ∧ w.drop 42 = zeros 6)
  ∧ ((∀ (b : Berth) (x : Byte), 4 ≤ x.toNat → gangWindow b x = ones 40)
    ∧ ∀ (b : Berth) (g : Gang), let w := gangWindow b (finByte g); let r := b.gang g
        byteAt w 0 = finByte g ∧ byteAt w 1 = boolByte r.onDuty ∧ byteAt w 2 = r.activity.code
        ∧ byteAt w 3 = boolByte r.reliefDue ∧ byteAt w 4 = r.served ∧ byteAt w 5 = r.roster.setWidth 8
        ∧ byteAt w 6 = boolByte (b.online (gangStation g)) ∧ byteAt w 7 = natByte r.tasks.length
        ∧ (∀ i : Fin 8, (r.tasks[i.val]? = none → slice w (8 + 3 * i.val) 3 = ones 3)
            ∧ ∀ n t, r.tasks[i.val]? = some n → b.task? n = some t →
              word16At w (8 + 3 * i.val) = n ∧ byteAt w (10 + 3 * i.val) = t.state.code)
        ∧ (b.gangClaim g = none → byteAt w 32 = 0 ∧ byteAt w 33 = 0)
        ∧ (∀ k, b.gangClaim g = some k → byteAt w 32 = k.bay ∧ byteAt w 33 = k.standing.code) ∧ w.drop 34 = zeros 6)
  ∧ (∀ (b : Berth) (n : TaskNo), let w := taskWindow b n
      (b.sizes.taskSlots ≤ n.toNat → w = ones 16)
      ∧ (n.toNat < b.sizes.taskSlots →
        (b.task? n = none → w = bytes16 n ++ zeros 14)
        ∧ ∀ t, b.task? n = some t →
          word16At w 0 = n ∧ byteAt w 2 = t.state.code ∧ byteAt w 3 = t.kind.code ∧ byteAt w 4 = t.bay
          ∧ byteAt w 5 = finByte t.crane ∧ word16At w 6 = BitVec.ofNat 16 t.linked ∧ word32At w 8 = t.created
          ∧ ((∀ g, n ∉ (b.gang g).tasks) → byteAt w 12 = 0xFF ∧ byteAt w 13 = 0)
          ∧ (∀ (g : Gang) (xs ys : List TaskNo), (∀ h, h < g → n ∉ (b.gang h).tasks) → (b.gang g).tasks = xs ++ n :: ys →
              n ∉ xs → byteAt w 12 = finByte g ∧ byteAt w 13 = natByte (xs.length + 1))
          ∧ w.drop 14 = zeros 2))
  ∧ (∀ b : Berth, let w := claimsWindow b
      (∀ c : Crane, byteAt w c.val = (b.craneClaim c).getD 0)
      ∧ (∀ g : Gang, (b.gangClaim g = none → byteAt w (8 + g.val) = 0 ∧ byteAt w (12 + g.val) = 0)
          ∧ ∀ k, b.gangClaim g = some k → byteAt w (8 + g.val) = k.bay ∧ byteAt w (12 + g.val) = k.standing.code)
      ∧ byteAt w 16 = natByte b.bct.waiters.length
      ∧ (∀ i : Fin 4, (b.bct.waiters[i.val]? = none → slice w (17 + 2 * i.val) 2 = zeros 2)
          ∧ ∀ g x, b.bct.waiters[i.val]? = some (g, x) → slice w (17 + 2 * i.val) 2 = [finByte g, x])
      ∧ byteAt w 25 = natByte b.params.clear ∧ byteAt w 26 = natByte b.params.deckMargin ∧ w.drop 27 = zeros 5)
  ∧ ((∀ (b : Berth) (x : Byte), 16 ≤ x.toNat → stationWindow b x = ones 24)
    ∧ (∀ (b : Berth) (st : Station), let w := stationWindow b (finByte st); let r := b.station st
        byteAt w 0 = finByte st ∧ byteAt w 1 = (roleOf st).code ∧ byteAt w 2 = boolByte r.online
        ∧ byteAt w 3 = finByte r.fails ∧ byteAt w 4 = boolByte r.heard ∧ (st ≠ gateIn → slice w 13 5 = zeros 5)
        ∧ w.drop 18 = zeros 6)
    ∧ (∀ (b : Berth) (st : Station) (sl : Slot), let w := stationWindow b (finByte st)
        ((∃ c, st = craneStation c ∧ sl = b.qlc.craneSlots[c]) ∨ (∃ g, st = gangStation g ∧ sl = b.qlc.gangSlots[g])
          ∨ ((st = gateIn ∨ st = gateOut ∨ 14 ≤ st.val) ∧ sl = Slot.empty)) →
        (sl.current = none → slice w 5 5 = [0, 0xFF, 0xFF, 0, 0])
        ∧ (∀ o, sl.current = some o → byteAt w 5 = o.body.kind ∧ word16At w 6 = o.body.shown
            ∧ byteAt w 8 = natByte o.attempts ∧ byteAt w 9 = boolByte o.inFlight)
        ∧ (sl.upcoming = none → slice w 10 3 = [0, 0xFF, 0xFF])
        ∧ ∀ o, sl.upcoming = some o → byteAt w 10 = o.body.kind ∧ word16At w 11 = o.body.shown)
    ∧ ∀ b : Berth, let w := stationWindow b (finByte gateIn)
        byteAt w 13 = natByte b.qlc.promotes.length ∧ (b.qlc.promotes = [] → slice w 14 4 = zeros 4)
        ∧ ∀ o tag, b.qlc.promotes.head? = some o → o.body.promoteTag = some tag →
          word24At w 14 = tag ∧ byteAt w 17 = natByte o.attempts)
  ∧ (∀ (b : Berth) (x : Byte), let w := ruleWindow b x
      (b.sizes.ruleSlots ≤ x.toNat → w = ones 16)
      ∧ ∀ r, x.toNat < b.sizes.ruleSlots → b.shu.rules[x.toNat]? = some r → r.owner.length ≤ 4 →
        byteAt w 0 = x ∧ byteAt w 1 = boolByte r.enabled ∧ word24At w 2 = r.tagLo ∧ word24At w 5 = r.tagHi
        ∧ byteAt w 8 = r.chassis.setWidth 8 ∧ byteAt w 9 = (r.cond.map CargoCond.code).getD 0
        ∧ slice w 10 4 = r.owner ++ zeros (4 - r.owner.length) ∧ byteAt w 14 = (r.action.map RuleAction.code).getD 0
        ∧ byteAt w 15 = r.mask)
  ∧ (∀ b : Berth, let w := clockWindow b
      word32At w 0 = b.clock.time.secs ∧ byteAt w 4 = b.clock.time.six.setWidth 8 ∧ byteAt w 5 = boolByte b.clock.running
      ∧ byteAt w 6 = b.clock.shiftIndex.setWidth 8
      ∧ word32At w 7 = BitVec.ofInt 32 (shiftNumber b.params b.clock.time.secs) ∧ byteAt w 11 = 0)
  ∧ (∀ b : Berth, let w := noticeWindow b
      word16At w 0 = b.nu.raw ∧ word16At w 2 = b.nu.enable ∧ word16At w 4 = b.nu.raw &&& b.nu.enable
      ∧ byteAt w 6 = (if b.nu.raw &&& b.nu.enable = 0 then 0 else 1) ∧ byteAt w 7 = 0)
  ∧ (∀ r : Result, byteAt r.bytes 0 = r.code.code ∧ byteAt r.bytes 1 = r.command ∧ word16At r.bytes 2 = r.entity
      ∧ byteAt r.bytes 4 = r.detail ∧ byteAt r.bytes 5 = r.mode.code ∧ word16At r.bytes 6 = r.free)
  ∧ (∀ b : Berth, let w := configWindow b; let p := b.params; let z := b.sizes
      byteAt w 0 = b.mode.code ∧ byteAt w 1 = natByte p.clear ∧ byteAt w 2 = natByte p.deckMargin
      ∧ (∀ c : Crane, byteAt w (3 + c.val) = p.laneSets[c].setWidth 8) ∧ word16At w 11 = BitVec.ofNat 16 p.grantTime
      ∧ byteAt w 13 = natByte p.attemptLimit ∧ word16At w 14 = BitVec.ofNat 16 p.starveTime
      ∧ byteAt w 16 = natByte p.holdDepth ∧ byteAt w 17 = natByte p.holdMark ∧ byteAt w 18 = natByte p.poolMark
      ∧ ((byteAt w 19).getLsbD 0 = p.lenient ∧ (byteAt w 19).getLsbD 1 = p.dualCycle
          ∧ (byteAt w 19).getLsbD 2 = p.routeReject ∧ (byteAt w 19).getLsbD 3 = p.autoRetire
          ∧ (byteAt w 19).extractLsb' 4 4 = 0)
      ∧ word16At w 20 = BitVec.ofNat 16 p.shiftLength ∧ byteAt w 22 = natByte p.shiftCount ∧ word32At w 23 = p.shiftOrigin
      ∧ byteAt w 27 = b.shu.openLanes.setWidth 8 ∧ word16At w 28 = BitVec.ofNat 16 z.ticketSlots
      ∧ word16At w 30 = BitVec.ofNat 16 z.taskSlots ∧ byteAt w 32 = natByte z.ruleSlots
      ∧ word16At w 33 = BitVec.ofNat 16 (z.ticketSlots + z.taskSlots + z.ruleSlots)
      ∧ byteAt w 35 = boolByte (decide (z.ticketSlots + z.taskSlots + z.ruleSlots ≤ 1600))
      ∧ word16At w 36 = BitVec.ofNat 16 (min z.taskSlots (1600 - z.ticketSlots - z.ruleSlots))
      ∧ word16At w 38 = BitVec.ofNat 16 b.freeTickets ∧ word16At w 40 = BitVec.ofNat 16 b.ltu.tasks.length
      ∧ byteAt w 42 = natByte b.ltu.reserved ∧ word16At w 43 = BitVec.ofNat 16 b.freeTasks
      ∧ byteAt w 45 = natByte b.occupancy ∧ w.drop 46 = zeros 2)
  ∧ (([TicketState.held, .pending, .granted, .lifting, .done, .cancelled, .failed].map TicketState.code = [1, 2, 3, 4, 5, 6, 7]
      ∧ [Kind.discharge, .load, .restow, .hatch].map Kind.code = [0, 1, 2, 3] ∧ [Level.deck, .hold].map Level.code = [0, 1]
      ∧ [Size.s20, .s40, .s45].map Size.code = [20, 40, 45]
      ∧ [Lash.none, .unlashBefore, .lashAfter].map Lash.code = [0, 1, 2]
      ∧ [LashState.notNeeded, .awaiting, .cleared, .reserved, .linked, .lashed].map LashState.code = [0, 1, 2, 3, 4, 5]
      ∧ [Reason.none, .sequence, .twin, .lash, .truck, .truckUnverified, .deck, .clearance, .taskPool, .crane].map Reason.code =
        [0, 1, 2, 3, 4, 5, 6, 7, 8, 9])
    ∧ ([WorkState.idle, .waiting, .granted, .lifting].map WorkState.code = [0, 1, 2, 3]
      ∧ [Control.auto, .manual].map Control.code = [0, 1] ∧ [SeqMode.strict, .priority].map SeqMode.code = [0, 1]
      ∧ [Chassis.s20, .s40, .x45, .twin].map Chassis.code = [0, 1, 2, 3]
      ∧ [TruckState.waiting, .bound, .departing].map TruckState.code = [1, 2, 3]
      ∧ [Activity.idle, .assigned, .waitDeck, .onDeck].map Activity.code = [0, 1, 2, 3]
      ∧ [TaskState.opened, .queued, .dispatched, .active].map TaskState.code = [1, 2, 3, 4]
      ∧ [TaskKind.unlash, .lash].map TaskKind.code = [0, 1] ∧ [Standing.clearing, .confirmed].map Standing.code = [1, 2]
      ∧ [CargoCond.any, .empty, .laden].map CargoCond.code = [1, 2, 3]
      ∧ [RuleAction.cranes, .hold, .reject, .priority].map RuleAction.code = [1, 2, 3, 4]
      ∧ [Mode.config, .run, .monitor].map Mode.code = [1, 2, 3]
      ∧ [ResultCode.ok, .stale, .unknown, .duplicateNumber, .duplicateContainer, .poolFull, .taskPoolFull, .badField, .wrongState,
          .halted, .twinMismatch, .truckPresent, .notRunning, .notConfig, .occupied, .partitionInvalid, .badCommand,
          .timeout].map ResultCode.code = (List.range 18).map natByte)
    ∧ ((∀ t p bay row tier tag lane id, (OrderBody.grant t p bay row tier tag lane id).kind = 0x40
          ∧ (OrderBody.grant t p bay row tier tag lane id).shown = t)
      ∧ (∀ t p id, (OrderBody.withdraw t p id).kind = 0x41 ∧ (OrderBody.withdraw t p id).shown = t)
      ∧ (∀ n k bay c, (OrderBody.dispatch n k bay c).kind = 0x42 ∧ (OrderBody.dispatch n k bay c).shown = n)
      ∧ (∀ n bay, (OrderBody.deckClear n bay).kind = 0x43 ∧ (OrderBody.deckClear n bay).shown = n)
      ∧ ∀ n, (OrderBody.recall n).kind = 0x44 ∧ (OrderBody.recall n).shown = n)
    ∧ (∀ m : Marks, m.code.getLsbD 0 = m.halted ∧ m.code.getLsbD 1 = m.missed ∧ m.code.getLsbD 2 = m.fault
        ∧ m.code.getLsbD 3 = m.late ∧ m.code.getLsbD 4 = m.manual ∧ m.code.getLsbD 5 = m.forced
        ∧ m.code.extractLsb' 6 2 = 0)
    ∧ ∀ st : Station, (roleOf st).code = if st.val < 8 then 0 else if st = gateIn then 1 else if st = gateOut then 2
        else if st.val < 14 then 3 else if st.val = 14 then 4 else 5)

/-- R23: FIND gives the lowest qualifying number, or 0xFFFF. -/
def Obligations.FindLowest : Prop :=
  ∀ (s : State) (after : TicketNo) (states cranes : Byte) (container : List Byte), TicketsKept s →
    let q (t : Ticket) : Prop := after.toNat < t.number.toNat ∧ inSet states (t.state.code.toNat - 1) = true
      ∧ inSet cranes t.crane.val = true ∧ (container = zeros 11 ∨ t.container = some container)
    ((∀ t ∈ s.berth.tickets, ¬ q t) → findNumber s.berth after states cranes container = 0xFFFF)
    ∧ ∀ t ∈ s.berth.tickets, q t →
        (∃ u ∈ s.berth.tickets, q u ∧ findNumber s.berth after states cranes container = u.number)
        ∧ (findNumber s.berth after states cranes container).toNat ≤ t.number.toNat

/-- R181: a fall opens a transaction, with its buffer empty, no snapshot and its timer running.
R181, R184, R186: a byte in WINDOW advances the position, which wraps, and shifts the byte it stood at out; a byte in
STAGING is staged below the maximum and disregarded after it.
R181, R185: a rise in COMMAND, PARAMETER, WINDOW or ABANDONED applies nothing and keeps the result record.
R181, R185, R187, R189: a rise in STAGING applies what is staged, once, and one in DISCARD ends in BAD_COMMAND; a write
command that meets its own code already staged is that rise alone (log 1). -/
def Obligations.FramingEvents : Prop :=
  ((∀ s : State, PortReady s → ∃ t, Machine.exec .chipSelectFall s = .next t ∧ t.berth = s.berth
      ∧ t.port.state = .command ∧ t.port.staged = [] ∧ t.port.snapshot = none ∧ t.port.timer = true
      ∧ t.port.result = s.port.result)
  ∧ ((∀ (s : State) (w : List Byte) (x : Byte), s.port.inReset = false → s.port.state = .window → s.port.snapshot = some w →
      Machine.exec (.byteTaken x) s = .next { s with port := { s.port with
        miso := some (byteAt w s.port.position)
        position := if s.port.position + 1 < w.length then s.port.position + 1 else 0 } })
    ∧ ∀ (s : State) (x : Byte) (lo hi : Nat), s.port.inReset = false → s.port.state = .staging →
      writeLengths? s.port.command = some (lo, hi) →
      Machine.exec (.byteTaken x) s = .next { s with port := { s.port with
        miso := some 0
        staged := if s.port.staged.length < hi then s.port.staged ++ [x] else s.port.staged } })
  ∧ (∀ s : State, s.port.inReset = false → s.port.selected = true →
      s.port.state ∈ [PortState.command, .parameter, .window, .abandoned] →
      ∃ t, Machine.exec .chipSelectRise s = .next t ∧ t.berth = s.berth ∧ t.port.result = s.port.result
        ∧ t.port.state = .idle ∧ t.port.timer = false))
  ∧ ((∀ s : State, s.port.inReset = false → s.port.selected = true →
    (s.port.state = .staging → ∀ b r, applyWrite s.port.command s.port.staged s.berth = (b, r) →
      Machine.exec .chipSelectRise s =
        .next { s with berth := b, port := { s.port.ended with result := resultOf s.port.command r b } })
    ∧ (s.port.state = .discard → Machine.exec .chipSelectRise s = .next { s with port := { s.port.ended with
        result := resultOf s.port.command { code := .badCommand, entity := 0, detail := 0xFF } s.berth } }))
  ∧ ∀ (s : State) (body : List Byte), s.port.state = .staging →
    (s.port.command = 0x20 → Machine.exec (.load body) s = Machine.exec .chipSelectRise s)
    ∧ (s.port.command = 0x22 → Machine.exec (.release body) s = Machine.exec .chipSelectRise s)
    ∧ (s.port.command = 0x30 → Machine.exec (.craneHalt body) s = Machine.exec .chipSelectRise s)
    ∧ (s.port.command = 0x50 → Machine.exec (.clockSet body) s = Machine.exec .chipSelectRise s))

/-- R198: an empty transaction applies nothing, keeps the result record and leaves the port IDLE with its timer stopped, as
the one event of the table and as the rise that meets an incomplete command byte, which takes no snapshot. -/
def Obligations.EmptyTransactionIsWithoutEffect : Prop :=
  (∀ s : State, PortReady s → ∃ t, Machine.exec .emptyTransaction s = .next t ∧ t.berth = s.berth
    ∧ t.port.result = s.port.result ∧ t.port.state = .idle ∧ t.port.timer = false ∧ t.port.snapshot = none)
  ∧ ∀ s : State, s.port.inReset = false → s.port.selected = true → s.port.state = .command →
    ∃ t, Machine.exec .chipSelectRise s = .next t ∧ t.berth = s.berth ∧ t.port.result = s.port.result
      ∧ t.port.state = .idle ∧ t.port.timer = false ∧ t.port.snapshot = s.port.snapshot

/-- R191: the timer's expiry abandons the transaction, writes TIMEOUT and raises PORT_TIMEOUT.
R187, R190: a short body is BAD_COMMAND with the bytes staged, and a write its mode does not permit reaches no owner;
neither changes a berth record.
R189: an unassigned code ends in BAD_COMMAND with the code received, entity 0 and detail 0xFF. -/
def Obligations.FramingFailures : Prop :=
  (∀ (s : State) (p : Bool), s.port.state ∈ [PortState.command, .parameter, .window, .staging, .discard] →
    ∃ t, Machine.exec (.transactionTimeout p) s = .next t ∧ t.berth = s.berth.raise portTimeout
      ∧ t.port.state = .abandoned ∧ t.port.staged = [] ∧ t.port.snapshot = none ∧ t.port.timer = false
      ∧ t.port.result = { code := .timeout, command := s.port.command, entity := 0, detail := 0, mode := s.berth.mode,
                          free := BitVec.ofNat 16 s.berth.freeTickets })
  ∧ (((∀ (code : Byte) (body : List Byte) (b : Berth) (lo hi : Nat), writeLengths? code = some (lo, hi) → body.length < lo →
      applyWrite code body b = (b, { code := .badCommand, entity := 0, detail := natByte body.length }))
    ∧ (∀ (body : List Byte) (b : Berth), b.mode ≠ .config →
        (body.length = 6 → applyWrite 0x61 body b = (b, { code := .notConfig, entity := 0, detail := 0 }))
        ∧ (body.length = 5 → applyWrite 0x62 body b = (b, { code := .notConfig, entity := 0, detail := 0 }))
        ∧ applyWrite 0x63 [] b = (b, { code := .notConfig, entity := 0, detail := 0 }))
    ∧ ∀ (code : Byte) (body : List Byte) (b : Berth), b.mode ≠ .run → code ∈ [(0x38 : Byte), 0x40, 0x41, 0x42] →
        body.length = 2 → applyWrite code body b = (b, { code := .notRunning, entity := 0, detail := 0 }))
  ∧ (∀ (s : State) (code : Byte) (bytes : List Byte), PortReady s → (Instr.unassignedCommand code bytes).wf = true →
      ∃ t, Machine.exec (.unassignedCommand code bytes) s = .next t ∧ t.berth = s.berth ∧ t.port.state = .idle
        ∧ t.port.result = { code := .badCommand, command := code, entity := 0, detail := 0xFF, mode := s.berth.mode,
                            free := BitVec.ofNat 16 s.berth.freeTickets }))

/-! ## Ticket commands -/

/-- R12, R13: a LOAD that passes every check, with no expect byte or with one that names FREE, creates its ticket, HELD or
released, with the free count one lower; one whose release is refused changes no record.
R13: the ticket created: the host fields as the body gives them, HELD, no marks, reason NONE, lash state NOT_NEEDED, no task,
truck, lane or times, attempts 0; its container enters the index; its partner names it; every other ticket stays. -/
def Obligations.LoadCreates : Prop :=
  (∀ (s : State) (body : List Byte), PortReady s → (body.length = 32 ∨ body.length = 33 ∧ byteAt body 32 = 0) →
    loadInvalid body = none → comboInvalid (loadedTicket body) = none → loadRefusal s.berth (loadedTicket body) = none →
    let t := loadedTicket body
    let b' := createTicket s.berth t
    (byteAt body 3 = 0 → Machine.exec (.load body) s =
      .next (applied 0x20 (settle b') (ticketRes .ok (word16At body 0) 0) s))
    ∧ (∀ b'', byteAt body 3 ≠ 0 → releaseTicket b' t = .ok b'' →
      Machine.exec (.load body) s = .next (applied 0x20 (settle b'') (ticketRes .ok (word16At body 0) 0) s))
    ∧ (∀ res, byteAt body 3 ≠ 0 → releaseTicket b' t = .error res →
      Machine.exec (.load body) s = .next (applied 0x20 s.berth res s))
    ∧ b'.freeTickets + 1 = s.berth.freeTickets ∧ b'.ticket? t.number = some t
    ∧ (∀ id, t.container = some id → b'.indexed? id = some t)
    ∧ (∀ p x, t.partner = some p → s.berth.ticket? p = some x → b'.ticket? p = some { x with partner := some t.number })
    ∧ ∀ n, n ≠ t.number → t.partner ≠ some n → b'.ticket? n = s.berth.ticket? n)
  ∧ ∀ body : List Byte, loadInvalid body = none → let t := loadedTicket body
      (t.number = word16At body 0 ∧ finByte t.crane = byteAt body 2 ∧ t.seq = word16At body 4 ∧ t.kind.code = byteAt body 6
        ∧ t.size.code = byteAt body 7 ∧ t.bay = byteAt body 8 ∧ t.row = byteAt body 9 ∧ t.tier = byteAt body 10
        ∧ t.level.code = byteAt body 11 ∧ finByte t.priority = byteAt body 12 ∧ boolByte t.oneShot = byteAt body 13
        ∧ t.lash.code = byteAt body 14 ∧ t.partner = (if word16At body 15 = 0 then none else some (word16At body 15))
        ∧ t.container = (if slice body 17 11 = zeros 11 then none else some (slice body 17 11))
        ∧ t.deadline = (if word32At body 28 = 0xFFFFFFFF then none else some (word32At body 28)))
      ∧ t.state = .held ∧ t.marks = {} ∧ t.reason = .none ∧ t.lashState = .notNeeded ∧ t.task = none ∧ t.truck = none
      ∧ t.lane = none ∧ t.releasedAt = none ∧ t.grantedAt = none ∧ t.doneAt = none ∧ t.attempts = 0

/-- R9, R10, R12: a refused LOAD changes no record, and the first failing check gives the code: a field, a combination, the
expect byte (STALE before DUPLICATE_NUMBER), the number, a free slot, the container, the partner.
R24: the causes of TWIN_MISMATCH for a named partner, the first that holds.
R9, R10: every other ticket command of a number that names no ticket is UNKNOWN; an expect byte that differs is STALE with the
present state as detail, LOAD and AMEND included, FREE being the state of an unused number; one that names no state is BAD_FIELD
with detail 3; a LOAD whose expect byte names the state of the ticket in use is DUPLICATE_NUMBER.
R14, R16, R20, R22: AMEND and RELEASE of a ticket not HELD, RETIRE of a live one, FORCE of one not LIFTING or whose crane is
ONLINE in AUTO are WRONG_STATE with the state.
R14: the refusals of AMEND in their order, from the fields to DUPLICATE_CONTAINER (cause 6 first, then 1 to 5, then 7: log 10;
the place that TRUCK_PRESENT names: log 36).
R11, R16: RELEASE is refused with HALTED and the crane number while the crane is halted. -/
def Obligations.TicketRefusals : Prop :=
  (∀ (b : Berth) (body : List Byte), let n := word16At body 0; let t := loadedTicket body
      (∀ o, loadInvalid body = some o → ownLoad b body = (b, ticketRes .badField n o))
      ∧ (∀ o, loadInvalid body = none → comboInvalid t = some o → ownLoad b body = (b, ticketRes .badField n o))
      ∧ (∀ u, loadInvalid body = none → comboInvalid t = none → body.length = 33 → byteAt body 32 = 0 →
          b.ticket? n = some u → ownLoad b body = (b, ticketRes .stale n u.state.code))
      ∧ (loadInvalid body = none → comboInvalid t = none → body.length = 32 →
          (∀ u, b.ticket? n = some u → ownLoad b body = (b, ticketRes .duplicateNumber n 0))
          ∧ (b.ticket? n = none →
              (b.freeTickets = 0 → ownLoad b body = (b, ticketRes .poolFull n 0))
              ∧ (b.freeTickets ≠ 0 →
                  (∀ id u, t.container = some id → b.indexed? id = some u →
                    ownLoad b body = (b, ticketRes .duplicateContainer n 0))
                  ∧ ((∀ id, t.container = some id → b.indexed? id = none) → ∀ p cause, t.partner = some p →
                    partnerCause b t p = some cause → ownLoad b body = (b, ticketRes .twinMismatch n cause))))))
  ∧ (∀ (b : Berth) (t : Ticket) (p : TicketNo),
      (b.ticket? p = none → partnerCause b t p = some 1)
      ∧ ∀ x, b.ticket? p = some x →
        (p = t.number → partnerCause b t p = some 1)
        ∧ (p ≠ t.number →
            (x.state ∉ [TicketState.held, .pending] → partnerCause b t p = some 2)
            ∧ (x.state ∈ [TicketState.held, .pending] →
                ((∃ q, x.partner = some q ∧ q ≠ t.number) → partnerCause b t p = some 3)
                ∧ ((x.partner = none ∨ x.partner = some t.number) →
                    (¬ (x.crane = t.crane ∧ x.bay = t.bay ∧ x.kind = t.kind ∧ x.level = t.level) →
                      partnerCause b t p = some 4)
                    ∧ (x.crane = t.crane ∧ x.bay = t.bay ∧ x.kind = t.kind ∧ x.level = t.level →
                        partnerCause b t p = if t.size = .s20 ∧ x.size = .s20 then none else some 5)))))
  ∧ (∀ (b : Berth) (body : List Byte), let n := word16At body 0
      b.ticket? n = none → ∀ own ∈ [ownAmend, ownRelease, ownHold, ownCancel, ownRetire, ownForce],
        own b body = (b, ticketRes .unknown n 0))
  ∧ (∀ (b : Berth) (body : List Byte) (t : Ticket), let n := word16At body 0
      b.ticket? n = some t →
      (t.state ≠ .held → (body.length = 30 → ownAmend b body = (b, ticketRes .wrongState n t.state.code))
        ∧ (body.length = 2 → ownRelease b body = (b, ticketRes .wrongState n t.state.code)))
      ∧ (t.state.live = true → body.length = 2 → ownRetire b body = (b, ticketRes .wrongState n t.state.code))
      ∧ (body.length = 3 → byteAt body 2 = 1 ∨ byteAt body 2 = 2 →
          (t.state ≠ .lifting ∨ (b.online (craneStation t.crane) = true ∧ (b.crane t.crane).control = .auto)) →
          ownForce b body = (b, ticketRes .wrongState n t.state.code)))
  ∧ (∀ (b : Berth) (body : List Byte) (t : Ticket), let n := word16At body 0; let set := word16At body 2
      let u := amendFields set body t
      b.ticket? n = some t → t.state = .held → body.length = 30 →
      (∀ o, amendInvalid set body = some o → ownAmend b body = (b, ticketRes .badField n o))
      ∧ (amendInvalid set body = none →
          (∀ o, comboInvalid u = some o → ownAmend b body = (b, ticketRes .badField n o))
          ∧ (comboInvalid u = none → ∀ res, amendRefusal b t u = some res → ownAmend b body = (b, res))))
  ∧ (∀ (b : Berth) (t u : Ticket), let n := t.number
      (∀ id place, (u.crane ≠ t.crane ∨ u.container ≠ t.container) → t.container = some id → b.carrier id = some place →
        amendRefusal b t u = some (ticketRes .truckPresent n place))
      ∧ ((u.crane = t.crane ∧ u.container = t.container) ∨ (∀ id, t.container = some id → b.carrier id = none) →
          ((u.crane ≠ t.crane ∨ u.bay ≠ t.bay) → t.partner ≠ none → u.partner ≠ none →
            amendRefusal b t u = some (ticketRes .twinMismatch n 6))
          ∧ ((u.crane = t.crane ∧ u.bay = t.bay) ∨ t.partner = none ∨ u.partner = none →
            (∀ p cause, u.partner = some p → t.partner ≠ some p → partnerCause b u p = some cause →
              amendRefusal b t u = some (ticketRes .twinMismatch n cause))
            ∧ (∀ p, u.partner = some p → t.partner ≠ some p → partnerCause b u p = none → t.partner ≠ none →
              amendRefusal b t u = some (ticketRes .twinMismatch n 7))
            ∧ ((u.partner = none ∨ u.partner = t.partner
                ∨ (t.partner = none ∧ ∀ p, u.partner = some p → partnerCause b u p = none)) →
              ∀ id v, u.container = some id → t.container ≠ some id → b.indexed? id = some v →
                amendRefusal b t u = some (ticketRes .duplicateContainer n 0)))))
  ∧ (∀ (b : Berth) (n : TicketNo) (t : Ticket), b.ticket? n = some t → t.state = .held →
      (b.crane t.crane).halt = true → ownRelease b (bytes16 n) = (b, ticketRes .halted n (finByte t.crane)))
  ∧ (∀ (b : Berth) (n : TicketNo) (t : Ticket) (e : Byte), b.ticket? n = some t → e.toNat ≤ 7 → e ≠ t.state.code →
      ownRelease b (bytes16 n ++ [e]) = (b, ticketRes .stale n t.state.code)
      ∧ ownHold b (bytes16 n ++ [e]) = (b, ticketRes .stale n t.state.code)
      ∧ ownCancel b (bytes16 n ++ [e]) = (b, ticketRes .stale n t.state.code)
      ∧ ownRetire b (bytes16 n ++ [e]) = (b, ticketRes .stale n t.state.code)
      ∧ ownForce b (bytes16 n ++ [1, e]) = (b, ticketRes .stale n t.state.code)
      ∧ ∀ body : List Byte, body.length = 31 → word16At body 0 = n → byteAt body 30 = e →
        ownAmend b body = (b, ticketRes .stale n t.state.code))
  ∧ (∀ (b : Berth) (n : TicketNo) (t : Ticket) (e : Byte), b.ticket? n = some t → 7 < e.toNat →
      ownRelease b (bytes16 n ++ [e]) = (b, ticketRes .badField n 3)
      ∧ ownHold b (bytes16 n ++ [e]) = (b, ticketRes .badField n 3)
      ∧ ownCancel b (bytes16 n ++ [e]) = (b, ticketRes .badField n 3)
      ∧ ownRetire b (bytes16 n ++ [e]) = (b, ticketRes .badField n 3)
      ∧ ownForce b (bytes16 n ++ [1, e]) = (b, ticketRes .badField n 3)
      ∧ ∀ body : List Byte, body.length = 31 → word16At body 0 = n → byteAt body 30 = e →
        ownAmend b body = (b, ticketRes .badField n 3))
  ∧ ∀ (b : Berth) (body : List Byte), let n := word16At body 0; let e := byteAt body 32
      body.length = 33 → loadInvalid body = none → comboInvalid (loadedTicket body) = none →
      (7 < e.toNat → ownLoad b body = (b, ticketRes .badField n 3))
      ∧ (e.toNat ≤ 7 →
          (b.ticket? n = none → e ≠ 0 → ownLoad b body = (b, ticketRes .stale n 0))
          ∧ ∀ u, b.ticket? n = some u →
            (e ≠ u.state.code → ownLoad b body = (b, ticketRes .stale n u.state.code))
            ∧ (e = u.state.code → ownLoad b body = (b, ticketRes .duplicateNumber n 0)))

/-- R16, R11: RELEASE of a HELD ticket makes the release or answers with its refusal; one that needs no new link, of a crane
not halted, moves the ticket to PENDING.
R11, R120: a release that needs unlashing links the ticket to the bay's UNLASH task, whatever its state, and the ticket is
AWAITING with the task named; with no such task it creates an OPEN one of linked count 1 for the bay and the ticket's crane;
with no free task slot it is refused with TASK_POOL_FULL. -/
def Obligations.ReleaseMovesToPending : Prop :=
  (∀ (s : State) (n : TicketNo) (t : Ticket), PortReady s → s.berth.ticket? n = some t → t.state = .held →
      (∀ b', releaseTicket s.berth t = .ok b' →
        Machine.exec (.release (bytes16 n)) s = .next (applied 0x22 (settle b') (ticketRes .ok n 0) s))
      ∧ (∀ res, releaseTicket s.berth t = .error res →
        Machine.exec (.release (bytes16 n)) s = .next (applied 0x22 s.berth res s))
      ∧ ((s.berth.crane t.crane).halt = false → (t.lash ≠ .unlashBefore ∨ t.lashState ≠ .notNeeded) →
        Machine.exec (.release (bytes16 n)) s =
          .next (applied 0x22 (settle (s.berth.modTicket n (Ticket.released s.berth.nowSecs))) (ticketRes .ok n 0) s)))
  ∧ (∀ (b : Berth) (t : Ticket), b.ticket? t.number = some t → t.lash = .unlashBefore → t.lashState = .notNeeded →
      (b.crane t.crane).halt = false →
      (∀ k, b.unlashTaskAt t.bay = some k → ∃ b', releaseTicket b t = .ok b'
        ∧ b'.ticket? t.number = some (Ticket.released b.nowSecs { t with lashState := .awaiting, task := some k.number })
        ∧ b'.ltu.tasks.length = b.ltu.tasks.length
        ∧ b'.task? k.number = (b.task? k.number).map fun x => { x with linked := x.linked + 1 })
      ∧ (b.unlashTaskAt t.bay = none → b.freeTasks = 0 →
          releaseTicket b t = .error (ticketRes .taskPoolFull t.number 0))
      ∧ (∀ k, b.unlashTaskAt t.bay = none → b.freeTasks ≠ 0 → b.freeTaskSlot = some k → ∃ b', releaseTicket b t = .ok b'
        ∧ b'.ticket? t.number = some (Ticket.released b.nowSecs { t with lashState := .awaiting, task := some k })
        ∧ b'.ltu.tasks.length = b.ltu.tasks.length + 1 ∧ b.task? k = none
        ∧ b'.task? k = some { number := k, kind := .unlash, bay := t.bay, crane := t.crane, linked := 1, state := .opened,
                              created := b.ltu.creation }))
  ∧ ∀ (b : Berth) (t : Ticket), (Ticket.released b.nowSecs t) =
      { t with state := .pending, reason := .crane, releasedAt := some b.nowSecs, marks := { t.marks with halted := false } }

/-- R17: HOLD in each state.
R20: RETIRE of a ticket in a terminal state frees its slot, and no read finds the number afterwards. -/
def Obligations.HoldAndRetireByState : Prop :=
  (∀ (s : State) (n : TicketNo) (t : Ticket), PortReady s → s.berth.ticket? n = some t →
    (t.state = .held → Machine.exec (.hold (bytes16 n)) s = .next (applied 0x23 s.berth (ticketRes .ok n 0) s))
    ∧ (t.state = .pending → Machine.exec (.hold (bytes16 n)) s =
        .next (applied 0x23 (settle (s.berth.modTicket n fun x => { x with state := .held, reason := .none }))
          (ticketRes .ok n 0) s))
    ∧ (t.state = .granted → Machine.exec (.hold (bytes16 n)) s =
        .next (applied 0x23 (settle (withdraw s.berth t.crane (.hold n))) (ticketRes .ok n 0) s))
    ∧ (t.state ∈ [TicketState.lifting, .done, .cancelled, .failed] → Machine.exec (.hold (bytes16 n)) s =
        .next (applied 0x23 s.berth (ticketRes .wrongState n t.state.code) s)))
  ∧ (∀ (s : State) (n : TicketNo) (t : Ticket), PortReady s → s.berth.ticket? n = some t → t.state.live = false →
    Machine.exec (.retire (bytes16 n)) s = .next (applied 0x25 (settle (freeTicket s.berth n)) (ticketRes .ok n 0) s)
    ∧ (freeTicket s.berth n).ticket? n = none ∧ ticketWindow (freeTicket s.berth n) n = zeros 64)

/-- R18, R19: CANCEL in each state.
R19: what CANCEL makes of its ticket, after any withdrawal: CANCELLED, reason NONE, done_at written, no partner, its container
out of the index; its partner is single from then on, and every other ticket stays.
R19, R121: the link of an AWAITING ticket is given up: no task, NOT_NEEDED, the task's linked count lower, and the task dropped
at 0 as its state says. -/
def Obligations.CancelByState : Prop :=
  (∀ (s : State) (n : TicketNo) (t : Ticket), PortReady s → s.berth.ticket? n = some t →
      (t.state = .held ∨ t.state = .pending → Machine.exec (.cancel (bytes16 n)) s =
          .next (applied 0x24 (settle (cancelTicket s.berth t)) (ticketRes .ok n 0) s))
      ∧ (t.state = .granted → Machine.exec (.cancel (bytes16 n)) s =
          .next (applied 0x24 (settle (cancelTicket (withdraw s.berth t.crane (.cancel n)) t)) (ticketRes .ok n 0) s))
      ∧ (t.state ∈ [TicketState.lifting, .done, .cancelled, .failed] → Machine.exec (.cancel (bytes16 n)) s =
          .next (applied 0x24 s.berth (ticketRes .wrongState n t.state.code) s)))
  ∧ (∀ (b : Berth) (t v : Ticket), b.ticket? t.number = some v → (t.lashState = .awaiting → v = t) →
      let b' := cancelTicket b t
      let freed := t.lashState = .awaiting ∧ t.task ≠ none
      b'.ticket? t.number = some { v with
        state := .cancelled, reason := .none, doneAt := some b.nowSecs, partner := none, truck := none, lane := none
        lashState := if freed ∨ v.lashState = .reserved then .notNeeded else v.lashState
        task := if freed then none else v.task }
      ∧ (∀ id u, b'.indexed? id = some u → u.number ≠ t.number)
      ∧ (∀ p x, t.partner = some p → p ≠ t.number → b.ticket? p = some x → b'.ticket? p = some { x with partner := none })
      ∧ (∀ n, n ≠ t.number → t.partner ≠ some n → b'.ticket? n = b.ticket? n)
      ∧ (∀ x, t.lashState = .awaiting → t.task = some x.number → b.task? x.number = some x → UnlashLinkGivenUp b b' x)
      ∧ (t.lashState ≠ .awaiting → b'.ltu = b.ltu ∧ b'.bct = b.bct ∧ b'.qlc = b.qlc))

/-- R14, R15: an AMEND that passes its checks makes the changes of R15, and result OK.
R15, R122: every named field takes its value and no other host field changes; a change of lash leaves NOT_NEEDED, and so does a
change of bay of a ticket AWAITING or CLEARED; an AWAITING ticket whose lash or bay changes is unlinked from its task, which
is dropped at linked count 0 as its state says (R121); the deadline named clears LATE (log 14); every other field of the ticket stays.  A new partner names the ticket and a former one
names none; every other ticket stays. -/
def Obligations.AmendChanges : Prop :=
  (∀ (s : State) (body : List Byte) (t : Ticket), PortReady s → body.length = 30 →
    s.berth.ticket? (word16At body 0) = some t → t.state = .held → amendInvalid (word16At body 2) body = none →
    comboInvalid (amendFields (word16At body 2) body t) = none →
    amendRefusal s.berth t (amendFields (word16At body 2) body t) = none →
    Machine.exec (.amend body) s =
      .next (applied 0x21 (settle (amendTicket s.berth (word16At body 2) body t)) (ticketRes .ok (word16At body 0) 0) s))
  ∧ (∀ (set : BitVec 16) (body : List Byte) (t : Ticket), let u := amendFields set body t
      u = { t with crane := u.crane, seq := u.seq, bay := u.bay, row := u.row, tier := u.tier, priority := u.priority,
                   oneShot := u.oneShot, deadline := u.deadline, lash := u.lash, container := u.container,
                   partner := u.partner,
                   marks := if inSet set 7 then { t.marks with late := false } else t.marks }
      ∧ (inSet set 0 = true → ∀ c, craneOf? (byteAt body 4) = some c → u.crane = c) ∧ (inSet set 0 = false → u.crane = t.crane)
      ∧ u.seq = (if inSet set 1 then word16At body 5 else t.seq) ∧ u.bay = (if inSet set 2 then byteAt body 7 else t.bay)
      ∧ u.row = (if inSet set 3 then byteAt body 8 else t.row) ∧ u.tier = (if inSet set 4 then byteAt body 9 else t.tier)
      ∧ u.priority = (if inSet set 5 then priorityOf (byteAt body 10) else t.priority)
      ∧ (inSet set 6 = true → ∀ x, boolOf? (byteAt body 11) = some x → u.oneShot = x)
      ∧ (inSet set 6 = false → u.oneShot = t.oneShot)
      ∧ u.deadline = (if inSet set 7 then deadlineOf (word32At body 12) else t.deadline)
      ∧ (inSet set 8 = true → ∀ x, lashOf? (byteAt body 16) = some x → u.lash = x) ∧ (inSet set 8 = false → u.lash = t.lash)
      ∧ (inSet set 9 = true → ∀ x, containerOf? (slice body 17 11) = some x → u.container = x)
      ∧ (inSet set 9 = false → u.container = t.container)
      ∧ u.partner = (if inSet set 10 then partnerOf (word16At body 28) else t.partner))
  ∧ ∀ (b : Berth) (set : BitVec 16) (body : List Byte) (t : Ticket), b.ticket? t.number = some t →
      let u := amendFields set body t
      let b' := amendTicket b set body t
      b'.ticket? t.number = some { u with
        lashState := if u.lash ≠ t.lash ∨ (u.bay ≠ t.bay ∧ (t.lashState = .cleared ∨ t.lashState = .awaiting))
          then .notNeeded else t.lashState
        task := if t.lashState = .awaiting ∧ (u.lash ≠ t.lash ∨ u.bay ≠ t.bay) then none else t.task }
      ∧ (∀ p x, u.partner = some p → t.partner = none → p ≠ t.number → b.ticket? p = some x →
          b'.ticket? p = some { x with partner := some t.number })
      ∧ (∀ p x, t.partner = some p → u.partner = none → p ≠ t.number → b.ticket? p = some x →
          b'.ticket? p = some { x with partner := none })
      ∧ (∀ m, m ≠ t.number → t.partner ≠ some m → u.partner ≠ some m → b'.ticket? m = b.ticket? m)
      ∧ (∀ x, t.lashState = .awaiting → (u.lash ≠ t.lash ∨ u.bay ≠ t.bay) → t.task = some x.number →
          b.task? x.number = some x → UnlashLinkGivenUp b b' x)
      ∧ (t.lashState ≠ .awaiting ∨ (u.lash = t.lash ∧ u.bay = t.bay) →
          b'.ltu = b.ltu ∧ b'.bct = b.bct ∧ b'.qlc = b.qlc)

/-- R22: FORCE_DONE and FORCE_BACK of a LIFTING ticket whose crane is OFFLINE or in MANUAL. -/
def Obligations.ForceEndsLift : Prop :=
  ∀ (s : State) (n : TicketNo) (t : Ticket), PortReady s → s.berth.ticket? n = some t → t.state = .lifting →
    s.berth.forceable t.crane = true →
    Machine.exec (.forceDone n none) s =
      .next (applied 0x26 (settle (land (setForced s.berth t.crane n) t.crane false)) (ticketRes .ok n 0) s)
    ∧ Machine.exec (.forceBack n none) s =
      .next (applied 0x26 (settle (abandonLift (setForced s.berth t.crane n) t.crane)) (ticketRes .ok n 0) s)

/-! ## Crane, lane, truck, rule and gang writes -/

/-- R55, R56: CRANE_HALT and CRANE_RESUME of a crane of the part.
R55: after CRANE_HALT's own changes no ticket of the crane is PENDING, the halt flag is set, the crane is IDLE or
LIFTING, and its tickets that were PENDING are HELD with HALTED.
R55, R50: the grant of a GRANTED crane is withdrawn with the cause halt: its tickets are HELD with HALTED, without truck and
lane, a reserved task slot is given back, the claim is released and the WITHDRAW posted (the rest: WithdrawalUndoes). -/
def Obligations.HaltAndResume : Prop :=
  (∀ (s : State) (c : Crane), PortReady s →
      Machine.exec (.craneHalt [finByte c]) s = .next (applied 0x30 (settle (haltCrane s.berth c)) (okRes (fin16 c)) s)
      ∧ Machine.exec (.craneResume [finByte c]) s =
        .next (applied 0x31 (s.berth.modCrane c fun r => { r with halt := false }) (okRes (fin16 c)) s))
  ∧ (∀ (b : Berth) (c : Crane), (b.crane c).work = .granted →
      let b' := haltCrane b c
      let b0 := (b.modCrane c fun r => { r with halt := true }).modTicketsIf
        (fun t => t.crane == c && t.state == .pending) Ticket.haltHeld
      b' = withdraw b0 c .halt ∧ b'.pendingOf c = [] ∧ (b'.crane c).halt = true ∧ (b'.crane c).work = .idle
      ∧ (b'.crane c).lift = [] ∧ b'.craneClaim c = none
      ∧ (∀ t ∈ b.tickets, (b.crane c).lift.contains t.number = true →
          { t with state := .held, reason := .none, truck := none, lane := none, marks := { t.marks with halted := true }
                   lashState := if t.lashState = .reserved then .notNeeded else t.lashState } ∈ b'.tickets)
      ∧ (∀ t ∈ b.tickets, (b.crane c).lift.contains t.number = false → t.crane = c → t.state = .pending →
          t.haltHeld ∈ b'.tickets)
      ∧ ∀ n id, (b.crane c).grantTicket = some n → (b.crane c).grantId = some id →
          b'.qlc.craneSlots[c] = (b.qlc.craneSlots[c]).post (.withdraw n (b.crane c).grantPartner id) b.now)
  ∧ (∀ (b : Berth) (c : Crane), (b.crane c).work ≠ .granted →
      (haltCrane b c).pendingOf c = [] ∧ ((haltCrane b c).crane c).halt = true
      ∧ ((haltCrane b c).crane c).work ∈ [WorkState.idle, .lifting]
      ∧ ∀ t ∈ b.tickets, t.crane = c → t.state = .pending → t.haltHeld ∈ (haltCrane b c).tickets)

/-- R33: CRANE_MODE with its three values (`setManual` and `setAuto`: CraneReports).
R82: LANE_SET in RUN: the lane takes the state named; opening one owes a promotion check. -/
def Obligations.CraneModeAndLaneWrites : Prop :=
  (∀ (s : State) (c : Crane) (m : SeqMode) (o : Bool), PortReady s →
    Machine.exec (.craneMode [finByte c, m.code, boolByte o, Control.manual.code]) s =
      .next (applied 0x32 (settle (setManual (s.berth.modCrane c fun r => { r with seqMode := m, oneShot := o }) c))
        (okRes (fin16 c)) s)
    ∧ Machine.exec (.craneMode [finByte c, m.code, boolByte o, Control.auto.code]) s =
      .next (applied 0x32 (settle (setAuto (s.berth.modCrane c fun r => { r with seqMode := m, oneShot := o }) c))
        (okRes (fin16 c)) s))
  ∧ (∀ (s : State) (l : Lane), PortReady s → s.berth.mode = .run →
    (inSet s.berth.shu.openLanes l.val = true → Machine.exec (.laneSet [finByte l, 0]) s =
      .next (applied 0x38 (settle { s.berth with shu := { s.berth.shu with
        openLanes := s.berth.shu.openLanes ^^^ laneMask l } }) (okRes (fin16 l)) s))
    ∧ (inSet s.berth.shu.openLanes l.val = false → Machine.exec (.laneSet [finByte l, 1]) s =
      .next (applied 0x38 (settle { s.berth with shu := { s.berth.shu with
        openLanes := s.berth.shu.openLanes ^^^ laneMask l, promotionDue := true } }) (okRes (fin16 l)) s))
    ∧ ∀ m : Lane, inSet (s.berth.shu.openLanes ^^^ laneMask l) m.val =
        if m = l then !inSet s.berth.shu.openLanes m.val else inSet s.berth.shu.openLanes m.val)

/-- R108, R109: TRUCK_REMOVE and TRUCK_VERIFY of a tag that an entry holds, and of one that none holds.
R106, R107: what a removal makes, by the entry's place and state: the entry and its waiting PROMOTE are gone and a promotion
check is owed for the freed spot; a grant is withdrawn first; a lift goes on without its truck, with FAULT and LIFT_FAULT.
R109: what a verification makes: the mark of that one entry is cleared. -/
def Obligations.TruckWrites : Prop :=
  (∀ (s : State) (tag : Tag), PortReady s →
    (∀ p, s.berth.findTruck tag = some p →
      Machine.exec (.truckRemove (bytes24 tag)) s = .next (applied 0x3A (settle (removeTruck s.berth p)) p.res s)
      ∧ Machine.exec (.truckVerify (bytes24 tag)) s = .next (applied 0x39 (settle (verifyTruck s.berth p)) p.res s))
    ∧ (s.berth.findTruck tag = none →
      Machine.exec (.truckRemove (bytes24 tag)) s =
        .next (applied 0x3A s.berth { code := .unknown, entity := 0xFFFF, detail := 0 } s)
      ∧ Machine.exec (.truckVerify (bytes24 tag)) s =
        .next (applied 0x39 s.berth { code := .unknown, entity := 0xFFFF, detail := 0 } s)))
  ∧ (∀ (b : Berth) (place : Nat) (t : Truck), removeTruck b (.holding place t) =
      { b with shu := { b.shu with holding := b.shu.holding.filter fun u => u.arrival != t.arrival } })
  ∧ (∀ (b : Berth) (c : Crane) (t : Truck), let b' := removeTruck b (.stand c t)
      (∀ u ∈ b'.stand c, u.stay ≠ t.stay) ∧ (∀ d, d ≠ c → b'.stand d = b.stand d) ∧ b'.shu.promotionDue = true
      ∧ b'.shu.holding = b.shu.holding
      ∧ (∀ o ∈ b'.qlc.promotes, o.inFlight = true ∨ o.body.promoteTag ≠ some t.tag)
      ∧ (t.state ≠ .bound → b'.stand c = ((b.stand c).filter fun u => u.stay != t.stay) ∧ b'.tickets = b.tickets
          ∧ b'.cranes = b.cranes ∧ b'.bct = b.bct ∧ b'.ltu = b.ltu ∧ b'.nu = b.nu)
      ∧ (t.state = .bound → (b.crane c).grantTruck = some t.tag → (b.crane c).work = .granted →
          b'.tickets = (withdraw b c .truckGone).tickets ∧ b'.cranes = (withdraw b c .truckGone).cranes
          ∧ b'.bct = (withdraw b c .truckGone).bct ∧ b'.ltu = (withdraw b c .truckGone).ltu)
      ∧ (t.state = .bound → (b.crane c).grantTruck = some t.tag → (b.crane c).work = .lifting →
          b'.tickets = b.tickets.map (fun x => if (b.crane c).lift.contains x.number then
            { x with truck := none, lane := none, marks := { x.marks with fault := true } } else x)
          ∧ b'.crane c = { b.crane c with grantTruck := none, grantLane := none } ∧ b'.bct = b.bct
          ∧ b'.nu.raw = b.nu.raw ||| liftFault))
  ∧ (∀ (b : Berth) (c : Crane) (t : Truck), verifyTruck b (.stand c t) = b.modStand c fun l =>
      l.map fun u => if u.stay = t.stay then { u with unverified := false } else u)
  ∧ ∀ (b : Berth) (place : Nat) (t : Truck), verifyTruck b (.holding place t) = { b with shu := { b.shu with
      holding := b.shu.holding.map fun u => if u.arrival = t.arrival then { u with unverified := false } else u } }

/-- R97: a RULE_WRITE whose fields are valid replaces one slot and changes nothing else; which bytes after padding are valid is in
part the model's choice (log 39).  R97, R98: the rule written (the members of the chassis set: log 23).
R97: a slot not below RULE_SLOTS is BAD_FIELD with detail 0 (entity 0: log 11), and an invalid body BAD_FIELD with the offset of its first invalid
field; the offset of a tag_lo above its tag_hi is free between 2 and 5, and of an empty mask it is 15 (log 9). -/
def Obligations.RuleWriteReplacesSlot : Prop :=
  (∀ (s : State) (body : List Byte), PortReady s → body.length = 16 → (byteAt body 0).toNat < s.berth.sizes.ruleSlots →
    ruleInvalid body = none →
    Machine.exec (.ruleWrite body) s =
      .next (applied 0x48 { s.berth with shu := { s.berth.shu with
        rules := s.berth.shu.rules.set (byteAt body 0).toNat (ruleOf body) } }
        (okRes (BitVec.ofNat 16 (byteAt body 0).toNat)) s))
  ∧ (∀ body : List Byte, ruleInvalid body = none → let r := ruleOf body
      boolByte r.enabled = byteAt body 1 ∧ r.tagLo = word24At body 2 ∧ r.tagHi = word24At body 5
      ∧ (∀ ch : Chassis, inSet r.chassis ch.code.toNat = inSet (byteAt body 8) ch.code.toNat)
      ∧ r.cond.map CargoCond.code = some (byteAt body 9) ∧ r.action.map RuleAction.code = some (byteAt body 14)
      ∧ r.owner <+: slice body 10 4 ∧ (∀ x ∈ r.owner, x ≠ 0)
      ∧ (r.owner = slice body 10 4 ∨ (slice body 10 4)[r.owner.length]? = some 0)
      ∧ r.mask = (if r.action = some .cranes ∨ r.action = some .hold then byteAt body 15 else 0))
  ∧ (∀ (s : State) (body : List Byte), PortReady s → body.length = 16 →
      (s.berth.sizes.ruleSlots ≤ (byteAt body 0).toNat →
        Machine.exec (.ruleWrite body) s = .next (applied 0x48 s.berth (badField 0) s))
      ∧ ((byteAt body 0).toNat < s.berth.sizes.ruleSlots → ∀ o, ruleInvalid body = some o →
        Machine.exec (.ruleWrite body) s = .next (applied 0x48 s.berth (badField o) s)))
  ∧ (∀ body : List Byte, let lo := word24At body 2; let hi := word24At body 5; let flag := byteAt body 1
      let act := byteAt body 14
      (flag ∉ [(0 : Byte), 1] → ruleInvalid body = some 1)
      ∧ (flag ∈ [(0 : Byte), 1] →
        (validTag lo = false → ruleInvalid body = some 2)
        ∧ (validTag lo = true → validTag hi = false → ruleInvalid body = some 5)
        ∧ (validTag lo = true → validTag hi = true → hi.toNat < lo.toNat →
            ruleInvalid body = some 2 ∨ ruleInvalid body = some 5)
        ∧ (validTag lo = true → validTag hi = true → lo.toNat ≤ hi.toNat →
          (byteAt body 9 ∉ [(1 : Byte), 2, 3] → ruleInvalid body = some 9)
          ∧ (byteAt body 9 ∈ [(1 : Byte), 2, 3] →
            (ownerValid (slice body 10 4) = false → ruleInvalid body = some 10)
            ∧ (ownerValid (slice body 10 4) = true →
              (act ∉ [(1 : Byte), 2, 3, 4] → ruleInvalid body = some 14)
              ∧ (act ∈ [(1 : Byte), 2] → byteAt body 15 = 0 → ruleInvalid body = some 15)
              ∧ (act ∈ [(3 : Byte), 4] ∨ (act ∈ [(1 : Byte), 2] ∧ byteAt body 15 ≠ 0) → ruleInvalid body = none))))))
  ∧ ∀ l : List Byte, ownerValid l = true ↔ ∃ xs ys, l = xs ++ ys ∧ (∀ x ∈ xs, 0x41 ≤ x.toNat ∧ x.toNat ≤ 0x5A)
      ∧ (ys = [] ∨ ys.head? = some 0) ∧ ∀ y ∈ ys, ¬ (0x41 ≤ y.toNat ∧ y.toNat ≤ 0x5A)

/-- R76, R137 to R139: the host gang commands in RUN.
R136: the rows of a roster that holds, or lacks, the shift, for a gang OFF_DUTY, IDLE or ON_DECK; and for one ASSIGNED or
WAIT_DECK, whose deck request is given up and to which RECALL is posted.
R137: GANG_DUTY by the same rows.  R138: what GANG_SERVE makes of the list.
R139, R121: what GANG_CLEAR makes of an OFFLINE gang (`comeOffDeck` of one ONLINE: GangReports). -/
def Obligations.GangWrites : Prop :=
  (∀ (s : State) (g : Gang), PortReady s → s.berth.mode = .run →
      Machine.exec (.gangDuty [finByte g, 1]) s = .next (applied 0x40 (settle (dutyOn s.berth g)) (okRes (fin16 g)) s)
      ∧ Machine.exec (.gangDuty [finByte g, 0]) s = .next (applied 0x40 (settle (dutyOff s.berth g)) (okRes (fin16 g)) s)
      ∧ (∀ set, Machine.exec (.gangServe [finByte g, set]) s =
          .next (applied 0x41 (settle (serve s.berth g set)) (okRes (fin16 g)) s))
      ∧ (∀ r : BitVec 4, Machine.exec (.gangRoster [finByte g, r.setWidth 8]) s =
          .next (applied 0x42 (settle (applyRoster (s.berth.modGang g fun x => { x with roster := r }) g)) (okRes (fin16 g)) s))
      ∧ (∀ bay, s.berth.gangClaim g = some { bay, standing := .confirmed } →
          Machine.exec (.gangClear [finByte g]) s =
            .next (applied 0x43 (settle (comeOffDeck s.berth g (!s.berth.online (gangStation g)))) (okRes (fin16 g)) s))
      ∧ ((∀ k, s.berth.gangClaim g = some k → k.standing = .clearing) →
          Machine.exec (.gangClear [finByte g]) s =
            .next (applied 0x43 s.berth { code := .wrongState, entity := 0, detail := 0 } s)))
  ∧ (∀ (b : Berth) (g : Gang),
      ((b.gang g).roster &&& b.clock.shiftIndex ≠ 0 → (b.gang g).onDuty = false →
        ((applyRoster b g).gang g).onDuty = true ∧ ((applyRoster b g).gang g).activity = .idle)
      ∧ ((b.gang g).roster &&& b.clock.shiftIndex ≠ 0 → (b.gang g).onDuty = true →
        (applyRoster b g).gang g = { b.gang g with reliefDue := false })
      ∧ ((b.gang g).roster &&& b.clock.shiftIndex = 0 → (b.gang g).onDuty = false → applyRoster b g = b)
      ∧ ((b.gang g).roster &&& b.clock.shiftIndex = 0 → (b.gang g).onDuty = true → (b.gang g).activity = .onDeck →
        (applyRoster b g).gang g = { b.gang g with reliefDue := true })
      ∧ ((b.gang g).roster &&& b.clock.shiftIndex = 0 → (b.gang g).onDuty = true → (b.gang g).activity = .idle →
        (applyRoster b g).gang g = { b.gang g with onDuty := false, tasks := [] })
      ∧ applyRoster b g = if (b.gang g).roster &&& b.clock.shiftIndex = 0 then dutyOff b g else dutyOn b g)
  ∧ (∀ (b : Berth) (g : Gang),
      ((b.gang g).onDuty = false →
        dutyOn b g = b.modGang g (fun r => { r with onDuty := true, activity := .idle }) ∧ dutyOff b g = b)
      ∧ ((b.gang g).onDuty = true →
        dutyOn b g = b.modGang g (fun r => { r with reliefDue := false })
        ∧ ((b.gang g).reliefDue = false → dutyOn b g = b)
        ∧ ((b.gang g).activity = .onDeck → dutyOff b g = b.modGang g fun r => { r with reliefDue := true })
        ∧ ((b.gang g).activity ≠ .onDeck → let b' := dutyOff b g
            b'.gang g = { b.gang g with onDuty := false, activity := .idle, tasks := [] }
            ∧ (∀ h, h ≠ g → b'.gang h = b.gang h) ∧ b'.tickets = b.tickets
            ∧ (∀ n ∈ (b.gang g).tasks, b'.task? n = (b.task? n).map fun t => { t with state := .opened })
            ∧ (∀ n, n ∉ (b.gang g).tasks → b'.task? n = b.task? n)
            ∧ ((b.gang g).activity = .idle → b'.bct = b.bct ∧ b'.qlc = b.qlc)
            ∧ ((b.gang g).activity ∈ [Activity.assigned, .waitDeck] → b'.bct = (leaveDeckRequest b g).bct
              ∧ (∀ h, h ≠ g → b'.qlc.gangSlots[h] = (leaveDeckRequest b g).qlc.gangSlots[h])
              ∧ ∀ n, (b.gang g).tasks.head? = some n →
                b'.qlc.gangSlots[g] = (b.qlc.gangSlots[g]).post (.recall n) b.now))))
  ∧ (∀ (b : Berth) (g : Gang), let b' := leaveDeckRequest b g
      b'.isWaiter g = false
      ∧ ((∀ bay, b.gangClaim g ≠ some { bay, standing := .clearing }) → b' = b.removeWaiter g)
      ∧ ∀ bay, b.gangClaim g = some { bay, standing := .clearing } →
          b' = examineWaiters ((b.removeWaiter g).setGangClaim g none) ∧ b'.gangClaim g = none)
  ∧ (∀ (b : Berth) (g : Gang) (set : BitVec 8), let b' := serve b g set
      let gone (n : TaskNo) : Bool := (b.task? n).any fun t => t.state == .queued && !inSet set t.crane.val
      b'.gang g = { b.gang g with served := set, tasks := (b.gang g).tasks.filter fun n => !gone n }
      ∧ (∀ h, h ≠ g → b'.gang h = b.gang h)
      ∧ (∀ n ∈ (b.gang g).tasks, gone n = true → b'.task? n = (b.task? n).map fun t => { t with state := .opened })
      ∧ (∀ n, n ∉ (b.gang g).tasks ∨ gone n = false → b'.task? n = b.task? n)
      ∧ b'.bct = b.bct ∧ b'.qlc = b.qlc ∧ b'.tickets = b.tickets)
  ∧ ∀ (b : Berth) (g : Gang), let b' := comeOffDeck b g true
      b'.bct = (releaseGangClaim b g).bct ∧ b'.qlc = (releaseGangClaim b g).qlc ∧ b'.tickets = b.tickets
      ∧ (∀ h, h ≠ g → b'.gang h = b.gang h)
      ∧ b'.gang g = { b.gang g with activity := .idle, tasks := [], reliefDue := false
                                    onDuty := if (b.gang g).reliefDue then false else (b.gang g).onDuty }
      ∧ (∀ n, n ∉ (b.gang g).tasks → b'.task? n = b.task? n)
      ∧ (∀ t, OwedToNobody b g t → b'.task? t.number = none)
      ∧ ∀ n ∈ (b.gang g).tasks, (∀ t, OwedToNobody b g t → n ≠ t.number) →
          b'.task? n = (b.task? n).map fun t => { t with state := .opened }

/-! ## Clock, notices, modes, configuration -/

/-- R144 to R147: the clock commands.
R147: the adjustment is added to the quay time counted in sixteenths, modulo 2^36, with the rule's table.
R142, R145: a step of the running clock adds one sixteenth, carrying and wrapping; a stopped clock makes none. -/
def Obligations.ClockCommandsAndSteps : Prop :=
  ((∀ s : State, PortReady s →
      (s.berth.clock.running = false → let b := settle (dueTimeEvent (s.berth.setRunning true))
        Machine.exec .clockRun s = .next (applied 0x52 b (clockRes b) s))
      ∧ (s.berth.clock.running = true → Machine.exec .clockRun s = .next (applied 0x52 s.berth (clockRes s.berth) s))
      ∧ Machine.exec .clockStop s = .next (applied 0x53 (s.berth.setRunning false) (clockRes s.berth) s)
      ∧ (∀ secs : Secs, let b := settle (dueTimeEvent (evalShift (s.berth.setTime { secs, six := 0 })))
        Machine.exec (.clockSet (bytes32 secs)) s = .next (applied 0x50 b (clockRes b) s))
      ∧ (∀ (secs : Secs) (six : BitVec 4), let b := settle (dueTimeEvent (evalShift (s.berth.setTime { secs, six })))
        Machine.exec (.clockSet (bytes32 secs ++ [six.setWidth 8])) s = .next (applied 0x50 b (clockRes b) s))
      ∧ (∀ d : Byte, d ≠ 0x80 → d ≠ 0 → (s.berth.now.adjust d).secs ≠ s.berth.nowSecs →
        let b := settle (dueTimeEvent (evalShift (s.berth.setTime (s.berth.now.adjust d))))
        Machine.exec (.clockAdjust [d]) s = .next (applied 0x51 b (clockRes b) s))
      ∧ (∀ d : Byte, d ≠ 0x80 → d ≠ 0 → (s.berth.now.adjust d).secs = s.berth.nowSecs →
        let b := settle (dueTimeEvent (s.berth.setTime (s.berth.now.adjust d)))
        Machine.exec (.clockAdjust [d]) s = .next (applied 0x51 b (clockRes b) s))
      ∧ Machine.exec (.clockAdjust [0]) s = .next (applied 0x51 s.berth (clockRes s.berth) s)
      ∧ Machine.exec (.clockAdjust [0x80]) s = .next (applied 0x51 s.berth { code := .badField, entity := 0, detail := 0 } s))
  ∧ ((∀ (q : QTime) (d : Byte), ((q.adjust d).bits.toNat : Int) = ((q.bits.toNat : Int) + d.toInt) % 2 ^ 36)
    ∧ QTime.adjust { secs := 50300, six := 4 } 127 = { secs := 50308, six := 3 }
    ∧ QTime.adjust { secs := 50300, six := 4 } (-5) = { secs := 50299, six := 15 }
    ∧ QTime.adjust { secs := 4294967295, six := 14 } 3 = { secs := 0, six := 1 }
    ∧ QTime.adjust { secs := 0, six := 2 } (-5) = { secs := 4294967295, six := 13 }))
  ∧ ((∀ q : QTime, q.six ≠ 15 → q.next = { q with six := q.six + 1 })
  ∧ (∀ q : QTime, q.six = 15 → q.next = { secs := q.secs + 1, six := 0 })
  ∧ (∀ s : State, s.port.inReset = false → s.berth.clock.running = true → ∃ t, Machine.exec .timeBaseStep s = .next t
      ∧ t.berth.clock.time = s.berth.now.next ∧ t.berth.clock.running = true ∧ t.port = s.port)
  ∧ ∀ s : State, s.berth.clock.running = false → Machine.exec .timeBaseStep s = .next s)

/-- R149: the worked figures of the shift number and index.
R150, R151: the index is written and SHIFT_CHANGE raised exactly where the index differs. -/
def Obligations.Shifts : Prop :=
  (let p := { Params.reset with shiftOrigin := 21600 };
    shiftNumber p 50399 = 0 ∧ shiftOneHot p 50399 = 1 ∧ shiftNumber p 50400 = 1 ∧ shiftOneHot p 50400 = 2
    ∧ shiftNumber p 21599 = -1 ∧ shiftOneHot p 21599 = 4)
  ∧ (∀ b : Berth, (evalShift b).clock.shiftIndex = shiftOneHot b.params b.nowSecs
      ∧ (shiftOneHot b.params b.nowSecs = b.clock.shiftIndex → evalShift b = b)
      ∧ (shiftOneHot b.params b.nowSecs ≠ b.clock.shiftIndex → (evalShift b).nu.raw = b.nu.raw ||| shiftChange))

/-- R52, R53, R28, R61, R150: the due-time events where the due time is reached; elsewhere nothing (log 24).
R28: every ticket marked LATE by the sweep qualified; after it none that qualifies is unmarked; TICKET_LATE is raised
when one was; a stopped clock marks none.
R61: what the starve check asks for, as the rule lists it.  No change ends with a check left to be met, and a crane is newly
marked starve reported only with CRANE_STARVED raised. -/
def Obligations.DueTimeEvents : Prop :=
  (∀ s : State, s.port.inReset = false →
      (∀ c, s.berth.expiryDue c = true →
        Machine.exec (.grantExpiry c) s = .next { s with berth := settle (expireGrant s.berth c) })
      ∧ (∀ c, s.berth.expiryDue c = false → Machine.exec (.grantExpiry c) s = .next s)
      ∧ (∀ n t, s.berth.ticket? n = some t → t.late? s.berth.clock = true → Machine.exec (.ticketLate n) s =
          .next { s with berth := settle ((s.berth.modTicket n Ticket.markLate).raise ticketLateCause) })
      ∧ (∀ c, s.berth.starveMet c = true → Machine.exec (.craneStarved c) s = .next { s with
          berth := (s.berth.modCrane c fun r => { r with starveReported := true }).raise craneStarvedCause })
      ∧ (∀ c, s.berth.starveMet c = false → Machine.exec (.craneStarved c) s = .next s)
      ∧ (s.berth.clock.running = true → shiftOneHot s.berth.params s.berth.nowSecs ≠ s.berth.clock.shiftIndex →
          Machine.exec .shiftBoundary s = .next { s with berth := settle (evalShift s.berth) }))
  ∧ (∀ b : Berth, (markLates b).tickets = b.tickets.map (fun t => if t.late? b.clock then t.markLate else t)
      ∧ (∀ t ∈ (markLates b).tickets, t.late? b.clock = false)
      ∧ ((∃ t ∈ b.tickets, t.late? b.clock = true) → (markLates b).nu.raw = b.nu.raw ||| ticketLateCause)
      ∧ (b.clock.running = false → markLates b = b))
  ∧ (∀ (b : Berth) (c : Crane), b.starveMet c = true ↔ b.clock.running = true ∧ (b.crane c).work = .waiting
      ∧ b.params.starveTime ≠ 0 ∧ (b.crane c).starveReported = false
      ∧ (∃ q, (b.crane c).starveStart = some q ∧ (q.addSecs b.params.starveTime).reached b.now = true)
      ∧ ((b.crane c).seqMode = .strict → ∃ k, b.headCandidate c = some k
        ∧ (k.lead.reason = .truck ∨ k.lead.reason = .truckUnverified))
      ∧ ((b.crane c).seqMode = .priority → ∃ t ∈ b.pendingOf c, t.reason = .truck ∨ t.reason = .truckUnverified))
  ∧ ∀ (b : Berth) (c : Crane), (settle b).starveMet c = false
      ∧ (((settle b).crane c).starveReported = true → (b.crane c).starveReported = true
        ∨ (settle b).nu.raw &&& craneStarvedCause = craneStarvedCause)

/-- R203: NOTICE_CLEAR clears the named edge causes and nothing else; an event that raises a named cause is lost before the
clearing and stays after it. -/
def Obligations.NoticeClear : Prop :=
  (∀ (s : State) (set : BitVec 16), PortReady s →
    Machine.exec (.noticeClear (bytes16 set)) s =
      .next (applied 0x58 { s.berth with nu := { s.berth.nu with raw := s.berth.nu.raw &&& ~~~(set &&& edgeCauses) } }
        { code := .ok, entity := 0, detail := 0 } s)
    ∧ ∀ i : Fin 16, (s.berth.nu.raw &&& ~~~(set &&& edgeCauses)).getLsbD i.val =
        (s.berth.nu.raw.getLsbD i.val && !(set.getLsbD i.val && !(8 ≤ i.val && i.val ≤ 11))))
  ∧ ∀ raw set cause : BitVec 16, cause &&& edgeCauses = cause → cause &&& set = cause →
      ((raw ||| cause) &&& ~~~(set &&& edgeCauses)) &&& cause = 0
      ∧ ((raw &&& ~~~(set &&& edgeCauses)) ||| cause) &&& cause = cause

/-- R201: NOTICE_ENABLE writes the whole enable set and nothing else; a cause is raised whatever its enable bit, and the
flagged set is the raw causes enabled.  R202, R220: NOTIFY is low exactly when one is flagged and no reset is asserted. -/
def Obligations.NoticeEnable : Prop :=
  (∀ (s : State) (set : BitVec 16), PortReady s →
    Machine.exec (.noticeEnable (bytes16 set)) s =
      .next (applied 0x59 { s.berth with nu := { s.berth.nu with enable := set } } { code := .ok, entity := 0, detail := 0 } s))
  ∧ (∀ (b : Berth) (cause : BitVec 16), (b.raise cause).nu = { b.nu with raw := b.nu.raw ||| cause })
  ∧ (∀ (n : Notices) (i : Fin 16), n.flagged.getLsbD i.val = (n.raw.getLsbD i.val && n.enable.getLsbD i.val))
  ∧ ∀ s : State, notifyLow s = true ↔
      s.port.inReset = false ∧ ∃ i : Fin 16, s.berth.nu.raw.getLsbD i.val = true ∧ s.berth.nu.enable.getLsbD i.val = true

/-- R208 to R212: the moves of MODE_SET that are made.
R208, R209: the moves of MODE_SET that are refused, and those that name the mode in force, change nothing; entity 0 of OCCUPIED and
NOT_CONFIG (log 11) and the refusal by a busy crane (log 26) are the model's reading, DEDUCED.
R211, R178, R78, R141: what entering CONFIG from RUN leaves. -/
def Obligations.ModeMoves : Prop :=
  ((∀ s : State, PortReady s →
      (s.berth.mode = .config → s.berth.sizes.sum ≤ 1600 →
        Machine.exec .modeSetRun s = .next (applied 0x60 (settle (enterRun s.berth)) (okRes 0 1) s))
      ∧ (s.berth.mode = .config → Machine.exec .modeSetMonitor s = .next (applied 0x60 (enterMonitor s.berth) (okRes 0 1) s))
      ∧ (s.berth.mode = .run → s.berth.lifting = false →
        Machine.exec .modeSetConfig s = .next (applied 0x60 (settle (enterConfigFromRun s.berth)) (okRes 0 2) s))
      ∧ (s.berth.mode = .monitor →
        Machine.exec .modeSetConfig s = .next (applied 0x60 { s.berth with mode := .config } (okRes 0 3) s)))
  ∧ (∀ b : Berth,
      (b.mode = .config → 1600 < b.sizes.sum →
        moveMode b .run = (b, { code := .partitionInvalid, entity := BitVec.ofNat 16 b.sizes.sum, detail := 0 }))
      ∧ (∀ c, b.mode = .run → b.busyCrane = some c →
        moveMode b .config = (b, { code := .occupied, entity := 0, detail := finByte c }))
      ∧ (b.mode = .run → moveMode b .monitor = (b, { code := .notConfig, entity := 0, detail := 0 }))
      ∧ (b.mode = .monitor → moveMode b .run = (b, { code := .notConfig, entity := 0, detail := 0 }))
      ∧ moveMode b b.mode = (b, okRes 0 b.mode.code)))
  ∧ (∀ b : Berth, b.lifting = false →
    (enterConfigFromRun b).mode = .config ∧ (enterConfigFromRun b).bct.waiters = []
    ∧ (∀ c : Crane, ((enterConfigFromRun b).crane c).work = .idle)
    ∧ (∀ c : Crane, (enterConfigFromRun b).qlc.craneSlots[c] = Slot.empty)
    ∧ (∀ g : Gang, (enterConfigFromRun b).qlc.gangSlots[g] = Slot.empty)
    ∧ (enterConfigFromRun b).qlc.promotes = []
    ∧ (∀ (g : Gang) k, (enterConfigFromRun b).gangClaim g = some k → k.standing = .confirmed ∧ b.gangClaim g = some k)
    ∧ (∀ g : Gang, ((enterConfigFromRun b).gang g).activity ∈ [Activity.idle, .onDeck])
    ∧ (enterConfigFromRun b).qlc.stations = b.qlc.stations)

/-- R214, R215: a CONFIG_WRITE in CONFIG whose value is in range and whose guard holds; the ranges; the guards; the parameter of
each code, every other kept; R151: the shift re-evaluated for codes 14 to 16, and nothing else written for any other.
R216: an accepted PARTITION, and what it writes.
R214, R215, R216: what refuses them, the first check that fails, with no change (entity 0: log 11).  A PARTITION that finds both a
non-FREE ticket slot and a task or a reservation has detail 1 by the model's choice (log 44). -/
def Obligations.ConfigAndPartitionWrites : Prop :=
  (∀ (s : State) (code index : Byte) (value : BitVec 32), PortReady s → s.berth.mode = .config →
    1 ≤ code.toNat → code.toNat ≤ 16 → (code = 3 → index.toNat ≤ 7) → paramInRange code.toNat value.toNat = true →
    configGuard s.berth code.toNat ((craneOf? index).getD 0) value = none →
    Machine.exec (.configWrite ([code, index] ++ bytes32 value)) s =
      .next (applied 0x61 (settle (applyConfig s.berth code.toNat ((craneOf? index).getD 0) value))
        (okRes (BitVec.ofNat 16 code.toNat) index) s))
  ∧ (∀ (s : State) (z : Sizes), PortReady s → s.berth.mode = .config → partitionInvalidAt z = none →
    s.berth.tickets = [] → s.berth.ltu.tasks = [] → s.berth.ltu.reserved = 0 →
    Machine.exec (.partition (nat16 z.ticketSlots ++ nat16 z.taskSlots ++ [natByte z.ruleSlots])) s =
      .next (applied 0x62 (settle (applyPartition s.berth z))
        (okRes (BitVec.ofNat 16 z.sum) (if z.sum ≤ 1600 then 0 else 1)) s))
  ∧ (∀ v : Nat, (paramInRange 1 v = true ↔ 1 ≤ v ∧ v ≤ 8) ∧ (paramInRange 2 v = true ↔ v ≤ 3)
      ∧ (paramInRange 3 v = true ↔ 1 ≤ v ∧ v ≤ 63) ∧ (paramInRange 4 v = true ↔ 10 ≤ v ∧ v ≤ 600)
      ∧ (paramInRange 5 v = true ↔ 1 ≤ v ∧ v ≤ 7) ∧ (paramInRange 6 v = true ↔ v = 0 ∨ (10 ≤ v ∧ v ≤ 900))
      ∧ (paramInRange 7 v = true ↔ v ≤ 32) ∧ (paramInRange 8 v = true ↔ 1 ≤ v ∧ v ≤ 32)
      ∧ (paramInRange 9 v = true ↔ v ≤ 255) ∧ (∀ code ∈ [10, 11, 12, 13], (paramInRange code v = true ↔ v ≤ 1))
      ∧ (paramInRange 14 v = true ↔ 60 ≤ v ∧ v ≤ 720) ∧ (paramInRange 15 v = true ↔ 2 ≤ v ∧ v ≤ 4)
      ∧ paramInRange 16 v = true)
  ∧ (∀ (b : Berth) (c : Crane) (value : BitVec 32),
      (configGuard b 3 c value = none ↔ ∀ t ∈ b.stand c, ∀ l, t.lane = some l → inSet (value.extractLsb' 0 6) l.val = true)
      ∧ (configGuard b 7 c value = none ↔ b.occupancy ≤ value.toNat)
      ∧ ∀ code, code ≠ 3 → code ≠ 7 → configGuard b code c value = none)
  ∧ (∀ (b : Berth) (code : Nat) (c : Crane) (value : BitVec 32), let b0 := { b with params := b.params.write code c value }
      applyConfig b code c value = if code = 14 ∨ code = 15 ∨ code = 16 then evalShift b0 else b0)
  ∧ (∀ (p : Params) (c : Crane) (value : BitVec 32), let v := value.toNat
      p.write 1 c value = { p with clear := v } ∧ p.write 2 c value = { p with deckMargin := v }
      ∧ p.write 3 c value = { p with laneSets := (p.write 3 c value).laneSets }
      ∧ (p.write 3 c value).laneSets[c] = value.extractLsb' 0 6
      ∧ (∀ d : Crane, d ≠ c → (p.write 3 c value).laneSets[d] = p.laneSets[d])
      ∧ p.write 4 c value = { p with grantTime := v } ∧ p.write 5 c value = { p with attemptLimit := v }
      ∧ p.write 6 c value = { p with starveTime := v } ∧ p.write 7 c value = { p with holdDepth := v }
      ∧ p.write 8 c value = { p with holdMark := v } ∧ p.write 9 c value = { p with poolMark := v }
      ∧ p.write 10 c value = { p with lenient := decide (v = 1) } ∧ p.write 11 c value = { p with dualCycle := decide (v = 1) }
      ∧ p.write 12 c value = { p with routeReject := decide (v = 1) }
      ∧ p.write 13 c value = { p with autoRetire := decide (v = 1) } ∧ p.write 14 c value = { p with shiftLength := v }
      ∧ p.write 15 c value = { p with shiftCount := v } ∧ p.write 16 c value = { p with shiftOrigin := value })
  ∧ (∀ (b : Berth) (z : Sizes), applyPartition b z = { b with
      sizes := z
      shu := { b.shu with rules := List.replicate z.ruleSlots Rule.cleared }
      ltu := { b.ltu with creation := 0 } })
  ∧ (∀ z : Sizes, let ok (step lo hi v : Nat) : Prop := lo ≤ v ∧ v ≤ hi ∧ v % step = 0
      (¬ ok 64 64 1536 z.ticketSlots → partitionInvalidAt z = some 0)
      ∧ (ok 64 64 1536 z.ticketSlots →
        (¬ ok 16 16 256 z.taskSlots → partitionInvalidAt z = some 2)
        ∧ (ok 16 16 256 z.taskSlots →
          (¬ ok 8 0 64 z.ruleSlots → partitionInvalidAt z = some 4)
          ∧ (ok 8 0 64 z.ruleSlots → partitionInvalidAt z = none))))
  ∧ (∀ (s : State) (code index : Byte) (value : BitVec 32), PortReady s → s.berth.mode = .config →
      let refused (r : Res) : Prop :=
        Machine.exec (.configWrite ([code, index] ++ bytes32 value)) s = .next (applied 0x61 s.berth r s)
      (code.toNat < 1 ∨ 16 < code.toNat → refused (badField 0))
      ∧ (code = 3 → 7 < index.toNat → refused (badField 1))
      ∧ (1 ≤ code.toNat → code.toNat ≤ 16 → (code = 3 → index.toNat ≤ 7) → paramInRange code.toNat value.toNat = false →
          refused (badField 2))
      ∧ (∀ (c : Crane) (l : Lane), code = 3 → index = finByte c → paramInRange 3 value.toNat = true →
          inSet (value.extractLsb' 0 6) l.val = false → (∃ t ∈ s.berth.stand c, t.lane = some l) →
          (∀ t ∈ s.berth.stand c, ∀ m, m < l → t.lane = some m → inSet (value.extractLsb' 0 6) m.val = true) →
          refused { code := .occupied, entity := 0, detail := finByte l })
      ∧ (code = 7 → value.toNat ≤ 32 → value.toNat < s.berth.occupancy →
          refused { code := .occupied, entity := 0, detail := natByte s.berth.occupancy }))
  ∧ ∀ (s : State) (x y : BitVec 16) (w : Byte), PortReady s → s.berth.mode = .config →
      let z : Sizes := { ticketSlots := x.toNat, taskSlots := y.toNat, ruleSlots := w.toNat }
      let refused (r : Res) : Prop :=
        Machine.exec (.partition (bytes16 x ++ bytes16 y ++ [w])) s = .next (applied 0x62 s.berth r s)
      (∀ o, partitionInvalidAt z = some o → refused (badField o))
      ∧ (partitionInvalidAt z = none →
        (s.berth.tickets ≠ [] → refused { code := .occupied, entity := 0, detail := 1 })
        ∧ (s.berth.tickets = [] → (s.berth.ltu.tasks ≠ [] ∨ s.berth.ltu.reserved ≠ 0) →
            refused { code := .occupied, entity := 0, detail := 2 }))

/-- R218: CLEAR_TABLES in CONFIG, and what it empties and keeps: the order board with its slots (R169), the crane records'
position, last-expired and starve fields (R31), the gangs' lists and the duty of a relief-due gang (R141). -/
def Obligations.ClearTables : Prop :=
  (∀ s : State, PortReady s → s.berth.mode = .config →
    Machine.exec .clearTables s = .next (applied 0x63 (settle (clearAll s.berth)) (okRes 0 0) s))
  ∧ ∀ b : Berth, (clearAll b).tickets = [] ∧ (clearAll b).ltu.tasks = [] ∧ (clearAll b).ltu.reserved = 0
    ∧ (clearAll b).shu.holding = [] ∧ (clearAll b).bct.waiters = [] ∧ (clearAll b).qlc.promotes = []
    ∧ (∀ c : Crane, (clearAll b).stand c = [] ∧ (clearAll b).craneClaim c = none
        ∧ (clearAll b).qlc.craneSlots[c] = Slot.empty
        ∧ (clearAll b).crane c = { b.crane c with position := 0, lastExpired := none, starveStart := none,
                                                  starveReported := false })
    ∧ (∀ g : Gang, (clearAll b).gangClaim g = none ∧ (clearAll b).qlc.gangSlots[g] = Slot.empty
        ∧ (clearAll b).gang g = { b.gang g with activity := .idle, tasks := [], reliefDue := false,
                                                onDuty := if (b.gang g).reliefDue then false else (b.gang g).onDuty })
    ∧ (clearAll b).nu.raw &&& edgeCauses = 0 ∧ (clearAll b).nu.enable = b.nu.enable
    ∧ (clearAll b).clock = b.clock ∧ (clearAll b).params = b.params ∧ (clearAll b).sizes = b.sizes
    ∧ (clearAll b).shu.rules = b.shu.rules ∧ (clearAll b).shu.openLanes = b.shu.openLanes
    ∧ (clearAll b).qlc.stations = b.qlc.stations

/-! ## Frames -/

/-- R34, R35, R48, R57, R58, R162: HELLO, ASK, STANDBY, POSITION, MANUAL and AUTO of an ONLINE crane in RUN.
R57: what MANUAL leaves, by the crane's work state.  R58: what AUTO leaves (R100: a promotion check is owed).
R35: what the end of a waiting period leaves. -/
def Obligations.CraneReports : Prop :=
  (∀ (s : State) (c : Crane), CraneSpeaks s c →
    let st := craneStation c
    let b := heardFrom s.berth st
    Machine.exec (.hello (frameOf st 1 [])) s = .next (replied s st b accept)
    ∧ ((b.crane c).work = .idle → (b.crane c).halt = false → (b.crane c).control = .auto →
        Machine.exec (.ask (frameOf st 1 [])) s = .next (replied s st (b.modCrane c fun r => r.startWaiting b.now) accept))
    ∧ ((b.crane c).work = .waiting → Machine.exec (.standby (frameOf st 1 [])) s = .next (replied s st (endWaiting b c) accept))
    ∧ ((b.crane c).work ∈ [WorkState.idle, .waiting] → ∀ bay : Byte, bay.toNat ≤ 127 →
        Machine.exec (.position (frameOf st 1 [bay])) s =
          .next (replied s st (b.modCrane c fun r => { r with position := bay }) accept))
    ∧ Machine.exec (.manual (frameOf st 1 [])) s = .next (replied s st (setManual b c) accept)
    ∧ Machine.exec (.auto (frameOf st 1 [])) s = .next (replied s st (setAuto b c) accept))
  ∧ (∀ (b : Berth) (c : Crane),
      ((b.crane c).control = .manual → setManual b c = b)
      ∧ ((b.crane c).control = .auto →
        ((b.crane c).work ∈ [WorkState.idle, .lifting] →
          setManual b c = b.modCrane c fun r => { r with control := .manual })
        ∧ ((b.crane c).work = .waiting → setManual b c =
          (b.modCrane c fun r => { r with control := .manual, work := .idle, starveStart := none }).craneReasons c)
        ∧ ((b.crane c).work = .granted →
          setManual b c = withdraw (b.modCrane c fun r => { r with control := .manual }) c .manual))
      ∧ ((setManual b c).crane c).control = .manual)
  ∧ (∀ (b : Berth) (c : Crane),
      ((b.crane c).control = .auto → setAuto b c = b)
      ∧ ((b.crane c).control = .manual → setAuto b c =
        (b.modCrane c fun r => { r with control := .auto }).owePromotion))
  ∧ ∀ (b : Berth) (c : Crane), let b' := endWaiting b c
      b'.crane c = { b.crane c with work := .idle, starveStart := none } ∧ (∀ d, d ≠ c → b'.crane d = b.crane d)
      ∧ b'.tickets = b.tickets.map (fun t => if t.crane = c ∧ t.state = .pending then { t with reason := .crane } else t)

/-- R162, R63: HELLO of any station 0 to 13, ONLINE or OFFLINE, in RUN or CONFIG: the station is made ONLINE and the frame is
answered ACCEPT.
R162: what the return of a station writes: ONLINE with fail count 0; a promotion check is owed for a crane or GATE-IN.
R162: every frame that passes the checks of R163 and R164 leaves its station ONLINE, whatever the reply, where no order's reply
window is open; within one the model leaves the link state (log 42). -/
def Obligations.StationsReturn : Prop :=
  (∀ (s : State) (st : Station), LinkReady s → s.berth.mode = .run ∨ s.berth.mode = .config → st.val < 14 →
      Machine.exec (.hello (frameOf st 1 [])) s = .next (replied s st (makeOnline (heardFrom s.berth st) st) accept))
  ∧ (∀ (b : Berth) (st : Station),
      (b.online st = true → makeOnline b st = b)
      ∧ (b.online st = false →
        (makeOnline b st).station st = { online := true, fails := 0, heard := (b.station st).heard }
        ∧ (∀ x, x ≠ st → (makeOnline b st).station x = b.station x)
        ∧ makeOnline b st = { b with
            qlc := { b.qlc with stations := (makeOnline b st).qlc.stations }
            shu := { b.shu with promotionDue := b.shu.promotionDue || st.val < 8 || st == gateIn } }))
  ∧ ∀ (b : Berth) (st : Station) (cls : BitVec 2) (kind : Byte) (body : List Byte), b.qlc.window = none → b.mode ≠ .monitor →
      st.val < 14 → kind ≠ kindReply → (roleOf st).kinds.contains kind = true → cls = classOf kind →
      lengthAllowed kind body = true →
      (goodFrame b st cls kind body).station st =
        { online := true, fails := if b.online st then (b.station st).fails else 0, heard := true }

/-- R34: the refusals of ASK in their order; R35, R48: the refusals of STANDBY and POSITION.  None changes a record.
R45, R46, R47: the refusals of the lift reports; none changes a record.  NOT_GRANTED before NO_TARGET in SET_DOWN is the model's
choice (log 40).
R59: a manual pick's refusals in their order; none changes a record. -/
def Obligations.ReportRefusals : Prop :=
  (∀ (b : Berth) (c : Crane),
      ((b.crane c).halt = true → askReport b c = (b, refuse .halted))
      ∧ ((b.crane c).halt = false → (b.crane c).control = .manual → askReport b c = (b, refuse .manualMode))
      ∧ ((b.crane c).halt = false → (b.crane c).control = .auto → (b.crane c).work.lifted = true →
          askReport b c = (b, refuse .wrongState))
      ∧ ((b.crane c).work.lifted = true → standbyReport b c = (b, refuse .wrongState)
          ∧ ∀ bay, positionReport b c bay = (b, accept))
      ∧ ((b.crane c).work.lifted = false → ∀ bay : Bay, 127 < bay.toNat → positionReport b c bay = (b, refuse .wrongState)))
  ∧ (∀ (b : Berth) (c : Crane) (n : TicketNo),
      ((b.crane c).control = .auto → (b.crane c).lift.contains n = false → (b.crane c).expired n = true →
        lockOnReport b c n none = (b, refuse .expired))
      ∧ ((b.crane c).control = .auto → (b.crane c).lift.contains n = false → (b.crane c).expired n = false →
        lockOnReport b c n none = (b, refuse .notGranted))
      ∧ ((b.crane c).work = .lifting → (b.crane c).lift.contains n = true → lockOnReport b c n none = (b, accept))
      ∧ ((b.crane c).work ≠ .lifting → ∀ k, setDownReport b c n k = (b, refuse .wrongState)
          ∧ abandonReport b c n = (b, refuse .wrongState))
      ∧ ((b.crane c).work = .lifting → (b.crane c).lift.contains n = false → ∀ k,
          setDownReport b c n k = (b, refuse .notGranted) ∧ abandonReport b c n = (b, refuse .notGranted))
      ∧ ((b.crane c).work = .lifting → (b.crane c).lift.contains n = true → b.targetGone c = true → ∀ k,
          setDownReport b c n k = (b, refuse .noTarget)))
  ∧ (∀ (b : Berth) (c : Crane) (n : TicketNo) (tag : Option Tag),
      (b.ticket? n = none → manualPick b c n tag = (b, refuse .unknown))
      ∧ (∀ t, b.ticket? n = some t → (b.crane c).halt = true → manualPick b c n tag = (b, refuse .halted))
      ∧ (∀ t, b.ticket? n = some t → (b.crane c).halt = false → (t.crane ≠ c ∨ t.state ≠ .pending) →
          manualPick b c n tag = (b, refuse .wrongState))
      ∧ (∀ t e, b.ticket? n = some t → (b.crane c).halt = false → t.crane = c → t.state = .pending →
          checkCandidate b c (b.candidateOf t) tag = .error e → manualPick b c n tag = (b, refuse .blocked [e.code])))

/-- R44, R46, R47: LOCK_ON of the granted lift, SET_DOWN and ABANDON of the lift in the air.
R59: LOCK_ON of an IDLE crane in MANUAL is a manual pick, with the tag it carries or none. -/
def Obligations.LiftReports : Prop :=
  (∀ (s : State) (c : Crane) (n : TicketNo), CraneSpeaks s c →
    let st := craneStation c
    let b := heardFrom s.berth st
    (b.crane c).lift.contains n = true →
    ((b.crane c).work = .granted → Machine.exec (.lockOn (frameOf st 1 (bytes16 n))) s = .next (replied s st (lockOn b c) accept))
    ∧ ((b.crane c).work = .lifting → b.targetGone c = false → ∀ x : Byte,
        Machine.exec (.setDown (frameOf st 1 (bytes16 n ++ [x]))) s = .next (replied s st (land b c (x != 0)) accept))
    ∧ ((b.crane c).work = .lifting →
        Machine.exec (.abandon (frameOf st 1 (bytes16 n))) s = .next (replied s st (abandonLift b c) accept)))
  ∧ ∀ (s : State) (c : Crane) (n : TicketNo), CraneSpeaks s c →
    let st := craneStation c
    let b := heardFrom s.berth st
    (b.crane c).work = .idle → (b.crane c).control = .manual →
    Machine.exec (.lockOn (frameOf st 1 (bytes16 n))) s =
      .next (replied s st (manualPick b c n none).1 (manualPick b c n none).2)
    ∧ ∀ tag : Tag, Machine.exec (.lockOn (frameOf st 1 (bytes16 n ++ bytes24 tag))) s =
      .next (replied s st (manualPick b c n (tagOf? tag)).1 (manualPick b c n (tagOf? tag)).2)

/-- R89, R90, R106: ARRIVE from GATE-IN in RUN: an arrival of any cargo whose body and tag pass is taken in, unverified under
LENIENT too; DEPART of a tag an entry holds removes it, of one that none holds is UNKNOWN and changes no record.
R89, R90, R94, R95: an invalid tag, an ID that is not well formed, or an ID twice is REJECTED; an arrival whose tag an entry
holds is DUPLICATE_TAG and changes no entry; an unverified one under STRICT is UNVERIFIED; one sent to a full holding list is
HOLDING_FULL; each raises ARRIVAL_REFUSED. -/
def Obligations.GateReports : Prop :=
  (∀ (s : State) (tag : Tag) (info : Byte) (ids : List Byte) (cargo : List ContainerId), StationSpeaks s gateIn →
      let b := heardFrom s.berth gateIn
      let body := bytes24 tag ++ [info] ++ ids
      ids.length = 8 * (info.extractLsb' 0 2).toNat → (info.extractLsb' 0 2).toNat ≤ 2 →
      cargoOf? body (info.extractLsb' 0 2).toNat = some cargo → validTag tag = true → b.findTruck tag = none →
      (info.msb = true ∨ b.params.lenient = true) →
      Machine.exec (.arrive (frameOf gateIn 2 body)) s =
        .next (replied s gateIn (takeIn b tag (chassisOf (info.extractLsb' 2 2)) cargo (!info.msb)).1
          (takeIn b tag (chassisOf (info.extractLsb' 2 2)) cargo (!info.msb)).2))
  ∧ (∀ (s : State) (tag : Tag), StationSpeaks s gateOut →
      let b := heardFrom s.berth gateOut
      (∀ p, b.findTruck tag = some p →
        Machine.exec (.depart (frameOf gateOut 2 (bytes24 tag))) s = .next (replied s gateOut (removeTruck b p) accept))
      ∧ (b.findTruck tag = none →
        Machine.exec (.depart (frameOf gateOut 2 (bytes24 tag))) s = .next (replied s gateOut b (refuse .unknown))))
  ∧ (∀ (b : Berth) (tag : Tag) (info : Byte) (ids : List Byte),
      let body := bytes24 tag ++ [info] ++ ids
      let cargo := cargoOf? body (info.extractLsb' 0 2).toNat
      ids.length = 8 * (info.extractLsb' 0 2).toNat →
      ((cargo = none ∨ validTag tag = false) → arriveReport b body = (b.raise arrivalRefused, refuse .rejected))
      ∧ (cargo ≠ none → validTag tag = true →
        (∀ p, b.findTruck tag = some p → arriveReport b body = (b.raise arrivalRefused, refuse .duplicateTag))
        ∧ (b.findTruck tag = none → info.msb = false → b.params.lenient = false →
          arriveReport b body = (b.raise arrivalRefused, refuse .unverified))))
  ∧ ∀ (b : Berth) (t : Truck), b.params.holdDepth ≤ b.occupancy →
      admitToHolding b t = (b.raise arrivalRefused, refuse .holdingFull)

/-- R91: the target set of the container index.  R96: when a rule matches.  R93: the rules in slot order.  R92: the stand
chosen.  R92, R94, R95: what an arrival that is taken in makes: a stand entry in the lowest lane, a holding entry, or none. -/
def Obligations.ArrivalRouting : Prop :=
  (∀ (b : Berth) (cargo : List ContainerId) (c : Crane), inSet (b.indexTargets cargo) c.val = true ↔
      ∃ id ∈ cargo, ∃ t, b.indexed? id = some t ∧ t.crane = c)
  ∧ (∀ (b : Berth) (tag : Tag) (ch : Chassis) (cargo : List ContainerId),
      (b.indexTargets cargo ≠ 0 → b.route tag ch cargo = (.stand (b.indexTargets cargo), false))
      ∧ (b.indexTargets cargo = 0 → b.route tag ch cargo = evalRules b.params tag ch cargo b.shu.rules false))
  ∧ (∀ (r : Rule) (tag : Tag) (ch : Chassis) (cargo : List ContainerId), r.matches tag ch cargo = true ↔
      (r.tagLo.toNat ≤ tag.toNat ∧ tag.toNat ≤ r.tagHi.toNat) ∧ inSet r.chassis ch.code.toNat = true
      ∧ (r.cond = some .empty → cargo = []) ∧ (r.cond = some .laden → cargo ≠ [])
      ∧ (r.owner = [] ∨ ∃ id ∈ cargo, r.owner <+: id))
  ∧ (∀ (p : Params) (tag : Tag) (ch : Chassis) (cargo : List ContainerId) (prio : Bool),
      evalRules p tag ch cargo [] prio = (if p.routeReject then .reject else .stand 0xFF, prio)
      ∧ ∀ (r : Rule) (rs : List Rule),
        (r.enabled = false ∨ r.matches tag ch cargo = false →
          evalRules p tag ch cargo (r :: rs) prio = evalRules p tag ch cargo rs prio)
        ∧ (r.enabled = true → r.matches tag ch cargo = true →
          (r.action = some .priority → evalRules p tag ch cargo (r :: rs) prio = evalRules p tag ch cargo rs true)
          ∧ (r.action = some .cranes → evalRules p tag ch cargo (r :: rs) prio = (.stand r.mask, prio))
          ∧ (r.action = some .hold → evalRules p tag ch cargo (r :: rs) prio = (.hold r.mask, prio))
          ∧ (r.action = some .reject → evalRules p tag ch cargo (r :: rs) prio = (.reject, prio))))
  ∧ (∀ (b : Berth) (mask : BitVec 8),
      let fit (c : Crane) : Prop := inSet mask c.val = true ∧ b.takesTrucks c = true ∧ b.lowestLane c ≠ none
      (b.standFor mask = none ↔ ∀ c, ¬ fit c)
      ∧ ∀ c, b.standFor mask = some c ↔ fit c
          ∧ ∀ d, fit d → b.truckHunger d < b.truckHunger c ∨ (b.truckHunger d = b.truckHunger c ∧ c ≤ d))
  ∧ (∀ (b : Berth) (c : Crane) (l : Lane), b.lowestLane c = some l ↔
      b.spotAvailable c l = true ∧ ∀ m, m < l → b.spotAvailable c m = false)
  ∧ ∀ (b : Berth) (tag : Tag) (ch : Chassis) (cargo : List ContainerId) (unverified : Bool),
      let r := takeIn b tag ch cargo unverified
      let entry (mask : BitVec 8) (prio : Bool) : Truck :=
        { tag, lane := none, chassis := ch, cargo, unverified, priority := prio, state := .waiting, joinedAt := b.nowSecs,
          arrivedAt := b.nowSecs, targets := mask, arrival := b.shu.arrivals, stay := b.shu.stays }
      let held (mask : BitVec 8) (prio : Bool) : Prop :=
        (b.occupancy < b.params.holdDepth → r.1.shu.holding = b.shu.holding ++ [entry mask prio]
          ∧ r.1.shu.stands = b.shu.stands ∧ r.1.shu.promotionDue = true
          ∧ r.1.nu.raw = b.nu.raw ||| (if prio then priorityArrival else 0)
          ∧ r.2 = { code := .holdArea, reason := .none, data := [natByte (b.shu.holding.length + 1)] })
        ∧ (b.params.holdDepth ≤ b.occupancy → r = (b.raise arrivalRefused, refuse .holdingFull))
      (∀ prio, b.route tag ch cargo = (.reject, prio) → r = (b.raise arrivalRefused, refuse .rejected))
      ∧ (∀ mask prio, b.route tag ch cargo = (.hold mask, prio) → held mask prio)
      ∧ (∀ mask prio, b.route tag ch cargo = (.stand mask, prio) →
          (b.standFor mask = none → held mask prio)
          ∧ ∀ c l, b.standFor mask = some c → b.lowestLane c = some l →
            r.1.stand c = b.stand c ++ [{ entry mask prio with lane := some l }] ∧ (∀ d, d ≠ c → r.1.stand d = b.stand d)
            ∧ r.1.shu.holding = b.shu.holding ∧ r.1.nu.raw = b.nu.raw ||| (if prio then priorityArrival else 0)
            ∧ r.1.tickets = b.tickets ∧ r.1.cranes = b.cranes ∧ r.1.qlc = b.qlc
            ∧ r.2 = accept [finByte c, finByte l])

/-- R71, R131, R133, R134: DECK_REQUEST for a free bay, TASK_DONE with no task left, with one at another bay and with one at the
same bay, which goes on, and OFF_DECK from a CONFIRMED claim.
R71: the rows of a deck request that the Bay Claim Table does not grant at once.
R123, R126: what the completion of a task makes: every ticket whose task field names it CLEARED or LASHED with no task, the
task off the list and its slot free, and nothing else.
R134, R121: what coming off deck makes: an ACTIVE first task QUEUED again in its place, or dropped where no ticket is linked to it;
a relief-due gang's tasks OPEN, its list empty and the gang OFF_DUTY; the gang IDLE; the claim released with its examination.
R131, R133, R75: what DECK_REQUEST, TASK_DONE and OFF_DECK are refused for, with WRONG_STATE and no change. -/
def Obligations.GangReports : Prop :=
  (∀ (s : State) (g : Gang), StationSpeaks s (gangStation g) →
      let st := gangStation g
      let b := heardFrom s.berth st
      (∀ t, b.firstTask g = some t → t.state = .dispatched → (b.gang g).activity = .assigned → b.gangClaim g = none →
        b.isWaiter g = false → b.gangMayClaim t.bay = true →
        Machine.exec (.deckRequest (frameOf st 1 (bytes16 t.number))) s = .next (replied s st
          (((b.setGangClaim g (some { bay := t.bay, standing := .confirmed })).modGang g
            fun r => { r with activity := .onDeck }).setTaskState t.number .active) accept))
      ∧ (∀ t, b.firstTask g = some t → t.state = .active → (b.gang g).activity = .onDeck →
        ((∀ u, (completeTask b g t).firstTask g = some u → u.bay = t.bay → (b.gang g).reliefDue = true) →
          Machine.exec (.taskDone (frameOf st 1 (bytes16 t.number))) s =
            .next (replied s st (completeTask b g t) (accept [0xFF, 0xFF, 0, 0])))
        ∧ ∀ u, (completeTask b g t).firstTask g = some u → u.bay = t.bay → (b.gang g).reliefDue = false →
          Machine.exec (.taskDone (frameOf st 1 (bytes16 t.number))) s =
            .next (replied s st ((completeTask b g t).setTaskState u.number .active)
              (accept (bytes16 u.number ++ [u.kind.code, u.bay]))))
      ∧ (∀ bay, b.gangClaim g = some { bay, standing := .confirmed } →
        Machine.exec (.offDeck (frameOf st 1 [])) s = .next (replied s st (comeOffDeck b g false) accept)))
  ∧ (∀ (b : Berth) (g : Gang) (t : Task), b.firstTask g = some t → t.state = .dispatched →
      ((b.gang g).activity = .assigned ∨ (b.gang g).activity = .waitDeck) →
      (∀ bay, b.gangClaim g = some { bay, standing := .clearing } →
        deckRequest b g t.number = (b, { code := .wait, reason := .none, data := [0] }))
      ∧ (b.gangClaim g = none → b.isWaiter g = true →
        (deckRequest b g t.number).1 = b ∧ (deckRequest b g t.number).2.code = .wait)
      ∧ (b.gangClaim g = none → b.isWaiter g = false → b.gangMayClaim t.bay = false →
        (deckRequest b g t.number).1.bct = { b.bct with waiters := b.bct.waiters ++ [(g, t.bay)] }
        ∧ ((deckRequest b g t.number).1.gang g).activity = .waitDeck
        ∧ (deckRequest b g t.number).2 = { code := .wait, reason := .none, data := [natByte (b.bct.waiters.length + 1)] }))
  ∧ (∀ (b : Berth) (g : Gang) (t : Task), b.firstTask g = some t → t.state = .active → (b.gang g).activity = .onDeck →
      b.gangClaim g = some { bay := t.bay, standing := .confirmed } → deckRequest b g t.number = (b, accept))
  ∧ (∀ (b : Berth) (g : Gang) (n : TaskNo),
      ((∀ t, b.firstTask g = some t → t.number = n →
          ¬ (t.state = .dispatched ∧ ((b.gang g).activity = .assigned ∨ (b.gang g).activity = .waitDeck))
          ∧ ¬ (t.state = .active ∧ (b.gang g).activity = .onDeck)) →
        deckRequest b g n = (b, refuse .wrongState))
      ∧ ((∀ t, b.firstTask g = some t → t.number = n → ¬ (t.state = .active ∧ (b.gang g).activity = .onDeck)) →
        taskDoneReport b g n = (b, refuse .wrongState)))
  ∧ (∀ (b : Berth) (g : Gang), (∀ bay, b.gangClaim g ≠ some { bay, standing := .confirmed }) →
      offDeckReport b g = (b, refuse .wrongState))
  ∧ (∀ (b : Berth) (g : Gang) (t : Task), let b' := completeTask b g t
      b'.tickets = b.tickets.map (fun x => if x.task = some t.number then
        { x with lashState := if t.kind = .unlash then .cleared else .lashed, task := none } else x)
      ∧ b'.gang g = { b.gang g with tasks := (b.gang g).tasks.filter fun n => n != t.number }
      ∧ (∀ h, h ≠ g → b'.gang h = b.gang h) ∧ b'.task? t.number = none
      ∧ b'.ltu.tasks = b.ltu.tasks.filter (fun u => u.number != t.number) ∧ b'.ltu.reserved = b.ltu.reserved
      ∧ b'.bct = b.bct ∧ b'.qlc = b.qlc ∧ b'.cranes = b.cranes)
  ∧ ∀ (b : Berth) (g : Gang), let b' := comeOffDeck b g false
      b'.bct = (releaseGangClaim b g).bct ∧ b'.qlc = (releaseGangClaim b g).qlc ∧ b'.tickets = b.tickets
      ∧ (∀ h, h ≠ g → b'.gang h = b.gang h) ∧ (∀ n, n ∉ (b.gang g).tasks → b'.task? n = b.task? n)
      ∧ (∀ t, OwedToNobody b g t → b'.task? t.number = none)
      ∧ ((b.gang g).reliefDue = true →
          b'.gang g = { b.gang g with onDuty := false, activity := .idle, reliefDue := false, tasks := [] }
          ∧ ∀ n ∈ (b.gang g).tasks, (∀ t, OwedToNobody b g t → n ≠ t.number) →
            b'.task? n = (b.task? n).map fun t => { t with state := .opened })
      ∧ ((b.gang g).reliefDue = false →
          (∀ t, OwedToNobody b g t →
            b'.gang g = { b.gang g with activity := .idle, tasks := (b.gang g).tasks.filter fun n => n != t.number }
            ∧ ∀ n u, n ≠ t.number → b.task? n = some u → u.state ≠ .active → b'.task? n = some u)
          ∧ ((∀ t, ¬ OwedToNobody b g t) → b'.gang g = { b.gang g with activity := .idle }
            ∧ (∀ t, b.firstTask g = some t → t.state = .active → b'.task? t.number = some { t with state := .queued }
              ∧ ∀ n, n ≠ t.number → b'.task? n = b.task? n)
            ∧ ((∀ t, b.firstTask g = some t → t.state ≠ .active) → b'.ltu.tasks = b.ltu.tasks)))

/-- R127: when a gang is eligible for a task, and which of the eligible gangs takes it.  R128: where the task stands in the
list; an UNLASH before a QUEUED LASH also where that is the first task is the model's choice (log 41).  R130: the dispatch of a gang.
R127, R130: at the end of a change in RUN no OPEN task has an eligible gang, and no gang that could be dispatched is not. -/
def Obligations.GangAssignment : Prop :=
  (∀ (b : Berth) (t : Task) (g : Gang), b.eligible t g = true ↔
      (b.gang g).onDuty = true ∧ b.online (gangStation g) = true ∧ (b.gang g).reliefDue = false
      ∧ inSet (b.gang g).served t.crane.val = true ∧ (b.gang g).tasks.length < 8)
  ∧ (∀ (b : Berth) (t : Task), (∀ g, b.eligible t g = false) → assignTask b t = b)
  ∧ (∀ (b : Berth) (t : Task) (g : Gang), b.eligible t g = true →
      (∀ h, b.eligible t h = true → (b.gang g).tasks.length < (b.gang h).tasks.length
        ∨ ((b.gang g).tasks.length = (b.gang h).tasks.length ∧ g ≤ h)) →
      assignTask b t =
        (b.modGang g fun r => { r with tasks := b.listWith r.tasks t.number t.kind }).setTaskState t.number .queued)
  ∧ (∀ (b : Berth) (n : TaskNo) (l xs ys : List TaskNo) (m : TaskNo),
      b.listWith l n .lash = l ++ [n]
      ∧ (QueuedKind b .unlash m → (∀ y ∈ ys, ¬ QueuedKind b .unlash y) →
          b.listWith (xs ++ m :: ys) n .unlash = xs ++ m :: n :: ys)
      ∧ (QueuedKind b .lash m → (∀ y ∈ xs ++ m :: ys, ¬ QueuedKind b .unlash y) → (∀ y ∈ xs, ¬ QueuedKind b .lash y) →
          b.listWith (xs ++ m :: ys) n .unlash = xs ++ n :: m :: ys)
      ∧ ((∀ y ∈ l, ¬ QueuedKind b .unlash y ∧ ¬ QueuedKind b .lash y) → b.listWith l n .unlash = l ++ [n]))
  ∧ (∀ (b : Berth) (g : Gang),
      (∀ t, (b.gang g).activity = .idle → (b.gang g).onDuty = true → b.online (gangStation g) = true → b.firstTask g = some t →
        dispatchGang b g = ((b.setTaskState t.number .dispatched).modGang g
          fun r => { r with activity := .assigned }).postGang g (.dispatch t.number t.kind t.bay t.crane))
      ∧ (((b.gang g).activity ≠ .idle ∨ (b.gang g).onDuty = false ∨ b.online (gangStation g) = false ∨ b.firstTask g = none) →
        dispatchGang b g = b))
  ∧ ∀ b : Berth, b.mode = .run →
      (∀ t ∈ (settle b).ltu.tasks, t.state = .opened → ∀ g, (settle b).eligible t g = false)
      ∧ ∀ g : Gang, ((settle b).gang g).activity ≠ .idle ∨ ((settle b).gang g).onDuty = false
          ∨ (settle b).online (gangStation g) = false ∨ (settle b).firstTask g = none

/-- R29, R110, R168: the lookups of an ONLINE station in RUN change no record and are answered from the records. -/
def Obligations.Lookups : Prop :=
  ∀ (s : State) (st : Station), st.val < 14 → StationSpeaks s st →
    let b := heardFrom s.berth st
    (∀ n, Machine.exec (.lookupTicket (frameOf st 3 (bytes16 n))) s =
      .next { s with berth := sendReply b st (ticketReply (b.ticket? n)) })
    ∧ (∀ body, body.length = 8 → Machine.exec (.lookupContainer (frameOf st 3 body)) s =
      .next { s with berth := sendReply b st (ticketReply ((linkContainer? body).bind b.indexed?)) })
    ∧ ∀ tag, Machine.exec (.lookupTag (frameOf st 3 (bytes24 tag))) s =
      .next { s with berth := sendReply b st (lookupTagReply b tag) }

/-- R163, R164: frames of stations 14 and 15 are met with silence, an unsuitable kind or class with WRONG_STATION, and a
length its kind does not allow with WRONG_STATE; each raises LINK_ERROR.
R165: in MONITOR a station's frame sets its heard flag and raises LINK_ERROR at most; nothing is answered. -/
def Obligations.LinkRefusals : Prop :=
  (∀ (b : Berth) (st : Station) (cls : BitVec 2) (kind : Byte) (body : List Byte), b.qlc.window = none → b.mode ≠ .monitor →
      (14 ≤ st.val → goodFrame b st cls kind body = (heardFrom b st).raise linkError)
      ∧ (st.val < 14 → kind ≠ kindReply → ((roleOf st).kinds.contains kind = false ∨ cls ≠ classOf kind) →
        goodFrame b st cls kind body = sendReply ((heardFrom b st).raise linkError) st (refuse .wrongStation))
      ∧ (st.val < 14 → kind ≠ kindReply → (roleOf st).kinds.contains kind = true → cls = classOf kind →
        lengthAllowed kind body = false →
        goodFrame b st cls kind body = sendReply ((heardFrom b st).raise linkError) st (refuse .wrongState)))
  ∧ (∀ (b : Berth) (st : Station) (cls : BitVec 2) (kind : Byte) (body : List Byte), b.mode = .monitor → b.qlc.window = none →
      goodFrame b st cls kind body = heardFrom b st ∨ goodFrame b st cls kind body = (heardFrom b st).raise linkError)

/-- R157, R158: bytes that make no good frame raise LINK_ERROR and nothing else while no window is open; a frame that the
part sends is a good frame.
R158: the check value of the text 123456789. -/
def Obligations.DiscardedFrames : Prop :=
  ((∀ (s : State) (raw : List Byte), LinkReady s → parseFrame raw = none →
      Machine.exec (.discardedFrame raw) s = .next { s with berth := (s.berth.setSent none).raise linkError })
    ∧ ∀ (cls : BitVec 2) (st : Station) (kind : Byte) (body : List Byte), body.length ≤ 24 →
      parseFrame (frameBytes cls st kind body) = some (st, cls, kind, body))
  ∧ (checkSequence [0x31, 0x32, 0x33, 0x34, 0x35, 0x36, 0x37, 0x38, 0x39] = 0x29B1)

/-! ## The order board -/

/-- R170, R171: the rows of posting to a slot.
R173: the rows of an attempt's end.
R172, R100: a PROMOTE joins the tail of the promote queue, and none is made while it holds eight; the orders of a removed entry
leave it (R104) but for one in flight, the others close up, and a new head has its queue time set.
R173: the rows of the end of the head's attempt. -/
def Obligations.OrderSlotRows : Prop :=
  (∀ (s : Slot) (o : OrderBody) (q : QTime),
      (s.current = none → (s.post o q).current = some (freshOrder o q))
      ∧ (∀ cur, s.current = some cur → cur.inFlight = false → o.cancels cur.body = true → s.post o q = Slot.empty)
      ∧ (∀ cur, s.current = some cur → cur.inFlight = false → o.cancels cur.body = false →
          s.post o q = { s with current := some (freshOrder o q) })
      ∧ (∀ cur, s.current = some cur → cur.inFlight = true → s.upcoming = none →
          s.post o q = { s with upcoming := some (freshOrder o q) })
      ∧ (∀ cur nxt, s.current = some cur → cur.inFlight = true → s.upcoming = some nxt → o.cancels nxt.body = true →
          s.post o q = { s with upcoming := cur.body.canceller.map fun x => freshOrder x q })
      ∧ (∀ cur nxt, s.current = some cur → cur.inFlight = true → s.upcoming = some nxt → o.cancels nxt.body = false →
          s.post o q = { s with upcoming := some (freshOrder o q) }))
  ∧ (∀ (cur : Order) (nxt : Option Order) (e : AttemptEnd) (q : QTime),
      let s : Slot := { current := some cur, upcoming := nxt }
      (e = .accepted → nxt = none → s.endAttempt e q = (Slot.empty, some (cur.body, true)))
      ∧ ((e = .refused ∨ (e = .noReply ∧ cur.attempts = 3)) → nxt = none →
          s.endAttempt e q = (Slot.empty, some (cur.body, false)))
      ∧ (e = .noReply → cur.attempts < 3 → nxt = none →
          s.endAttempt e q =
            ({ s with current := some { cur with attempts := cur.attempts + 1, inFlight := false, queueTime := q } }, none))
      ∧ (∀ n, nxt = some n → e ≠ .accepted → n.body.cancels cur.body = true → s.endAttempt e q = (Slot.empty, none))
      ∧ (∀ n, nxt = some n → e = .accepted →
          s.endAttempt e q = ({ current := some (n.becomeCurrent q), upcoming := none }, some (cur.body, true)))
      ∧ (∀ n, nxt = some n → (e = .refused ∨ (e = .noReply ∧ cur.attempts = 3)) → n.body.cancels cur.body = false →
          s.endAttempt e q = ({ current := some (n.becomeCurrent q), upcoming := none }, some (cur.body, false)))
      ∧ (∀ n, nxt = some n → e = .noReply → cur.attempts < 3 → n.body.cancels cur.body = false →
          s.endAttempt e q = ({ current := some (n.becomeCurrent q), upcoming := none }, none)))
  ∧ (∀ (b : Berth) (body : OrderBody), b.postPromote body =
      { b with qlc := { b.qlc with promotes := b.qlc.promotes ++ [freshOrder body b.now] } })
  ∧ (∀ (b : Berth) (c : Crane) (fuel : Nat), 8 ≤ b.qlc.promotes.length → promoteInto c fuel b = b)
  ∧ (∀ (b : Berth) (tag : Tag), let b' := dequeuePromote b tag
      let stays (o : Order) : Bool := o.inFlight || o.body.promoteTag != some tag
      b' = { b with qlc := { b.qlc with promotes := b'.qlc.promotes } }
      ∧ (∀ o rest, b.qlc.promotes = o :: rest → stays o = true → b'.qlc.promotes = o :: rest.filter stays)
      ∧ (∀ o rest, b.qlc.promotes = o :: rest → stays o = false →
          (rest.filter stays = [] → b'.qlc.promotes = [])
          ∧ ∀ n ns, rest.filter stays = n :: ns → b'.qlc.promotes = { n with queueTime := b.now } :: ns)
      ∧ (b.qlc.promotes = [] → b'.qlc.promotes = []))
  ∧ ∀ (o : Order) (rest : List Order) (e : AttemptEnd) (q : QTime), o.inFlight = true →
      (∀ n ∈ rest, n.inFlight = false) →
      let r := promotesEndAttempt (o :: rest) e q
      let after : List Order := match rest with
        | [] => []
        | n :: ns => { n with queueTime := q } :: ns
      (e = .accepted → r = (after, some (o.body, true)))
      ∧ (e = .refused ∨ (e = .noReply ∧ o.attempts = 3) → r = (after, some (o.body, false)))
      ∧ (e = .noReply → o.attempts < 3 →
          r = ({ o with attempts := o.attempts + 1, inFlight := false, queueTime := q } :: rest, none))

/-- R155, R174, R175: ORDER_SEND begins the next order in RUN and opens its window; a bit error ends the attempt at once; the
addressee's REPLY ends the attempt, delivered with ACCEPT and refused with any other code; another good frame in the window
raises LINK_ERROR and ends the attempt with no reply; the window's close with no frame ends it so and raises nothing.
The model's choice (log 19, DESIGN CHOICE): ORDER_SEND with the outcome lost, also with nothing to send, and REPLY_WINDOW_CLOSE
with no window open change no record; a good frame in the window leaves its station's link state (log 42).
R174: the order chosen: of the crane slots' orders that are not in flight the one of the earliest queue time, as a plain number of
sixteenths, ties to the lowest station; with none, of the gang slots' likewise; with none, the head of the promote queue.
R160: a REPLY with no window open is discarded with LINK_ERROR.
R177: the third undelivered order in a row declares an IDLE crane's station OFFLINE, raises STATION_OFFLINE and empties the
crane's slot. -/
def Obligations.OrderTraffic : Prop :=
  ((∀ (s : State) (st : Station) (o : Order), LinkReady s → s.berth.mode = .run →
      (s.berth.setSent none).nextOrder = some (st, o) →
      Machine.exec (.orderSend .sent) s = .next { s with
        berth := ((launch (s.berth.setSent none) st).setWindow (some st)).setSent
          (some (frameBytes 0 st o.body.kind o.body.bytes)) }
      ∧ Machine.exec (.orderSend .bitError) s =
        .next { s with berth := settle (endAttempt (launch (s.berth.setSent none) st) .noReply) })
    ∧ (∀ s : State, LinkReady s → s.berth.mode = .run →
        Machine.exec (.orderSend .lost) s = .next { s with berth := s.berth.setSent none })
    ∧ (∀ (s : State) (st : Station), s.port.inReset = false → s.berth.qlc.window = some st →
        (∀ (y : Byte) (data : List Byte), data.length ≤ 10 → Machine.exec (.reply (frameOf st 0 ([0, y] ++ data))) s =
          .next { s with berth := settle (endAttempt (heardFrom s.berth st) .accepted) })
        ∧ (∀ (x y : Byte) (data : List Byte), data.length ≤ 10 → x ≠ 0 →
          Machine.exec (.reply (frameOf st 0 ([x, y] ++ data))) s =
            .next { s with berth := settle (endAttempt (heardFrom s.berth st) .refused) })
        ∧ (∀ (x : Station) (body : List Byte), x ≠ st → body.length ≤ 24 → Machine.exec (.reply (frameOf x 0 body)) s =
          .next { s with berth := settle (endAttempt ((heardFrom s.berth x).raise linkError) .noReply) })
        ∧ (∀ x : Station, Machine.exec (.hello (frameOf x 1 [])) s =
          .next { s with berth := settle (endAttempt ((heardFrom s.berth x).raise linkError) .noReply) })
        ∧ Machine.exec .replyWindowClose s = .next { s with berth := settle (endAttempt (s.berth.setSent none) .noReply) })
    ∧ ∀ s : State, s.berth.qlc.window = none → s.port.inReset = false →
        Machine.exec .replyWindowClose s = .next { s with berth := s.berth.setSent none }
        ∧ ∀ f : Frame, f.body.length ≤ 24 →
          Machine.exec (.reply f) s = .next { s with berth := (heardFrom s.berth f.station).raise linkError })
  ∧ (∀ b : Berth,
      let crane (c : Crane) (o : Order) : Prop := b.qlc.craneSlots[c].current = some o ∧ o.inFlight = false
      let gang (g : Gang) (o : Order) : Prop := b.qlc.gangSlots[g].current = some o ∧ o.inFlight = false
      let time (o : Order) : Nat := 16 * o.queueTime.secs.toNat + o.queueTime.six.toNat
      (∀ c o, crane c o → (∀ d p, crane d p → time o < time p ∨ (time o = time p ∧ c ≤ d)) →
        b.nextOrder = some (craneStation c, o))
      ∧ ((∀ c o, ¬ crane c o) →
        (∀ g o, gang g o → (∀ h p, gang h p → time o < time p ∨ (time o = time p ∧ g ≤ h)) →
          b.nextOrder = some (gangStation g, o))
        ∧ ((∀ g o, ¬ gang g o) →
          (∀ o, b.qlc.promotes.head? = some o → o.inFlight = false → b.nextOrder = some (gateIn, o))
          ∧ ((∀ o, b.qlc.promotes.head? = some o → o.inFlight = true) → b.nextOrder = none))))
  ∧ (∀ (b : Berth) (c : Crane) (t : TicketNo) (p : Option TicketNo) (k : Nat), (b.station (craneStation c)).fails = 2 →
      (b.crane c).work = .idle →
      let b' := reportOrder b (craneStation c) (some (.withdraw t p k, false))
      b'.station (craneStation c) = { b.station (craneStation c) with online := false, fails := 3 }
      ∧ b'.qlc.craneSlots[c] = Slot.empty ∧ b'.nu.raw = b.nu.raw ||| stationOffline ∧ b'.tickets = b.tickets)

/-- R176, R177: the report is taken first, then counted; a delivered order clears the count, and the third undelivered in a row
declares the station OFFLINE.
R132, R74: a DECK_CLEAR delivered, or not, to the gang that waits for it with a CLEARING claim; R135: an undelivered DISPATCH of the
task that still stands; R54: an undelivered GRANT whose grant still stands; every other report of a crane's or a gang's order
changes nothing (of a PROMOTE: Promotions).
R62: the declaration for a crane, by its work state.  R77, R140: for a gang, by its deck entries and its activity.
R104: for GATE-IN.  The promotion check of a PROMOTE's report comes after the declaration (log 38). -/
def Obligations.StationsGoOffline : Prop :=
  (∀ (b : Berth) (st : Station) (body : OrderBody),
      (∀ d, (ownerReport b (roleOf st) body d).station st = b.station st)
      ∧ reportOrder b st (some (body, true)) =
        (ownerReport b (roleOf st) body true).modStation st (fun r => { r with fails := 0 })
      ∧ ((b.station st).fails.val < 2 → reportOrder b st (some (body, false)) =
        (ownerReport b (roleOf st) body false).modStation st fun r => { r with fails := r.fails + 1 })
      ∧ ((b.station st).fails.val = 2 → reportOrder b st (some (body, false)) =
        declareOffline ((ownerReport b (roleOf st) body false).modStation st fun r => { r with fails := 3 }) st))
  ∧ (∀ (b : Berth) (g : Gang) (n : TaskNo) (bay : Bay),
      let awaits (at_ : Bay) : Prop := (b.gang g).activity = .waitDeck ∧ (b.gang g).tasks.head? = some n
        ∧ b.gangClaim g = some { bay := at_, standing := .clearing }
      let report (d : Bool) := ownerReport b (roleOf (gangStation g)) (.deckClear n bay) d
      (∀ at_, awaits at_ →
        ((report true).gangClaim g = some { bay := at_, standing := .confirmed }
          ∧ (∀ h, h ≠ g → (report true).gangClaim h = b.gangClaim h ∧ (report true).gang h = b.gang h)
          ∧ (report true).bct.craneClaims = b.bct.craneClaims ∧ (report true).bct.waiters = b.bct.waiters
          ∧ (report true).gang g = { b.gang g with activity := .onDeck }
          ∧ (report true).task? n = (b.task? n).map (fun t => { t with state := .active })
          ∧ (∀ m, m ≠ n → (report true).task? m = b.task? m) ∧ (report true).tickets = b.tickets
          ∧ (report true).qlc = b.qlc)
        ∧ ((report false).bct = (releaseGangClaim b g).bct ∧ (report false).qlc = (releaseGangClaim b g).qlc
          ∧ (b.isWaiter g = false → (report false).gangClaim g = none)
          ∧ (report false).gang g = { b.gang g with activity := .assigned }
          ∧ (∀ h, h ≠ g → (report false).gang h = b.gang h) ∧ (report false).ltu.tasks = b.ltu.tasks
          ∧ (report false).tickets = b.tickets))
      ∧ ((∀ at_, ¬ awaits at_) → ∀ d, report d = b))
  ∧ (∀ (b : Berth) (g : Gang) (n : TaskNo) (kind : TaskKind) (bay : Bay) (c : Crane),
      let stands (t : Task) : Prop := b.firstTask g = some t ∧ t.number = n ∧ t.state = .dispatched
        ∧ (b.gang g).activity = .assigned
      let report (d : Bool) := ownerReport b (roleOf (gangStation g)) (.dispatch n kind bay c) d
      (∀ t, stands t → (report false).task? n = some { t with state := .queued }
        ∧ (∀ m, m ≠ n → (report false).task? m = b.task? m)
        ∧ (report false).gang g = { b.gang g with activity := .idle } ∧ (∀ h, h ≠ g → (report false).gang h = b.gang h)
        ∧ (report false).bct = b.bct ∧ (report false).qlc = b.qlc ∧ (report false).tickets = b.tickets)
      ∧ ((∀ t, ¬ stands t) → report false = b) ∧ report true = b
      ∧ ∀ d, ownerReport b (roleOf (gangStation g)) (.recall n) d = b)
  ∧ (∀ (b : Berth) (c : Crane) (n : TicketNo) (p : Option TicketNo) (bay : Bay) (row tier : Byte) (tag : Option Tag)
      (lane : Option Lane) (id : Nat),
      let report (body : OrderBody) (d : Bool) := ownerReport b (roleOf (craneStation c)) body d
      let stands : Prop := (b.crane c).work = .granted ∧ (b.crane c).grantId = some id
      (stands → report (.grant n p bay row tier tag lane id) false = withdraw b c .undelivered)
      ∧ (¬ stands → report (.grant n p bay row tier tag lane id) false = b)
      ∧ report (.grant n p bay row tier tag lane id) true = b ∧ ∀ d, report (.withdraw n p id) d = b)
  ∧ (∀ (b : Berth) (c : Crane), let b' := declareOffline b (craneStation c)
      b'.station (craneStation c) = { b.station (craneStation c) with online := false }
      ∧ b'.qlc.craneSlots[c] = Slot.empty ∧ (∀ d, d ≠ c → b'.crane d = b.crane d ∧ b'.craneClaim d = b.craneClaim d)
      ∧ ((b.crane c).work = .idle → b'.crane c = b.crane c ∧ b'.tickets = b.tickets ∧ b'.shu = b.shu
          ∧ b'.nu.raw = b.nu.raw ||| stationOffline)
      ∧ ((b.crane c).work = .waiting → b'.crane c = { b.crane c with work := .idle, starveStart := none }
          ∧ b'.nu.raw = b.nu.raw ||| stationOffline)
      ∧ ((b.crane c).work = .granted → (b'.crane c).work = .idle ∧ b'.craneClaim c = none
          ∧ ∃ b0, b0.tickets = b.tickets ∧ b0.cranes = b.cranes ∧ b0.shu = b.shu ∧ b0.ltu = b.ltu ∧ b0.bct = b.bct
            ∧ b' = withdraw b0 c .offline)
      ∧ ((b.crane c).work = .lifting → b'.crane c = b.crane c ∧ b'.craneClaim c = b.craneClaim c ∧ b'.shu = b.shu
          ∧ b'.ltu = b.ltu ∧ b'.nu.raw = b.nu.raw ||| stationOffline ||| liftFault
          ∧ b'.tickets = b.tickets.map (fun t => if (b.crane c).lift.contains t.number then
              { t with marks := { t.marks with fault := true } } else t)))
  ∧ (∀ (b : Berth) (g : Gang), let b' := declareOffline b (gangStation g)
      b'.station (gangStation g) = { b.station (gangStation g) with online := false }
      ∧ b'.qlc.gangSlots[g] = Slot.empty ∧ b'.nu.raw = b.nu.raw ||| stationOffline ∧ b'.tickets = b.tickets
      ∧ b'.isWaiter g = false
      ∧ (∀ bay, b.gangClaim g = some { bay, standing := .confirmed } → b'.gangClaim g = b.gangClaim g)
      ∧ ((∀ bay, b.gangClaim g ≠ some { bay, standing := .confirmed }) → b'.gangClaim g = none)
      ∧ ((b.gang g).activity ≠ .onDeck → b'.gang g = { b.gang g with activity := .idle, tasks := [] }
          ∧ ∀ n ∈ (b.gang g).tasks, b'.task? n = (b.task? n).map fun t => { t with state := .opened })
      ∧ ((b.gang g).activity = .onDeck →
          b'.gang g = { b.gang g with tasks := (b.gang g).tasks.filter fun n =>
            !((b.task? n).any fun t => t.state == .queued) }
          ∧ ∀ n t, b.task? n = some t → t.state ≠ .queued → b'.task? n = some t))
  ∧ ∀ b : Berth, let b' := declareOffline b gateIn
      b'.station gateIn = { b.station gateIn with online := false } ∧ b'.qlc.promotes = [] ∧ b'.shu = b.shu
      ∧ b'.occupancy = b.shu.holding.length ∧ b'.nu.raw = b.nu.raw ||| stationOffline ∧ b'.tickets = b.tickets
      ∧ promotionCheck b' = b'

/-! ## Grants and claims -/

/-- R66: the deck test; a gang that asks for the deck and waits leaves the crane claims that exist. -/
def Obligations.DeckTest : Prop :=
  (∀ (b : Berth) (bay : Bay), b.deckFree bay = true ↔
    (∀ (g : Gang) k, b.gangClaim g = some k → ((k.bay.toNat : Int) - bay.toNat).natAbs > b.params.deckMargin)
    ∧ ∀ w ∈ b.bct.waiters, ((w.2.toNat : Int) - bay.toNat).natAbs > b.params.deckMargin)
  ∧ ∀ (b : Berth) (g : Gang) (n : TaskNo), (deckRequest b g n).1.bct.craneClaims = b.bct.craneClaims

/-- R67, R68, R69: the clearance test. -/
def Obligations.ClearanceTest : Prop :=
  ∀ (b : Berth) (c : Crane) (bay : Bay), b.clearanceFree c bay = true ↔
    b.craneClaim c = none
    ∧ (∀ d x, b.craneClaim d = some x → (d < c → x.toNat + b.params.clear ≤ bay.toNat)
        ∧ (c < d → bay.toNat + b.params.clear ≤ x.toNat))
    ∧ (∀ d : Crane, d < c → (b.crane d).position ≠ 0 → b.craneClaim d = none →
        (∀ e : Crane, d < e → e < c → (b.crane e).position = 0 ∨ (b.craneClaim e).isSome) →
        (b.crane d).position.toNat + b.params.clear ≤ bay.toNat)
    ∧ (∀ d : Crane, c < d → (b.crane d).position ≠ 0 → b.craneClaim d = none →
        (∀ e : Crane, c < e → e < d → (b.crane e).position = 0 ∨ (b.craneClaim e).isSome) →
        bay.toNat + b.params.clear ≤ (b.crane d).position.toNat)

/-- R39: what is so of every candidate that passes the checks, check 4 being the truck match.
R87, R88, R59: the truck match.  A RESTOW or HATCH needs no entry.  A DISCHARGE takes the first WAITING entry in stand order with
empty cargo and a compatible chassis, TWIN for a pair, verified or not; with none it fails with TRUCK.  A LOAD takes the first
verified WAITING entry that holds every container of the candidate; where such entries are all unverified it fails with
TRUCK_UNVERIFIED, and with none with TRUCK.  A pick's tag leaves that one entry to match (log 43).
R41, R60, R85: what a grant (`pick` false) or a manual pick (`pick` true) makes of the crane record, the claims, the tickets
granted, the matched entry, which is BOUND in its place, the reservation (one for a pair whose lash fields differ: log 13) and
the GRANT order, which a pick does not post.
R59, R60: a manual pick that passes its checks is the grant and the lock-on in one change, with MANUAL on its tickets. -/
def Obligations.GrantReserves : Prop :=
  (∀ (b : Berth) (c : Crane) (k : Candidate) (pin : Option Tag) (e : Option Truck), checkCandidate b c k pin = .ok e →
      b.deckFree k.lead.bay = true ∧ b.clearanceFree c k.lead.bay = true ∧ (k.lashAfter = true → b.freeTasks ≠ 0)
      ∧ (∀ t ∈ k.tickets, t.lashState ≠ .awaiting) ∧ (k.lead.partner ≠ none → k.other ≠ none)
      ∧ truckMatch b c k pin = .ok e ∧ ∀ t, e = some t → t ∈ b.stand c ∧ t.state = .waiting)
  ∧ (∀ (size : Size) (ch : Chassis), compatible size ch = true ↔ (size = .s20 ∧ ch ∈ [Chassis.s20, .s40, .twin])
      ∨ (size = .s40 ∧ ch ∈ [Chassis.s40, .x45, .twin]) ∨ (size = .s45 ∧ ch = .x45))
  ∧ (∀ (b : Berth) (c : Crane) (k : Candidate) (pin : Option Tag),
      let stand := (b.stand c).filter fun t => pin == none || pin == some t.tag
      let carries (t : Truck) : Prop := t.state = .waiting ∧ t.cargo = []
        ∧ (k.other = none → compatible k.lead.size t.chassis = true) ∧ (k.other ≠ none → t.chassis = .twin)
      let holds (t : Truck) : Prop := t.state = .waiting ∧ ∀ x ∈ k.tickets, ∃ id ∈ t.cargo, x.container = some id
      (k.lead.kind ∈ [Kind.restow, .hatch] → truckMatch b c k pin = .ok none)
      ∧ (k.lead.kind = .discharge →
        ((∀ t ∈ stand, ¬ carries t) → truckMatch b c k pin = .error .truck)
        ∧ ∀ xs t ys, stand = xs ++ t :: ys → carries t → (∀ u ∈ xs, ¬ carries u) → truckMatch b c k pin = .ok (some t))
      ∧ (k.lead.kind = .load →
        ((∀ t ∈ stand, ¬ holds t) → truckMatch b c k pin = .error .truck)
        ∧ ((∃ t ∈ stand, holds t) → (∀ t ∈ stand, holds t → t.unverified = true) →
            truckMatch b c k pin = .error .truckUnverified)
        ∧ ∀ xs t ys, stand = xs ++ t :: ys → holds t → t.unverified = false → (∀ u ∈ xs, holds u → u.unverified = true) →
            truckMatch b c k pin = .ok (some t)))
  ∧ (∀ (b : Berth) (c : Crane) (k : Candidate) (e : Option Truck) (pick : Bool),
      let b' := makeGrant b c k e pick
      b'.crane c = { b.crane c with
        work := .granted, grantTicket := some k.lead.number, grantPartner := k.other.map (·.number),
        grantBay := some k.lead.bay, grantTruck := e.map (·.tag), grantLane := e.bind (·.lane),
        due := if pick then none else some (b.now.addSecs b.params.grantTime),
        lastExpired := none, starveStart := none, grantId := some b.grants, liftStay := none }
      ∧ b'.craneClaim c = some k.lead.bay ∧ b'.bct.gangClaims = b.bct.gangClaims ∧ b'.bct.waiters = b.bct.waiters
      ∧ (∀ d, d ≠ c → b'.craneClaim d = b.craneClaim d ∧ b'.crane d = b.crane d ∧ b'.stand d = b.stand d)
      ∧ b'.stand c = (b.stand c).map (fun t => if e.any (fun x => x.stay == t.stay) then { t with state := .bound } else t)
      ∧ b'.ltu = { b.ltu with reserved := if k.lashAfter then b.ltu.reserved + 1 else b.ltu.reserved }
      ∧ b'.qlc.craneSlots[c] = (if pick then b.qlc.craneSlots[c] else (b.qlc.craneSlots[c]).post
          (.grant k.lead.number (k.other.map (·.number)) k.lead.bay k.lead.row k.lead.tier (e.map (·.tag))
            (e.bind (·.lane)) b.grants) b.now)
      ∧ (∀ t ∈ b.tickets, t.number ∈ k.numbers →
          { t with state := .granted, reason := .none, grantedAt := some b.nowSecs, truck := e.map (·.tag),
                   lane := e.bind (·.lane),
                   lashState := if t.lash = .lashAfter then .reserved else t.lashState } ∈ b'.tickets)
      ∧ b'.pendingOf c = (b.pendingOf c).filterMap fun t =>
          if k.numbers.contains t.number then none else some { t with reason := .crane })
  ∧ ∀ (b : Berth) (c : Crane) (t : Ticket) (tag : Option Tag) (e : Option Truck), b.ticket? t.number = some t →
      (b.crane c).halt = false → t.crane = c → t.state = .pending →
      let k := b.candidateOf t
      checkCandidate b c k tag = .ok e →
      let r := manualPick b c t.number tag
      r.2 = accept ∧ (r.1.crane c).work = .lifting ∧ (r.1.crane c).lift = k.numbers ∧ (r.1.crane c).due = none
      ∧ (r.1.crane c).lastExpired = none ∧ (r.1.crane c).position = k.lead.bay ∧ r.1.craneClaim c = some k.lead.bay
      ∧ r.1.qlc = b.qlc ∧ r.1.ltu.reserved = (if k.lashAfter then b.ltu.reserved + 1 else b.ltu.reserved)
      ∧ ∀ u ∈ b.tickets, u.number ∈ k.numbers →
          { u with state := .lifting, reason := .none, grantedAt := some b.nowSecs, truck := e.map (·.tag),
                   lane := e.bind (·.lane), marks := { u.marks with manual := true },
                   lashState := if u.lash = .lashAfter then .reserved else u.lashState } ∈ r.1.tickets

/-- R44, R46, R47, R21: what a lock-on, a landing and an abandon make of the crane record, its claim, its tickets, the trucks of
its stand and the notices, and what they leave: the other cranes' records, claims and stands.
R44, R105: at the lock-on of a LOAD the containers leave the bound entry's cargo.  R46, R105: at the landing of a DISCHARGE the
bound entry departs with them.  R47: an abandoned DISCHARGE's entry is WAITING again, and the entry that a LOAD left takes them
back.
R125: the lash link of a landed lift: its reservation is given back, and its tickets are LINKED to the earliest-created OPEN or
QUEUED LASH task of the bay, whose linked count rises by one each, or else to a new OPEN one in the lowest free slot, of that
linked count.  A landing makes it of the lift's RESERVED tickets. -/
def Obligations.LiftRecords : Prop :=
  (∀ (b : Berth) (c : Crane), (lockOn b c).bct = b.bct ∧ (lockOn b c).qlc = b.qlc ∧ (lockOn b c).nu = b.nu
    ∧ ((lockOn b c).crane c).work = .lifting ∧ ((lockOn b c).crane c).due = none
    ∧ ((lockOn b c).crane c).lift = (b.crane c).lift
    ∧ ((lockOn b c).crane c).position = (b.crane c).grantBay.getD (b.crane c).position
    ∧ (lockOn b c).tickets = b.tickets.map (fun t =>
        if (b.crane c).lift.contains t.number then { t with state := .lifting, reason := .none } else t)
    ∧ (lockOn b c).stand c = (b.stand c).map (fun t =>
        if b.liftKind c = some .load ∧ (b.crane c).grantTruck = some t.tag ∧ t.state = .bound then
          let cargo := t.cargo.filter fun id => !(b.liftContainers c).contains id
          { t with cargo, state := if cargo = [] ∧ b.params.dualCycle = false then .departing else .waiting }
        else t)
    ∧ ∀ d, d ≠ c → (lockOn b c).crane d = b.crane d ∧ (lockOn b c).stand d = b.stand d)
  ∧ (∀ (b : Berth) (c : Crane) (k : Bool),
    (land b c k).craneClaim c = none ∧ ((land b c k).crane c).lift = []
    ∧ ((land b c k).crane c).work =
        (if k = true ∧ (b.crane c).control = .auto ∧ (b.crane c).halt = false then .waiting else .idle)
    ∧ (land b c k).nu.raw = b.nu.raw ||| ticketDone
    ∧ (land b c k).stand c = (b.stand c).map (fun t =>
        if b.liftKind c = some .discharge ∧ (b.crane c).grantTruck = some t.tag ∧ t.state = .bound then
          { t with state := .departing, cargo := b.liftContainers c } else t)
    ∧ (∀ d, d ≠ c → (land b c k).craneClaim d = b.craneClaim d ∧ (land b c k).crane d = b.crane d
        ∧ (land b c k).stand d = b.stand d)
    ∧ (b.params.autoRetire = false → ∀ t ∈ b.tickets, (b.crane c).lift.contains t.number = true →
        ∃ u ∈ (land b c k).tickets, u.number = t.number ∧ u.state = .done ∧ u.reason = .none
          ∧ u.doneAt = some b.nowSecs ∧ u.truck = none ∧ u.lane = none ∧ u.container = t.container)
    ∧ (b.params.autoRetire = true → ∀ n ∈ (b.crane c).lift, (land b c k).ticket? n = none)
    ∧ (let ns := (b.crane c).lift.filter fun n => (b.ticket? n).any fun t => t.lashState == .reserved
      b.params.autoRetire = false →
        ((ns = [] ∨ (b.crane c).grantBay = none) → (land b c k).ltu = b.ltu)
        ∧ ∀ bay, ns ≠ [] → (b.crane c).grantBay = some bay → (land b c k).ltu = (linkLash b c bay ns).ltu
          ∧ ∀ t ∈ b.tickets, ns.contains t.number = true → ∀ j,
            (∃ x, b.joinableLash bay = some x ∧ j = x.number) ∨ (b.joinableLash bay = none ∧ b.freeTaskSlot = some j) →
            ∃ u ∈ (land b c k).tickets, u.number = t.number ∧ u.state = .done ∧ u.lashState = .linked ∧ u.task = some j))
  ∧ (∀ (b : Berth) (bay : Bay),
      let fit (t : Task) : Prop := t ∈ b.ltu.tasks ∧ t.kind = .lash ∧ t.bay = bay ∧ t.state ∈ [TaskState.opened, .queued]
      (b.joinableLash bay = none ↔ ∀ t, ¬ fit t) ∧ (∀ t, b.joinableLash bay = some t → fit t)
      ∧ ∀ t, fit t → (∀ u, fit u → u ≠ t → createdBefore t u = true) → b.joinableLash bay = some t)
  ∧ (∀ (b : Berth) (c : Crane) (bay : Bay) (ns : List TicketNo), let b' := linkLash b c bay ns
      let linked (j : TaskNo) : List Ticket := b.tickets.map fun t =>
        if ns.contains t.number then { t with lashState := .linked, task := some j } else t
      (∀ x, b.joinableLash bay = some x → b'.tickets = linked x.number
        ∧ b'.ltu = { b.ltu with
            reserved := b.ltu.reserved - 1
            tasks := b.ltu.tasks.map fun t => if t.number = x.number then { t with linked := t.linked + ns.length } else t })
      ∧ ∀ j, b.joinableLash bay = none → b.freeTaskSlot = some j → b'.tickets = linked j
        ∧ b'.ltu.reserved = b.ltu.reserved - 1 ∧ b'.ltu.tasks.length = b.ltu.tasks.length + 1
        ∧ b'.task? j = some { number := j, kind := .lash, bay, crane := c, linked := ns.length, state := .opened,
                              created := b.ltu.creation }
        ∧ (∀ n, n ≠ j → b'.task? n = b.task? n) ∧ b'.ltu.gangs = b.ltu.gangs ∧ b'.ltu.creation = b.ltu.creation + 1)
  ∧ ∀ (b : Berth) (c : Crane), let b' := abandonLift b c
    let fails := b.lastAttempt c
    b'.craneClaim c = none ∧ b'.crane c = { (b.crane c).emptied with work := .idle, starveStart := none }
    ∧ b'.nu.raw = b.nu.raw ||| liftFault ||| (if fails then ticketFailed else 0)
    ∧ b'.ltu = { b.ltu with reserved := if b.liftReserved c then b.ltu.reserved - 1 else b.ltu.reserved }
    ∧ (∀ d, d ≠ c → b'.craneClaim d = b.craneClaim d ∧ b'.crane d = b.crane d ∧ b'.stand d = b.stand d)
    ∧ b'.stand c = (b.stand c).map (fun t =>
        if b.liftKind c = some .discharge ∧ (b.crane c).grantTruck = some t.tag ∧ t.state = .bound then
          { t with state := .waiting }
        else if b.liftKind c = some .load ∧ (b.crane c).liftStay = some t.stay ∧ t.state ≠ .bound then
          { t with state := .waiting, cargo := t.cargo ++ b.liftContainers c }
        else t)
    ∧ ∀ t ∈ b.tickets, (b.crane c).lift.contains t.number = true → ∃ u ∈ b'.tickets,
        u.attempts.val = min 7 (t.attempts.val + 1)
        ∧ u = { t with
            attempts := u.attempts, truck := none, lane := none
            state := if fails then .failed else if (b.crane c).halt then .held else .pending
            reason := if fails = false ∧ (b.crane c).halt = false then .crane else .none
            lashState := if t.lashState = .reserved then .notNeeded else t.lashState
            doneAt := if fails then some b.nowSecs else t.doneAt
            marks := { t.marks with fault := true
                                    halted := t.marks.halted || (!fails && (b.crane c).halt) } }

/-- R49, R50, R51: what a withdrawal makes of the crane record and its claim, its tickets (state, attempts, marks, reason, truck
and lane), the bound entry, the reservation, the WITHDRAW order and the notices.
R51, R47: when a counted failure is the last attempt. -/
def Obligations.WithdrawalUndoes : Prop :=
  (∀ (b : Berth) (c : Crane) (cause : Cause),
    let b' := withdraw b c cause
    let fails := cause.counted && b.lastAttempt c
    b'.craneClaim c = none ∧ (b'.crane c).lift = [] ∧ (b'.crane c).grantBay = none ∧ (b'.crane c).due = none
    ∧ ((b'.crane c).work = if cause.waits then .waiting else .idle)
    ∧ (∀ d, d ≠ c → b'.craneClaim d = b.craneClaim d ∧ b'.crane d = b.crane d ∧ b'.stand d = b.stand d)
    ∧ b'.nu.raw = b.nu.raw ||| (if cause.counted then if b.lastAttempt c then ticketFailed else grantMissed else 0)
    ∧ (cause = .expiry → (b'.crane c).lastExpired = (b.crane c).grantTicket.map fun n => (n, (b.crane c).grantPartner))
    ∧ (∀ t ∈ b.tickets, (b.crane c).lift.contains t.number = true → ∃ u ∈ b'.tickets,
        u.attempts.val = (if cause.counted then min 7 (t.attempts.val + 1) else t.attempts.val)
        ∧ u = { t with
            attempts := u.attempts, truck := none, lane := none
            state := cause.stateAfter fails t.number
            reason := if cause.stateAfter fails t.number = .pending then .crane else .none
            lashState := if t.lashState = .reserved then .notNeeded else t.lashState
            doneAt := if (cause.stateAfter fails t.number).live then t.doneAt else some b.nowSecs
            marks := { t.marks with missed := t.marks.missed || cause.counted
                                    halted := t.marks.halted || cause == .halt } })
    ∧ (∀ t ∈ b.tickets, (b.crane c).lift.contains t.number = false →
        (if t.crane = c ∧ t.state = .pending then { t with reason := .crane } else t) ∈ b'.tickets)
    ∧ b'.stand c = (b.stand c).map (fun t =>
        if (b.crane c).grantTruck = some t.tag ∧ t.state = .bound then { t with state := .waiting } else t)
    ∧ b'.shu.holding = b.shu.holding
    ∧ b'.ltu = { b.ltu with reserved := if b.liftReserved c then b.ltu.reserved - 1 else b.ltu.reserved }
    ∧ (cause = .offline → b'.qlc.craneSlots = b.qlc.craneSlots)
    ∧ (∀ n id, cause ≠ .offline → (b.crane c).grantTicket = some n → (b.crane c).grantId = some id →
        b'.qlc.craneSlots[c] = (b.qlc.craneSlots[c]).post (.withdraw n (b.crane c).grantPartner id) b.now))
  ∧ (∀ (b : Berth) (c : Crane), b.liftReserved c = true ↔
      ∃ n ∈ (b.crane c).lift, ∃ t, b.ticket? n = some t ∧ t.lashState = .reserved)
  ∧ ∀ (b : Berth) (c : Crane), b.lastAttempt c = true ↔ (b.crane c).oneShot = true
      ∨ ∃ n ∈ (b.crane c).lift, ∃ t, b.ticket? n = some t ∧ (t.oneShot = true ∨ b.params.attemptLimit ≤ t.attempts.val + 1)

/-- R73: a released claim is followed by an examination, which takes the waiters oldest first.  Between gangs, lists and claims
that agree (`GangsKept`): a waiter whose bay may be claimed at its turn, counting the claims granted before it, gets a CLEARING
claim there, leaves the list and has DECK_CLEAR for its first task posted to its slot; one whose bay may not keeps its place;
and of every waiter left behind the bay may not be claimed afterwards.  Claims that stood before stand, and no other is made. -/
def Obligations.WaiterExamination : Prop :=
  (∀ (b : Berth) (c : Crane) (g : Gang), releaseCraneClaim b c = examineWaiters (b.setCraneClaim c none)
      ∧ releaseGangClaim b g = examineWaiters (b.setGangClaim g none))
  ∧ (∀ (b : Berth) (bay : Bay), b.gangMayClaim bay = true ↔
      (∀ c x, b.craneClaim c = some x → ((x.toNat : Int) - bay.toNat).natAbs > b.params.deckMargin)
      ∧ ∀ g k, b.gangClaim g = some k → k.bay ≠ bay)
  ∧ (∀ b : Berth, (examineWaiters b).bct.craneClaims = b.bct.craneClaims
      ∧ (examineWaiters b).bct.waiters.Sublist b.bct.waiters
      ∧ ∀ g k, (examineWaiters b).gangClaim g = some k → b.gangClaim g = some k ∨
        ((g, k.bay) ∈ b.bct.waiters ∧ k.standing = .clearing))
  ∧ ∀ s : State, GangsKept s → let b := s.berth; let b' := examineWaiters b
      (∀ g k, b.gangClaim g = some k → b'.gangClaim g = some k)
      ∧ (∀ xs w ys, b.bct.waiters = xs ++ w :: ys → let m := xs.foldl examineWaiter b
          (m.gangMayClaim w.2 = true → b'.gangClaim w.1 = some { bay := w.2, standing := .clearing } ∧ w ∉ b'.bct.waiters
            ∧ ∀ n, (b.gang w.1).tasks.head? = some n →
              b'.qlc.gangSlots[w.1] = (b.qlc.gangSlots[w.1]).post (.deckClear n w.2) b.now)
          ∧ (m.gangMayClaim w.2 = false → w ∈ b'.bct.waiters))
      ∧ ∀ w ∈ b'.bct.waiters, b'.gangMayClaim w.2 = false

/-- R38: the head in STRICT, and R40: the candidate that a pass grants, with R39's reasons where it grants none.
R37, R42: a crane that waits alone runs its pass once, with the starve check of R61 after it, which raises CRANE_STARVED where
the pass leaves it met; and at the end of a change in RUN no waiting crane is left with an eligible
candidate. -/
def Obligations.PassChoices : Prop :=
  (∀ (s : State) (c : Crane), TicketsKept s → let b := s.berth
      (b.headCandidate c = none ↔ b.pendingOf c = [])
      ∧ (∀ k, b.headCandidate c = some k → ∃ t ∈ b.pendingOf c, k = b.candidateOf t
          ∧ ∀ u ∈ b.pendingOf c, t.seq.toNat < u.seq.toNat ∨ (t.seq = u.seq ∧ t.number.toNat ≤ u.number.toNat))
      ∧ ((b.crane c).seqMode = .strict → b.headCandidate c = none → selectionPass b c = b)
      ∧ ((b.crane c).seqMode = .strict → ∀ k, b.headCandidate c = some k →
          let others := (b.pendingOf c).filter fun t => !k.numbers.contains t.number
          (∀ e, checkCandidate b c k none = .ok e →
            selectionPass b c = makeGrant (b.setReasons (others.map (·.number)) .sequence) c k e false)
          ∧ ∀ r, checkCandidate b c k none = .error r →
            (selectionPass b c).crane c = b.crane c
            ∧ (selectionPass b c).tickets = b.tickets.map fun t =>
              if t.number ∈ k.numbers then { t with reason := r }
              else if t.crane = c ∧ t.state = .pending then { t with reason := .sequence } else t))
  ∧ (∀ (b : Berth) (c : Crane), (b.crane c).seqMode = .priority →
      (∀ k ∈ b.candidates c, ∀ e, checkCandidate b c k none = .ok e →
        (∀ x ∈ b.candidates c, (∃ y, checkCandidate b c x none = .ok y) → x ≠ k → x.effective < k.effective
          ∨ (x.effective = k.effective ∧ (k.seq < x.seq ∨ (k.seq = x.seq ∧ k.lead.number.toNat < x.lead.number.toNat)))) →
        selectionPass b c = makeGrant ((b.candidates c).foldl (writeFailures c) b) c k e false)
      ∧ ((∀ k ∈ b.candidates c, ∀ e, checkCandidate b c k none ≠ .ok e) →
        (selectionPass b c).crane c = b.crane c
        ∧ ∀ t ∈ b.tickets, ∃ r, { t with reason := r } ∈ (selectionPass b c).tickets
          ∧ ((∃ k ∈ b.candidates c, t.number ∈ k.numbers) →
              ∃ k ∈ b.candidates c, t.number ∈ k.numbers ∧ checkCandidate b c k none = .error r)
          ∧ ((∀ k ∈ b.candidates c, t.number ∉ k.numbers) → r = t.reason)))
  ∧ (∀ (b : Berth) (c : Crane), b.waitingCranes = [c] → runPasses b = passAndCheck b c)
  ∧ (∀ (b : Berth) (c : Crane), let b' := selectionPass b c
      ((b'.crane c).work ≠ .waiting → passAndCheck b c = b')
      ∧ (b'.starveMet c = false → passAndCheck b c = b')
      ∧ (b'.starveMet c = true → passAndCheck b c =
        (b'.modCrane c fun r => { r with starveReported := true }).raise craneStarvedCause))
  ∧ ∀ b : Berth, b.mode = .run → ∀ c : Crane, ((settle b).crane c).work = .waiting →
      (((settle b).crane c).seqMode = .strict → ∀ k, (settle b).headCandidate c = some k →
        ∀ e, checkCandidate (settle b) c k none ≠ .ok e)
      ∧ (((settle b).crane c).seqMode = .priority → ∀ k ∈ (settle b).candidates c,
        ∀ e, checkCandidate (settle b) c k none ≠ .ok e)

/-- R101: the entry promoted to a crane, and what a promotion makes of the holding list, the stand and the promote queue.
R100: no check is made outside RUN or with GATE-IN OFFLINE; after one, a crane that takes trucks has no available spot or no
held entry targets it, unless the queue is full.
R103: what an undelivered PROMOTE makes of its entry. -/
def Obligations.Promotions : Prop :=
  (∀ (b : Berth) (c : Crane) (xs ys : List Truck) (t : Truck), b.shu.holding = xs ++ t :: ys → inSet t.targets c.val = true →
      (t.priority = true → (∀ u ∈ xs, inSet u.targets c.val = true → u.priority = false) → b.nextHeld c = some t)
      ∧ ((∀ u ∈ xs ++ t :: ys, inSet u.targets c.val = true → u.priority = false) →
          (∀ u ∈ xs, inSet u.targets c.val = false) → b.nextHeld c = some t))
  ∧ (∀ (b : Berth) (c : Crane), b.nextHeld c = none ↔ ∀ u ∈ b.shu.holding, inSet u.targets c.val = false)
  ∧ (∀ (b : Berth) (c : Crane) (l : Lane) (t : Truck), let b' := promote b c l t
      b'.stand c = b.stand c ++ [{ t with lane := some l, joinedAt := b.nowSecs, state := .waiting, stay := b.shu.stays }]
      ∧ (∀ d, d ≠ c → b'.stand d = b.stand d)
      ∧ b'.shu.holding = b.shu.holding.filter (fun u => u.arrival != t.arrival)
      ∧ b'.qlc = { b.qlc with promotes := b.qlc.promotes ++ [freshOrder (.promote t.tag c l b.shu.stays) b.now] }
      ∧ b'.tickets = b.tickets ∧ b'.cranes = b.cranes ∧ b'.bct = b.bct ∧ b'.ltu = b.ltu ∧ b'.nu = b.nu)
  ∧ (∀ b : Berth, (b.mode ≠ .run ∨ b.online gateIn = false) → promotionCheck b = b)
  ∧ (∀ b : Berth, b.mode = .run → b.online gateIn = true → ∀ c : Crane, b.takesTrucks c = true →
      8 ≤ (promotionCheck b).qlc.promotes.length ∨ (promotionCheck b).lowestLane c = none
      ∨ (promotionCheck b).nextHeld c = none)
  ∧ (∀ (b : Berth) (c : Crane) (l : Lane) (t : Truck), b.mode = .run → b.online gateIn = true → b.takesTrucks c = true →
      (∀ d, d < c → b.takesTrucks d = false) → b.qlc.promotes.length < 8 → b.lowestLane c = some l → b.nextHeld c = some t →
      promotionCheck b = promotionCheck (promote b c l t))
  ∧ ∀ (b : Berth) (tag : Tag) (c : Crane) (l : Lane) (stay : Nat), let body : OrderBody := .promote tag c l stay
      let b' := promoteUndelivered b body
      ((∀ u ∈ b.stand c, u.tag ≠ tag ∨ u.stay ≠ stay) → b' = b)
      ∧ ∀ t, (b.stand c).find? (fun u => u.tag == tag && u.stay == stay) = some t →
        (t.state = .waiting → b'.stand c = ((b.stand c).filter fun u => u.stay != stay)
          ∧ (∀ d, d ≠ c → b'.stand d = b.stand d)
          ∧ b'.shu.holding = insertBy (fun x y => x.arrival ≤ y.arrival)
              { t with lane := none, joinedAt := b.nowSecs, state := .waiting } b.shu.holding
          ∧ b'.tickets = b.tickets ∧ b'.cranes = b.cranes)
        ∧ (t.state = .bound → (b.crane c).work = .granted →
          b' = returnToHolding (withdraw b c .promoteFailed) c t)
        ∧ ((t.state = .bound ∧ (b.crane c).work = .lifting) ∨ t.state = .departing → b' = b)

/-- What the end of a change never touches, whatever follows in it: the mode, the configuration, the clock, the enable set,
the stations, the lanes and rules, gang claims and waiters, ticket numbers, and the record and claim of a crane that is not
WAITING.  In CONFIG or MONITOR with the clock stopped, nothing follows a change but the level notices (R200). -/
def Obligations.EndOfChange : Prop :=
  (∀ b : Berth, (settle b).mode = b.mode ∧ (settle b).params = b.params ∧ (settle b).sizes = b.sizes
    ∧ (settle b).clock = b.clock ∧ (settle b).nu.enable = b.nu.enable ∧ (settle b).qlc.stations = b.qlc.stations
    ∧ (settle b).qlc.window = b.qlc.window ∧ (settle b).shu.openLanes = b.shu.openLanes
    ∧ (settle b).shu.rules = b.shu.rules ∧ (settle b).bct.gangClaims = b.bct.gangClaims
    ∧ (settle b).bct.waiters = b.bct.waiters
    ∧ (settle b).tickets.map (·.number) = b.tickets.map (·.number)
    ∧ (settle b).nu.raw &&& levelCauses = (settle b).levels
    ∧ ∀ c : Crane, (b.crane c).work ≠ .waiting →
        (settle b).crane c = b.crane c ∧ (settle b).craneClaim c = b.craneClaim c)
  ∧ ∀ b : Berth, Quiet b →
    settle b = { b with
      shu := { b.shu with promotionDue := false }
      nu := { b.nu with raw := (b.nu.raw &&& edgeCauses) ||| b.levels } }

/-! ## Invariants -/

/-- The invariants hold right after reset. -/
def Obligations.InvariantsAtReset : Prop :=
  LevelsAgree State.reset ∧ ClaimsKept State.reset ∧ TicketsKept State.reset ∧ TasksKept State.reset ∧ GangsKept State.reset
  ∧ PortKept State.reset

/-- R200: every step keeps the level notices in agreement with their conditions. -/
def Obligations.LevelsStayTrue : Prop :=
  ∀ s t : State, LevelsAgree s → Machine.step s = .next t → LevelsAgree t

/-- R69, R70: every step keeps the spacing of the claims. -/
def Obligations.ClaimsStayApart : Prop :=
  ∀ s t : State, ClaimsKept s → Machine.step s = .next t → ClaimsKept t

/-- R3, R27: every step keeps ticket numbers unique and the tickets within their section. -/
def Obligations.TicketsStayUnique : Prop :=
  ∀ s t : State, TicketsKept s → Machine.step s = .next t → TicketsKept t

/-- R116, R117: every step keeps task numbers unique and used plus reserved slots within the section. -/
def Obligations.TasksStayWithinPool : Prop :=
  ∀ s t : State, TasksKept s → Machine.step s = .next t → TasksKept t

/-- R70, R72, R117, R131: every step keeps the gangs, their lists and their deck entries in agreement. -/
def Obligations.GangsStayInAgreement : Prop :=
  ∀ s t : State, GangsKept s → Machine.step s = .next t → GangsKept t

/-- R181, R184, R186, R191: every step keeps the port's bounds. -/
def Obligations.PortStaysBounded : Prop :=
  ∀ s t : State, PortKept s → Machine.step s = .next t → PortKept t
end

