-- ==== Sys2Proof/Laws/State.lean ====
section
/-! SUPPORT. One rewriting lemma per field and update: what each named update of a `Berth` leaves as it was, true by `rfl`.
No later proof need unfold an update to see past it. -/

namespace Sys2Proof.Machine.Berth

/-! ### modTicketsIf -/

@[simp] theorem modTicketsIf_mode (b : Berth) (p : Ticket → Bool) (f : Ticket → Ticket) : (b.modTicketsIf p f).mode = b.mode := rfl
@[simp] theorem modTicketsIf_params (b : Berth) (p : Ticket → Bool) (f : Ticket → Ticket) : (b.modTicketsIf p f).params = b.params := rfl
@[simp] theorem modTicketsIf_sizes (b : Berth) (p : Ticket → Bool) (f : Ticket → Ticket) : (b.modTicketsIf p f).sizes = b.sizes := rfl
@[simp] theorem modTicketsIf_clock (b : Berth) (p : Ticket → Bool) (f : Ticket → Ticket) : (b.modTicketsIf p f).clock = b.clock := rfl
@[simp] theorem modTicketsIf_cranes (b : Berth) (p : Ticket → Bool) (f : Ticket → Ticket) : (b.modTicketsIf p f).cranes = b.cranes := rfl
@[simp] theorem modTicketsIf_bct (b : Berth) (p : Ticket → Bool) (f : Ticket → Ticket) : (b.modTicketsIf p f).bct = b.bct := rfl
@[simp] theorem modTicketsIf_shu (b : Berth) (p : Ticket → Bool) (f : Ticket → Ticket) : (b.modTicketsIf p f).shu = b.shu := rfl
@[simp] theorem modTicketsIf_ltu (b : Berth) (p : Ticket → Bool) (f : Ticket → Ticket) : (b.modTicketsIf p f).ltu = b.ltu := rfl
@[simp] theorem modTicketsIf_qlc (b : Berth) (p : Ticket → Bool) (f : Ticket → Ticket) : (b.modTicketsIf p f).qlc = b.qlc := rfl
@[simp] theorem modTicketsIf_nu (b : Berth) (p : Ticket → Bool) (f : Ticket → Ticket) : (b.modTicketsIf p f).nu = b.nu := rfl
@[simp] theorem modTicketsIf_grants (b : Berth) (p : Ticket → Bool) (f : Ticket → Ticket) : (b.modTicketsIf p f).grants = b.grants := rfl
@[simp] theorem modTicketsIf_free (b : Berth) (p : Ticket → Bool) (f : Ticket → Ticket) : (b.modTicketsIf p f).free = b.free := rfl

/-! ### modTicket -/

@[simp] theorem modTicket_mode (b : Berth) (n : TicketNo) (f : Ticket → Ticket) : (b.modTicket n f).mode = b.mode := rfl
@[simp] theorem modTicket_params (b : Berth) (n : TicketNo) (f : Ticket → Ticket) : (b.modTicket n f).params = b.params := rfl
@[simp] theorem modTicket_sizes (b : Berth) (n : TicketNo) (f : Ticket → Ticket) : (b.modTicket n f).sizes = b.sizes := rfl
@[simp] theorem modTicket_clock (b : Berth) (n : TicketNo) (f : Ticket → Ticket) : (b.modTicket n f).clock = b.clock := rfl
@[simp] theorem modTicket_cranes (b : Berth) (n : TicketNo) (f : Ticket → Ticket) : (b.modTicket n f).cranes = b.cranes := rfl
@[simp] theorem modTicket_bct (b : Berth) (n : TicketNo) (f : Ticket → Ticket) : (b.modTicket n f).bct = b.bct := rfl
@[simp] theorem modTicket_shu (b : Berth) (n : TicketNo) (f : Ticket → Ticket) : (b.modTicket n f).shu = b.shu := rfl
@[simp] theorem modTicket_ltu (b : Berth) (n : TicketNo) (f : Ticket → Ticket) : (b.modTicket n f).ltu = b.ltu := rfl
@[simp] theorem modTicket_qlc (b : Berth) (n : TicketNo) (f : Ticket → Ticket) : (b.modTicket n f).qlc = b.qlc := rfl
@[simp] theorem modTicket_nu (b : Berth) (n : TicketNo) (f : Ticket → Ticket) : (b.modTicket n f).nu = b.nu := rfl
@[simp] theorem modTicket_grants (b : Berth) (n : TicketNo) (f : Ticket → Ticket) : (b.modTicket n f).grants = b.grants := rfl
@[simp] theorem modTicket_free (b : Berth) (n : TicketNo) (f : Ticket → Ticket) : (b.modTicket n f).free = b.free := rfl

/-! ### modTickets -/

@[simp] theorem modTickets_mode (b : Berth) (ns : List TicketNo) (f : Ticket → Ticket) : (b.modTickets ns f).mode = b.mode := rfl
@[simp] theorem modTickets_params (b : Berth) (ns : List TicketNo) (f : Ticket → Ticket) : (b.modTickets ns f).params = b.params := rfl
@[simp] theorem modTickets_sizes (b : Berth) (ns : List TicketNo) (f : Ticket → Ticket) : (b.modTickets ns f).sizes = b.sizes := rfl
@[simp] theorem modTickets_clock (b : Berth) (ns : List TicketNo) (f : Ticket → Ticket) : (b.modTickets ns f).clock = b.clock := rfl
@[simp] theorem modTickets_cranes (b : Berth) (ns : List TicketNo) (f : Ticket → Ticket) : (b.modTickets ns f).cranes = b.cranes := rfl
@[simp] theorem modTickets_bct (b : Berth) (ns : List TicketNo) (f : Ticket → Ticket) : (b.modTickets ns f).bct = b.bct := rfl
@[simp] theorem modTickets_shu (b : Berth) (ns : List TicketNo) (f : Ticket → Ticket) : (b.modTickets ns f).shu = b.shu := rfl
@[simp] theorem modTickets_ltu (b : Berth) (ns : List TicketNo) (f : Ticket → Ticket) : (b.modTickets ns f).ltu = b.ltu := rfl
@[simp] theorem modTickets_qlc (b : Berth) (ns : List TicketNo) (f : Ticket → Ticket) : (b.modTickets ns f).qlc = b.qlc := rfl
@[simp] theorem modTickets_nu (b : Berth) (ns : List TicketNo) (f : Ticket → Ticket) : (b.modTickets ns f).nu = b.nu := rfl
@[simp] theorem modTickets_grants (b : Berth) (ns : List TicketNo) (f : Ticket → Ticket) : (b.modTickets ns f).grants = b.grants := rfl
@[simp] theorem modTickets_free (b : Berth) (ns : List TicketNo) (f : Ticket → Ticket) : (b.modTickets ns f).free = b.free := rfl

/-! ### addTicket -/

@[simp] theorem addTicket_mode (b : Berth) (t : Ticket) : (b.addTicket t).mode = b.mode := rfl
@[simp] theorem addTicket_params (b : Berth) (t : Ticket) : (b.addTicket t).params = b.params := rfl
@[simp] theorem addTicket_sizes (b : Berth) (t : Ticket) : (b.addTicket t).sizes = b.sizes := rfl
@[simp] theorem addTicket_clock (b : Berth) (t : Ticket) : (b.addTicket t).clock = b.clock := rfl
@[simp] theorem addTicket_cranes (b : Berth) (t : Ticket) : (b.addTicket t).cranes = b.cranes := rfl
@[simp] theorem addTicket_bct (b : Berth) (t : Ticket) : (b.addTicket t).bct = b.bct := rfl
@[simp] theorem addTicket_shu (b : Berth) (t : Ticket) : (b.addTicket t).shu = b.shu := rfl
@[simp] theorem addTicket_ltu (b : Berth) (t : Ticket) : (b.addTicket t).ltu = b.ltu := rfl
@[simp] theorem addTicket_qlc (b : Berth) (t : Ticket) : (b.addTicket t).qlc = b.qlc := rfl
@[simp] theorem addTicket_nu (b : Berth) (t : Ticket) : (b.addTicket t).nu = b.nu := rfl
@[simp] theorem addTicket_grants (b : Berth) (t : Ticket) : (b.addTicket t).grants = b.grants := rfl
@[simp] theorem addTicket_free (b : Berth) (t : Ticket) : (b.addTicket t).free = b.free := rfl

/-! ### dropTicket -/

@[simp] theorem dropTicket_mode (b : Berth) (n : TicketNo) : (b.dropTicket n).mode = b.mode := rfl
@[simp] theorem dropTicket_params (b : Berth) (n : TicketNo) : (b.dropTicket n).params = b.params := rfl
@[simp] theorem dropTicket_sizes (b : Berth) (n : TicketNo) : (b.dropTicket n).sizes = b.sizes := rfl
@[simp] theorem dropTicket_clock (b : Berth) (n : TicketNo) : (b.dropTicket n).clock = b.clock := rfl
@[simp] theorem dropTicket_cranes (b : Berth) (n : TicketNo) : (b.dropTicket n).cranes = b.cranes := rfl
@[simp] theorem dropTicket_bct (b : Berth) (n : TicketNo) : (b.dropTicket n).bct = b.bct := rfl
@[simp] theorem dropTicket_shu (b : Berth) (n : TicketNo) : (b.dropTicket n).shu = b.shu := rfl
@[simp] theorem dropTicket_ltu (b : Berth) (n : TicketNo) : (b.dropTicket n).ltu = b.ltu := rfl
@[simp] theorem dropTicket_qlc (b : Berth) (n : TicketNo) : (b.dropTicket n).qlc = b.qlc := rfl
@[simp] theorem dropTicket_nu (b : Berth) (n : TicketNo) : (b.dropTicket n).nu = b.nu := rfl
@[simp] theorem dropTicket_grants (b : Berth) (n : TicketNo) : (b.dropTicket n).grants = b.grants := rfl
@[simp] theorem dropTicket_free (b : Berth) (n : TicketNo) : (b.dropTicket n).free = b.free := rfl

/-! ### craneReasons -/

@[simp] theorem craneReasons_mode (b : Berth) (c : Crane) : (b.craneReasons c).mode = b.mode := rfl
@[simp] theorem craneReasons_params (b : Berth) (c : Crane) : (b.craneReasons c).params = b.params := rfl
@[simp] theorem craneReasons_sizes (b : Berth) (c : Crane) : (b.craneReasons c).sizes = b.sizes := rfl
@[simp] theorem craneReasons_clock (b : Berth) (c : Crane) : (b.craneReasons c).clock = b.clock := rfl
@[simp] theorem craneReasons_cranes (b : Berth) (c : Crane) : (b.craneReasons c).cranes = b.cranes := rfl
@[simp] theorem craneReasons_bct (b : Berth) (c : Crane) : (b.craneReasons c).bct = b.bct := rfl
@[simp] theorem craneReasons_shu (b : Berth) (c : Crane) : (b.craneReasons c).shu = b.shu := rfl
@[simp] theorem craneReasons_ltu (b : Berth) (c : Crane) : (b.craneReasons c).ltu = b.ltu := rfl
@[simp] theorem craneReasons_qlc (b : Berth) (c : Crane) : (b.craneReasons c).qlc = b.qlc := rfl
@[simp] theorem craneReasons_nu (b : Berth) (c : Crane) : (b.craneReasons c).nu = b.nu := rfl
@[simp] theorem craneReasons_grants (b : Berth) (c : Crane) : (b.craneReasons c).grants = b.grants := rfl
@[simp] theorem craneReasons_free (b : Berth) (c : Crane) : (b.craneReasons c).free = b.free := rfl

/-! ### setReasons -/

@[simp] theorem setReasons_mode (b : Berth) (ns : List TicketNo) (r : Reason) : (b.setReasons ns r).mode = b.mode := rfl
@[simp] theorem setReasons_params (b : Berth) (ns : List TicketNo) (r : Reason) : (b.setReasons ns r).params = b.params := rfl
@[simp] theorem setReasons_sizes (b : Berth) (ns : List TicketNo) (r : Reason) : (b.setReasons ns r).sizes = b.sizes := rfl
@[simp] theorem setReasons_clock (b : Berth) (ns : List TicketNo) (r : Reason) : (b.setReasons ns r).clock = b.clock := rfl
@[simp] theorem setReasons_cranes (b : Berth) (ns : List TicketNo) (r : Reason) : (b.setReasons ns r).cranes = b.cranes := rfl
@[simp] theorem setReasons_bct (b : Berth) (ns : List TicketNo) (r : Reason) : (b.setReasons ns r).bct = b.bct := rfl
@[simp] theorem setReasons_shu (b : Berth) (ns : List TicketNo) (r : Reason) : (b.setReasons ns r).shu = b.shu := rfl
@[simp] theorem setReasons_ltu (b : Berth) (ns : List TicketNo) (r : Reason) : (b.setReasons ns r).ltu = b.ltu := rfl
@[simp] theorem setReasons_qlc (b : Berth) (ns : List TicketNo) (r : Reason) : (b.setReasons ns r).qlc = b.qlc := rfl
@[simp] theorem setReasons_nu (b : Berth) (ns : List TicketNo) (r : Reason) : (b.setReasons ns r).nu = b.nu := rfl
@[simp] theorem setReasons_grants (b : Berth) (ns : List TicketNo) (r : Reason) : (b.setReasons ns r).grants = b.grants := rfl
@[simp] theorem setReasons_free (b : Berth) (ns : List TicketNo) (r : Reason) : (b.setReasons ns r).free = b.free := rfl

/-! ### modCrane -/

@[simp] theorem modCrane_mode (b : Berth) (c : Crane) (f : CraneRec → CraneRec) : (b.modCrane c f).mode = b.mode := rfl
@[simp] theorem modCrane_params (b : Berth) (c : Crane) (f : CraneRec → CraneRec) : (b.modCrane c f).params = b.params := rfl
@[simp] theorem modCrane_sizes (b : Berth) (c : Crane) (f : CraneRec → CraneRec) : (b.modCrane c f).sizes = b.sizes := rfl
@[simp] theorem modCrane_clock (b : Berth) (c : Crane) (f : CraneRec → CraneRec) : (b.modCrane c f).clock = b.clock := rfl
@[simp] theorem modCrane_tickets (b : Berth) (c : Crane) (f : CraneRec → CraneRec) : (b.modCrane c f).tickets = b.tickets := rfl
@[simp] theorem modCrane_bct (b : Berth) (c : Crane) (f : CraneRec → CraneRec) : (b.modCrane c f).bct = b.bct := rfl
@[simp] theorem modCrane_shu (b : Berth) (c : Crane) (f : CraneRec → CraneRec) : (b.modCrane c f).shu = b.shu := rfl
@[simp] theorem modCrane_ltu (b : Berth) (c : Crane) (f : CraneRec → CraneRec) : (b.modCrane c f).ltu = b.ltu := rfl
@[simp] theorem modCrane_qlc (b : Berth) (c : Crane) (f : CraneRec → CraneRec) : (b.modCrane c f).qlc = b.qlc := rfl
@[simp] theorem modCrane_nu (b : Berth) (c : Crane) (f : CraneRec → CraneRec) : (b.modCrane c f).nu = b.nu := rfl
@[simp] theorem modCrane_grants (b : Berth) (c : Crane) (f : CraneRec → CraneRec) : (b.modCrane c f).grants = b.grants := rfl
@[simp] theorem modCrane_free (b : Berth) (c : Crane) (f : CraneRec → CraneRec) : (b.modCrane c f).free = b.free := rfl

/-! ### modGang -/

@[simp] theorem modGang_mode (b : Berth) (g : Gang) (f : GangRec → GangRec) : (b.modGang g f).mode = b.mode := rfl
@[simp] theorem modGang_params (b : Berth) (g : Gang) (f : GangRec → GangRec) : (b.modGang g f).params = b.params := rfl
@[simp] theorem modGang_sizes (b : Berth) (g : Gang) (f : GangRec → GangRec) : (b.modGang g f).sizes = b.sizes := rfl
@[simp] theorem modGang_clock (b : Berth) (g : Gang) (f : GangRec → GangRec) : (b.modGang g f).clock = b.clock := rfl
@[simp] theorem modGang_tickets (b : Berth) (g : Gang) (f : GangRec → GangRec) : (b.modGang g f).tickets = b.tickets := rfl
@[simp] theorem modGang_cranes (b : Berth) (g : Gang) (f : GangRec → GangRec) : (b.modGang g f).cranes = b.cranes := rfl
@[simp] theorem modGang_bct (b : Berth) (g : Gang) (f : GangRec → GangRec) : (b.modGang g f).bct = b.bct := rfl
@[simp] theorem modGang_shu (b : Berth) (g : Gang) (f : GangRec → GangRec) : (b.modGang g f).shu = b.shu := rfl
@[simp] theorem modGang_qlc (b : Berth) (g : Gang) (f : GangRec → GangRec) : (b.modGang g f).qlc = b.qlc := rfl
@[simp] theorem modGang_nu (b : Berth) (g : Gang) (f : GangRec → GangRec) : (b.modGang g f).nu = b.nu := rfl
@[simp] theorem modGang_grants (b : Berth) (g : Gang) (f : GangRec → GangRec) : (b.modGang g f).grants = b.grants := rfl
@[simp] theorem modGang_free (b : Berth) (g : Gang) (f : GangRec → GangRec) : (b.modGang g f).free = b.free := rfl
@[simp] theorem modGang_ltu_tasks (b : Berth) (g : Gang) (f : GangRec → GangRec) : (b.modGang g f).ltu.tasks = b.ltu.tasks := rfl
@[simp] theorem modGang_ltu_reserved (b : Berth) (g : Gang) (f : GangRec → GangRec) : (b.modGang g f).ltu.reserved = b.ltu.reserved := rfl
@[simp] theorem modGang_ltu_creation (b : Berth) (g : Gang) (f : GangRec → GangRec) : (b.modGang g f).ltu.creation = b.ltu.creation := rfl

/-! ### modTask -/

@[simp] theorem modTask_mode (b : Berth) (n : TaskNo) (f : Task → Task) : (b.modTask n f).mode = b.mode := rfl
@[simp] theorem modTask_params (b : Berth) (n : TaskNo) (f : Task → Task) : (b.modTask n f).params = b.params := rfl
@[simp] theorem modTask_sizes (b : Berth) (n : TaskNo) (f : Task → Task) : (b.modTask n f).sizes = b.sizes := rfl
@[simp] theorem modTask_clock (b : Berth) (n : TaskNo) (f : Task → Task) : (b.modTask n f).clock = b.clock := rfl
@[simp] theorem modTask_tickets (b : Berth) (n : TaskNo) (f : Task → Task) : (b.modTask n f).tickets = b.tickets := rfl
@[simp] theorem modTask_cranes (b : Berth) (n : TaskNo) (f : Task → Task) : (b.modTask n f).cranes = b.cranes := rfl
@[simp] theorem modTask_bct (b : Berth) (n : TaskNo) (f : Task → Task) : (b.modTask n f).bct = b.bct := rfl
@[simp] theorem modTask_shu (b : Berth) (n : TaskNo) (f : Task → Task) : (b.modTask n f).shu = b.shu := rfl
@[simp] theorem modTask_qlc (b : Berth) (n : TaskNo) (f : Task → Task) : (b.modTask n f).qlc = b.qlc := rfl
@[simp] theorem modTask_nu (b : Berth) (n : TaskNo) (f : Task → Task) : (b.modTask n f).nu = b.nu := rfl
@[simp] theorem modTask_grants (b : Berth) (n : TaskNo) (f : Task → Task) : (b.modTask n f).grants = b.grants := rfl
@[simp] theorem modTask_free (b : Berth) (n : TaskNo) (f : Task → Task) : (b.modTask n f).free = b.free := rfl
@[simp] theorem modTask_ltu_gangs (b : Berth) (n : TaskNo) (f : Task → Task) : (b.modTask n f).ltu.gangs = b.ltu.gangs := rfl
@[simp] theorem modTask_ltu_reserved (b : Berth) (n : TaskNo) (f : Task → Task) : (b.modTask n f).ltu.reserved = b.ltu.reserved := rfl
@[simp] theorem modTask_ltu_creation (b : Berth) (n : TaskNo) (f : Task → Task) : (b.modTask n f).ltu.creation = b.ltu.creation := rfl

/-! ### setTaskState -/

@[simp] theorem setTaskState_mode (b : Berth) (n : TaskNo) (x : TaskState) : (b.setTaskState n x).mode = b.mode := rfl
@[simp] theorem setTaskState_params (b : Berth) (n : TaskNo) (x : TaskState) : (b.setTaskState n x).params = b.params := rfl
@[simp] theorem setTaskState_sizes (b : Berth) (n : TaskNo) (x : TaskState) : (b.setTaskState n x).sizes = b.sizes := rfl
@[simp] theorem setTaskState_clock (b : Berth) (n : TaskNo) (x : TaskState) : (b.setTaskState n x).clock = b.clock := rfl
@[simp] theorem setTaskState_tickets (b : Berth) (n : TaskNo) (x : TaskState) : (b.setTaskState n x).tickets = b.tickets := rfl
@[simp] theorem setTaskState_cranes (b : Berth) (n : TaskNo) (x : TaskState) : (b.setTaskState n x).cranes = b.cranes := rfl
@[simp] theorem setTaskState_bct (b : Berth) (n : TaskNo) (x : TaskState) : (b.setTaskState n x).bct = b.bct := rfl
@[simp] theorem setTaskState_shu (b : Berth) (n : TaskNo) (x : TaskState) : (b.setTaskState n x).shu = b.shu := rfl
@[simp] theorem setTaskState_qlc (b : Berth) (n : TaskNo) (x : TaskState) : (b.setTaskState n x).qlc = b.qlc := rfl
@[simp] theorem setTaskState_nu (b : Berth) (n : TaskNo) (x : TaskState) : (b.setTaskState n x).nu = b.nu := rfl
@[simp] theorem setTaskState_grants (b : Berth) (n : TaskNo) (x : TaskState) : (b.setTaskState n x).grants = b.grants := rfl
@[simp] theorem setTaskState_free (b : Berth) (n : TaskNo) (x : TaskState) : (b.setTaskState n x).free = b.free := rfl
@[simp] theorem setTaskState_ltu_gangs (b : Berth) (n : TaskNo) (x : TaskState) : (b.setTaskState n x).ltu.gangs = b.ltu.gangs := rfl
@[simp] theorem setTaskState_ltu_reserved (b : Berth) (n : TaskNo) (x : TaskState) : (b.setTaskState n x).ltu.reserved = b.ltu.reserved := rfl
@[simp] theorem setTaskState_ltu_creation (b : Berth) (n : TaskNo) (x : TaskState) : (b.setTaskState n x).ltu.creation = b.ltu.creation := rfl

/-! ### dropTask -/

@[simp] theorem dropTask_mode (b : Berth) (n : TaskNo) : (b.dropTask n).mode = b.mode := rfl
@[simp] theorem dropTask_params (b : Berth) (n : TaskNo) : (b.dropTask n).params = b.params := rfl
@[simp] theorem dropTask_sizes (b : Berth) (n : TaskNo) : (b.dropTask n).sizes = b.sizes := rfl
@[simp] theorem dropTask_clock (b : Berth) (n : TaskNo) : (b.dropTask n).clock = b.clock := rfl
@[simp] theorem dropTask_tickets (b : Berth) (n : TaskNo) : (b.dropTask n).tickets = b.tickets := rfl
@[simp] theorem dropTask_cranes (b : Berth) (n : TaskNo) : (b.dropTask n).cranes = b.cranes := rfl
@[simp] theorem dropTask_bct (b : Berth) (n : TaskNo) : (b.dropTask n).bct = b.bct := rfl
@[simp] theorem dropTask_shu (b : Berth) (n : TaskNo) : (b.dropTask n).shu = b.shu := rfl
@[simp] theorem dropTask_qlc (b : Berth) (n : TaskNo) : (b.dropTask n).qlc = b.qlc := rfl
@[simp] theorem dropTask_nu (b : Berth) (n : TaskNo) : (b.dropTask n).nu = b.nu := rfl
@[simp] theorem dropTask_grants (b : Berth) (n : TaskNo) : (b.dropTask n).grants = b.grants := rfl
@[simp] theorem dropTask_free (b : Berth) (n : TaskNo) : (b.dropTask n).free = b.free := rfl
@[simp] theorem dropTask_ltu_gangs (b : Berth) (n : TaskNo) : (b.dropTask n).ltu.gangs = b.ltu.gangs := rfl
@[simp] theorem dropTask_ltu_reserved (b : Berth) (n : TaskNo) : (b.dropTask n).ltu.reserved = b.ltu.reserved := rfl
@[simp] theorem dropTask_ltu_creation (b : Berth) (n : TaskNo) : (b.dropTask n).ltu.creation = b.ltu.creation := rfl

/-! ### createTask -/

@[simp] theorem createTask_mode (b : Berth) (n : TaskNo) (k : TaskKind) (x : Bay) (c : Crane) (l : Nat) : (b.createTask n k x c l).mode = b.mode := rfl
@[simp] theorem createTask_params (b : Berth) (n : TaskNo) (k : TaskKind) (x : Bay) (c : Crane) (l : Nat) : (b.createTask n k x c l).params = b.params := rfl
@[simp] theorem createTask_sizes (b : Berth) (n : TaskNo) (k : TaskKind) (x : Bay) (c : Crane) (l : Nat) : (b.createTask n k x c l).sizes = b.sizes := rfl
@[simp] theorem createTask_clock (b : Berth) (n : TaskNo) (k : TaskKind) (x : Bay) (c : Crane) (l : Nat) : (b.createTask n k x c l).clock = b.clock := rfl
@[simp] theorem createTask_tickets (b : Berth) (n : TaskNo) (k : TaskKind) (x : Bay) (c : Crane) (l : Nat) : (b.createTask n k x c l).tickets = b.tickets := rfl
@[simp] theorem createTask_cranes (b : Berth) (n : TaskNo) (k : TaskKind) (x : Bay) (c : Crane) (l : Nat) : (b.createTask n k x c l).cranes = b.cranes := rfl
@[simp] theorem createTask_bct (b : Berth) (n : TaskNo) (k : TaskKind) (x : Bay) (c : Crane) (l : Nat) : (b.createTask n k x c l).bct = b.bct := rfl
@[simp] theorem createTask_shu (b : Berth) (n : TaskNo) (k : TaskKind) (x : Bay) (c : Crane) (l : Nat) : (b.createTask n k x c l).shu = b.shu := rfl
@[simp] theorem createTask_qlc (b : Berth) (n : TaskNo) (k : TaskKind) (x : Bay) (c : Crane) (l : Nat) : (b.createTask n k x c l).qlc = b.qlc := rfl
@[simp] theorem createTask_nu (b : Berth) (n : TaskNo) (k : TaskKind) (x : Bay) (c : Crane) (l : Nat) : (b.createTask n k x c l).nu = b.nu := rfl
@[simp] theorem createTask_grants (b : Berth) (n : TaskNo) (k : TaskKind) (x : Bay) (c : Crane) (l : Nat) : (b.createTask n k x c l).grants = b.grants := rfl
@[simp] theorem createTask_free (b : Berth) (n : TaskNo) (k : TaskKind) (x : Bay) (c : Crane) (l : Nat) : (b.createTask n k x c l).free = b.free := rfl
@[simp] theorem createTask_ltu_gangs (b : Berth) (n : TaskNo) (k : TaskKind) (x : Bay) (c : Crane) (l : Nat) : (b.createTask n k x c l).ltu.gangs = b.ltu.gangs := rfl
@[simp] theorem createTask_ltu_reserved (b : Berth) (n : TaskNo) (k : TaskKind) (x : Bay) (c : Crane) (l : Nat) : (b.createTask n k x c l).ltu.reserved = b.ltu.reserved := rfl

/-! ### reserve -/

@[simp] theorem reserve_mode (b : Berth) : b.reserve.mode = b.mode := rfl
@[simp] theorem reserve_params (b : Berth) : b.reserve.params = b.params := rfl
@[simp] theorem reserve_sizes (b : Berth) : b.reserve.sizes = b.sizes := rfl
@[simp] theorem reserve_clock (b : Berth) : b.reserve.clock = b.clock := rfl
@[simp] theorem reserve_tickets (b : Berth) : b.reserve.tickets = b.tickets := rfl
@[simp] theorem reserve_cranes (b : Berth) : b.reserve.cranes = b.cranes := rfl
@[simp] theorem reserve_bct (b : Berth) : b.reserve.bct = b.bct := rfl
@[simp] theorem reserve_shu (b : Berth) : b.reserve.shu = b.shu := rfl
@[simp] theorem reserve_qlc (b : Berth) : b.reserve.qlc = b.qlc := rfl
@[simp] theorem reserve_nu (b : Berth) : b.reserve.nu = b.nu := rfl
@[simp] theorem reserve_grants (b : Berth) : b.reserve.grants = b.grants := rfl
@[simp] theorem reserve_free (b : Berth) : b.reserve.free = b.free := rfl
@[simp] theorem reserve_ltu_gangs (b : Berth) : b.reserve.ltu.gangs = b.ltu.gangs := rfl
@[simp] theorem reserve_ltu_tasks (b : Berth) : b.reserve.ltu.tasks = b.ltu.tasks := rfl
@[simp] theorem reserve_ltu_creation (b : Berth) : b.reserve.ltu.creation = b.ltu.creation := rfl

/-! ### unreserve -/

@[simp] theorem unreserve_mode (b : Berth) : b.unreserve.mode = b.mode := rfl
@[simp] theorem unreserve_params (b : Berth) : b.unreserve.params = b.params := rfl
@[simp] theorem unreserve_sizes (b : Berth) : b.unreserve.sizes = b.sizes := rfl
@[simp] theorem unreserve_clock (b : Berth) : b.unreserve.clock = b.clock := rfl
@[simp] theorem unreserve_tickets (b : Berth) : b.unreserve.tickets = b.tickets := rfl
@[simp] theorem unreserve_cranes (b : Berth) : b.unreserve.cranes = b.cranes := rfl
@[simp] theorem unreserve_bct (b : Berth) : b.unreserve.bct = b.bct := rfl
@[simp] theorem unreserve_shu (b : Berth) : b.unreserve.shu = b.shu := rfl
@[simp] theorem unreserve_qlc (b : Berth) : b.unreserve.qlc = b.qlc := rfl
@[simp] theorem unreserve_nu (b : Berth) : b.unreserve.nu = b.nu := rfl
@[simp] theorem unreserve_grants (b : Berth) : b.unreserve.grants = b.grants := rfl
@[simp] theorem unreserve_free (b : Berth) : b.unreserve.free = b.free := rfl
@[simp] theorem unreserve_ltu_gangs (b : Berth) : b.unreserve.ltu.gangs = b.ltu.gangs := rfl
@[simp] theorem unreserve_ltu_tasks (b : Berth) : b.unreserve.ltu.tasks = b.ltu.tasks := rfl
@[simp] theorem unreserve_ltu_creation (b : Berth) : b.unreserve.ltu.creation = b.ltu.creation := rfl

/-! ### unlist -/

@[simp] theorem unlist_mode (b : Berth) (g : Gang) (n : TaskNo) : (b.unlist g n).mode = b.mode := rfl
@[simp] theorem unlist_params (b : Berth) (g : Gang) (n : TaskNo) : (b.unlist g n).params = b.params := rfl
@[simp] theorem unlist_sizes (b : Berth) (g : Gang) (n : TaskNo) : (b.unlist g n).sizes = b.sizes := rfl
@[simp] theorem unlist_clock (b : Berth) (g : Gang) (n : TaskNo) : (b.unlist g n).clock = b.clock := rfl
@[simp] theorem unlist_tickets (b : Berth) (g : Gang) (n : TaskNo) : (b.unlist g n).tickets = b.tickets := rfl
@[simp] theorem unlist_cranes (b : Berth) (g : Gang) (n : TaskNo) : (b.unlist g n).cranes = b.cranes := rfl
@[simp] theorem unlist_bct (b : Berth) (g : Gang) (n : TaskNo) : (b.unlist g n).bct = b.bct := rfl
@[simp] theorem unlist_shu (b : Berth) (g : Gang) (n : TaskNo) : (b.unlist g n).shu = b.shu := rfl
@[simp] theorem unlist_qlc (b : Berth) (g : Gang) (n : TaskNo) : (b.unlist g n).qlc = b.qlc := rfl
@[simp] theorem unlist_nu (b : Berth) (g : Gang) (n : TaskNo) : (b.unlist g n).nu = b.nu := rfl
@[simp] theorem unlist_grants (b : Berth) (g : Gang) (n : TaskNo) : (b.unlist g n).grants = b.grants := rfl
@[simp] theorem unlist_free (b : Berth) (g : Gang) (n : TaskNo) : (b.unlist g n).free = b.free := rfl
@[simp] theorem unlist_ltu_tasks (b : Berth) (g : Gang) (n : TaskNo) : (b.unlist g n).ltu.tasks = b.ltu.tasks := rfl
@[simp] theorem unlist_ltu_reserved (b : Berth) (g : Gang) (n : TaskNo) : (b.unlist g n).ltu.reserved = b.ltu.reserved := rfl
@[simp] theorem unlist_ltu_creation (b : Berth) (g : Gang) (n : TaskNo) : (b.unlist g n).ltu.creation = b.ltu.creation := rfl

/-! ### modStation -/

@[simp] theorem modStation_mode (b : Berth) (s : Station) (f : StationRec → StationRec) : (b.modStation s f).mode = b.mode := rfl
@[simp] theorem modStation_params (b : Berth) (s : Station) (f : StationRec → StationRec) : (b.modStation s f).params = b.params := rfl
@[simp] theorem modStation_sizes (b : Berth) (s : Station) (f : StationRec → StationRec) : (b.modStation s f).sizes = b.sizes := rfl
@[simp] theorem modStation_clock (b : Berth) (s : Station) (f : StationRec → StationRec) : (b.modStation s f).clock = b.clock := rfl
@[simp] theorem modStation_tickets (b : Berth) (s : Station) (f : StationRec → StationRec) : (b.modStation s f).tickets = b.tickets := rfl
@[simp] theorem modStation_cranes (b : Berth) (s : Station) (f : StationRec → StationRec) : (b.modStation s f).cranes = b.cranes := rfl
@[simp] theorem modStation_bct (b : Berth) (s : Station) (f : StationRec → StationRec) : (b.modStation s f).bct = b.bct := rfl
@[simp] theorem modStation_shu (b : Berth) (s : Station) (f : StationRec → StationRec) : (b.modStation s f).shu = b.shu := rfl
@[simp] theorem modStation_ltu (b : Berth) (s : Station) (f : StationRec → StationRec) : (b.modStation s f).ltu = b.ltu := rfl
@[simp] theorem modStation_nu (b : Berth) (s : Station) (f : StationRec → StationRec) : (b.modStation s f).nu = b.nu := rfl
@[simp] theorem modStation_grants (b : Berth) (s : Station) (f : StationRec → StationRec) : (b.modStation s f).grants = b.grants := rfl
@[simp] theorem modStation_free (b : Berth) (s : Station) (f : StationRec → StationRec) : (b.modStation s f).free = b.free := rfl
@[simp] theorem modStation_qlc_craneSlots (b : Berth) (s : Station) (f : StationRec → StationRec) : (b.modStation s f).qlc.craneSlots = b.qlc.craneSlots := rfl
@[simp] theorem modStation_qlc_gangSlots (b : Berth) (s : Station) (f : StationRec → StationRec) : (b.modStation s f).qlc.gangSlots = b.qlc.gangSlots := rfl
@[simp] theorem modStation_qlc_promotes (b : Berth) (s : Station) (f : StationRec → StationRec) : (b.modStation s f).qlc.promotes = b.qlc.promotes := rfl
@[simp] theorem modStation_qlc_window (b : Berth) (s : Station) (f : StationRec → StationRec) : (b.modStation s f).qlc.window = b.qlc.window := rfl
@[simp] theorem modStation_qlc_sent (b : Berth) (s : Station) (f : StationRec → StationRec) : (b.modStation s f).qlc.sent = b.qlc.sent := rfl

/-! ### postCrane -/

@[simp] theorem postCrane_mode (b : Berth) (c : Crane) (o : OrderBody) : (b.postCrane c o).mode = b.mode := rfl
@[simp] theorem postCrane_params (b : Berth) (c : Crane) (o : OrderBody) : (b.postCrane c o).params = b.params := rfl
@[simp] theorem postCrane_sizes (b : Berth) (c : Crane) (o : OrderBody) : (b.postCrane c o).sizes = b.sizes := rfl
@[simp] theorem postCrane_clock (b : Berth) (c : Crane) (o : OrderBody) : (b.postCrane c o).clock = b.clock := rfl
@[simp] theorem postCrane_tickets (b : Berth) (c : Crane) (o : OrderBody) : (b.postCrane c o).tickets = b.tickets := rfl
@[simp] theorem postCrane_cranes (b : Berth) (c : Crane) (o : OrderBody) : (b.postCrane c o).cranes = b.cranes := rfl
@[simp] theorem postCrane_bct (b : Berth) (c : Crane) (o : OrderBody) : (b.postCrane c o).bct = b.bct := rfl
@[simp] theorem postCrane_shu (b : Berth) (c : Crane) (o : OrderBody) : (b.postCrane c o).shu = b.shu := rfl
@[simp] theorem postCrane_ltu (b : Berth) (c : Crane) (o : OrderBody) : (b.postCrane c o).ltu = b.ltu := rfl
@[simp] theorem postCrane_nu (b : Berth) (c : Crane) (o : OrderBody) : (b.postCrane c o).nu = b.nu := rfl
@[simp] theorem postCrane_grants (b : Berth) (c : Crane) (o : OrderBody) : (b.postCrane c o).grants = b.grants := rfl
@[simp] theorem postCrane_free (b : Berth) (c : Crane) (o : OrderBody) : (b.postCrane c o).free = b.free := rfl
@[simp] theorem postCrane_qlc_stations (b : Berth) (c : Crane) (o : OrderBody) : (b.postCrane c o).qlc.stations = b.qlc.stations := rfl
@[simp] theorem postCrane_qlc_gangSlots (b : Berth) (c : Crane) (o : OrderBody) : (b.postCrane c o).qlc.gangSlots = b.qlc.gangSlots := rfl
@[simp] theorem postCrane_qlc_promotes (b : Berth) (c : Crane) (o : OrderBody) : (b.postCrane c o).qlc.promotes = b.qlc.promotes := rfl
@[simp] theorem postCrane_qlc_window (b : Berth) (c : Crane) (o : OrderBody) : (b.postCrane c o).qlc.window = b.qlc.window := rfl
@[simp] theorem postCrane_qlc_sent (b : Berth) (c : Crane) (o : OrderBody) : (b.postCrane c o).qlc.sent = b.qlc.sent := rfl

/-! ### postGang -/

@[simp] theorem postGang_mode (b : Berth) (g : Gang) (o : OrderBody) : (b.postGang g o).mode = b.mode := rfl
@[simp] theorem postGang_params (b : Berth) (g : Gang) (o : OrderBody) : (b.postGang g o).params = b.params := rfl
@[simp] theorem postGang_sizes (b : Berth) (g : Gang) (o : OrderBody) : (b.postGang g o).sizes = b.sizes := rfl
@[simp] theorem postGang_clock (b : Berth) (g : Gang) (o : OrderBody) : (b.postGang g o).clock = b.clock := rfl
@[simp] theorem postGang_tickets (b : Berth) (g : Gang) (o : OrderBody) : (b.postGang g o).tickets = b.tickets := rfl
@[simp] theorem postGang_cranes (b : Berth) (g : Gang) (o : OrderBody) : (b.postGang g o).cranes = b.cranes := rfl
@[simp] theorem postGang_bct (b : Berth) (g : Gang) (o : OrderBody) : (b.postGang g o).bct = b.bct := rfl
@[simp] theorem postGang_shu (b : Berth) (g : Gang) (o : OrderBody) : (b.postGang g o).shu = b.shu := rfl
@[simp] theorem postGang_ltu (b : Berth) (g : Gang) (o : OrderBody) : (b.postGang g o).ltu = b.ltu := rfl
@[simp] theorem postGang_nu (b : Berth) (g : Gang) (o : OrderBody) : (b.postGang g o).nu = b.nu := rfl
@[simp] theorem postGang_grants (b : Berth) (g : Gang) (o : OrderBody) : (b.postGang g o).grants = b.grants := rfl
@[simp] theorem postGang_free (b : Berth) (g : Gang) (o : OrderBody) : (b.postGang g o).free = b.free := rfl
@[simp] theorem postGang_qlc_stations (b : Berth) (g : Gang) (o : OrderBody) : (b.postGang g o).qlc.stations = b.qlc.stations := rfl
@[simp] theorem postGang_qlc_craneSlots (b : Berth) (g : Gang) (o : OrderBody) : (b.postGang g o).qlc.craneSlots = b.qlc.craneSlots := rfl
@[simp] theorem postGang_qlc_promotes (b : Berth) (g : Gang) (o : OrderBody) : (b.postGang g o).qlc.promotes = b.qlc.promotes := rfl
@[simp] theorem postGang_qlc_window (b : Berth) (g : Gang) (o : OrderBody) : (b.postGang g o).qlc.window = b.qlc.window := rfl
@[simp] theorem postGang_qlc_sent (b : Berth) (g : Gang) (o : OrderBody) : (b.postGang g o).qlc.sent = b.qlc.sent := rfl

/-! ### postPromote -/

@[simp] theorem postPromote_mode (b : Berth) (o : OrderBody) : (b.postPromote o).mode = b.mode := rfl
@[simp] theorem postPromote_params (b : Berth) (o : OrderBody) : (b.postPromote o).params = b.params := rfl
@[simp] theorem postPromote_sizes (b : Berth) (o : OrderBody) : (b.postPromote o).sizes = b.sizes := rfl
@[simp] theorem postPromote_clock (b : Berth) (o : OrderBody) : (b.postPromote o).clock = b.clock := rfl
@[simp] theorem postPromote_tickets (b : Berth) (o : OrderBody) : (b.postPromote o).tickets = b.tickets := rfl
@[simp] theorem postPromote_cranes (b : Berth) (o : OrderBody) : (b.postPromote o).cranes = b.cranes := rfl
@[simp] theorem postPromote_bct (b : Berth) (o : OrderBody) : (b.postPromote o).bct = b.bct := rfl
@[simp] theorem postPromote_shu (b : Berth) (o : OrderBody) : (b.postPromote o).shu = b.shu := rfl
@[simp] theorem postPromote_ltu (b : Berth) (o : OrderBody) : (b.postPromote o).ltu = b.ltu := rfl
@[simp] theorem postPromote_nu (b : Berth) (o : OrderBody) : (b.postPromote o).nu = b.nu := rfl
@[simp] theorem postPromote_grants (b : Berth) (o : OrderBody) : (b.postPromote o).grants = b.grants := rfl
@[simp] theorem postPromote_free (b : Berth) (o : OrderBody) : (b.postPromote o).free = b.free := rfl
@[simp] theorem postPromote_qlc_stations (b : Berth) (o : OrderBody) : (b.postPromote o).qlc.stations = b.qlc.stations := rfl
@[simp] theorem postPromote_qlc_craneSlots (b : Berth) (o : OrderBody) : (b.postPromote o).qlc.craneSlots = b.qlc.craneSlots := rfl
@[simp] theorem postPromote_qlc_gangSlots (b : Berth) (o : OrderBody) : (b.postPromote o).qlc.gangSlots = b.qlc.gangSlots := rfl
@[simp] theorem postPromote_qlc_window (b : Berth) (o : OrderBody) : (b.postPromote o).qlc.window = b.qlc.window := rfl
@[simp] theorem postPromote_qlc_sent (b : Berth) (o : OrderBody) : (b.postPromote o).qlc.sent = b.qlc.sent := rfl

/-! ### setPromotes -/

@[simp] theorem setPromotes_mode (b : Berth) (l : List Order) : (b.setPromotes l).mode = b.mode := rfl
@[simp] theorem setPromotes_params (b : Berth) (l : List Order) : (b.setPromotes l).params = b.params := rfl
@[simp] theorem setPromotes_sizes (b : Berth) (l : List Order) : (b.setPromotes l).sizes = b.sizes := rfl
@[simp] theorem setPromotes_clock (b : Berth) (l : List Order) : (b.setPromotes l).clock = b.clock := rfl
@[simp] theorem setPromotes_tickets (b : Berth) (l : List Order) : (b.setPromotes l).tickets = b.tickets := rfl
@[simp] theorem setPromotes_cranes (b : Berth) (l : List Order) : (b.setPromotes l).cranes = b.cranes := rfl
@[simp] theorem setPromotes_bct (b : Berth) (l : List Order) : (b.setPromotes l).bct = b.bct := rfl
@[simp] theorem setPromotes_shu (b : Berth) (l : List Order) : (b.setPromotes l).shu = b.shu := rfl
@[simp] theorem setPromotes_ltu (b : Berth) (l : List Order) : (b.setPromotes l).ltu = b.ltu := rfl
@[simp] theorem setPromotes_nu (b : Berth) (l : List Order) : (b.setPromotes l).nu = b.nu := rfl
@[simp] theorem setPromotes_grants (b : Berth) (l : List Order) : (b.setPromotes l).grants = b.grants := rfl
@[simp] theorem setPromotes_free (b : Berth) (l : List Order) : (b.setPromotes l).free = b.free := rfl
@[simp] theorem setPromotes_qlc_stations (b : Berth) (l : List Order) : (b.setPromotes l).qlc.stations = b.qlc.stations := rfl
@[simp] theorem setPromotes_qlc_craneSlots (b : Berth) (l : List Order) : (b.setPromotes l).qlc.craneSlots = b.qlc.craneSlots := rfl
@[simp] theorem setPromotes_qlc_gangSlots (b : Berth) (l : List Order) : (b.setPromotes l).qlc.gangSlots = b.qlc.gangSlots := rfl
@[simp] theorem setPromotes_qlc_window (b : Berth) (l : List Order) : (b.setPromotes l).qlc.window = b.qlc.window := rfl
@[simp] theorem setPromotes_qlc_sent (b : Berth) (l : List Order) : (b.setPromotes l).qlc.sent = b.qlc.sent := rfl

/-! ### setSent -/

@[simp] theorem setSent_mode (b : Berth) (x : Option (List Byte)) : (b.setSent x).mode = b.mode := rfl
@[simp] theorem setSent_params (b : Berth) (x : Option (List Byte)) : (b.setSent x).params = b.params := rfl
@[simp] theorem setSent_sizes (b : Berth) (x : Option (List Byte)) : (b.setSent x).sizes = b.sizes := rfl
@[simp] theorem setSent_clock (b : Berth) (x : Option (List Byte)) : (b.setSent x).clock = b.clock := rfl
@[simp] theorem setSent_tickets (b : Berth) (x : Option (List Byte)) : (b.setSent x).tickets = b.tickets := rfl
@[simp] theorem setSent_cranes (b : Berth) (x : Option (List Byte)) : (b.setSent x).cranes = b.cranes := rfl
@[simp] theorem setSent_bct (b : Berth) (x : Option (List Byte)) : (b.setSent x).bct = b.bct := rfl
@[simp] theorem setSent_shu (b : Berth) (x : Option (List Byte)) : (b.setSent x).shu = b.shu := rfl
@[simp] theorem setSent_ltu (b : Berth) (x : Option (List Byte)) : (b.setSent x).ltu = b.ltu := rfl
@[simp] theorem setSent_nu (b : Berth) (x : Option (List Byte)) : (b.setSent x).nu = b.nu := rfl
@[simp] theorem setSent_grants (b : Berth) (x : Option (List Byte)) : (b.setSent x).grants = b.grants := rfl
@[simp] theorem setSent_free (b : Berth) (x : Option (List Byte)) : (b.setSent x).free = b.free := rfl
@[simp] theorem setSent_qlc_stations (b : Berth) (x : Option (List Byte)) : (b.setSent x).qlc.stations = b.qlc.stations := rfl
@[simp] theorem setSent_qlc_craneSlots (b : Berth) (x : Option (List Byte)) : (b.setSent x).qlc.craneSlots = b.qlc.craneSlots := rfl
@[simp] theorem setSent_qlc_gangSlots (b : Berth) (x : Option (List Byte)) : (b.setSent x).qlc.gangSlots = b.qlc.gangSlots := rfl
@[simp] theorem setSent_qlc_promotes (b : Berth) (x : Option (List Byte)) : (b.setSent x).qlc.promotes = b.qlc.promotes := rfl
@[simp] theorem setSent_qlc_window (b : Berth) (x : Option (List Byte)) : (b.setSent x).qlc.window = b.qlc.window := rfl

/-! ### setWindow -/

@[simp] theorem setWindow_mode (b : Berth) (x : Option Station) : (b.setWindow x).mode = b.mode := rfl
@[simp] theorem setWindow_params (b : Berth) (x : Option Station) : (b.setWindow x).params = b.params := rfl
@[simp] theorem setWindow_sizes (b : Berth) (x : Option Station) : (b.setWindow x).sizes = b.sizes := rfl
@[simp] theorem setWindow_clock (b : Berth) (x : Option Station) : (b.setWindow x).clock = b.clock := rfl
@[simp] theorem setWindow_tickets (b : Berth) (x : Option Station) : (b.setWindow x).tickets = b.tickets := rfl
@[simp] theorem setWindow_cranes (b : Berth) (x : Option Station) : (b.setWindow x).cranes = b.cranes := rfl
@[simp] theorem setWindow_bct (b : Berth) (x : Option Station) : (b.setWindow x).bct = b.bct := rfl
@[simp] theorem setWindow_shu (b : Berth) (x : Option Station) : (b.setWindow x).shu = b.shu := rfl
@[simp] theorem setWindow_ltu (b : Berth) (x : Option Station) : (b.setWindow x).ltu = b.ltu := rfl
@[simp] theorem setWindow_nu (b : Berth) (x : Option Station) : (b.setWindow x).nu = b.nu := rfl
@[simp] theorem setWindow_grants (b : Berth) (x : Option Station) : (b.setWindow x).grants = b.grants := rfl
@[simp] theorem setWindow_free (b : Berth) (x : Option Station) : (b.setWindow x).free = b.free := rfl
@[simp] theorem setWindow_qlc_stations (b : Berth) (x : Option Station) : (b.setWindow x).qlc.stations = b.qlc.stations := rfl
@[simp] theorem setWindow_qlc_craneSlots (b : Berth) (x : Option Station) : (b.setWindow x).qlc.craneSlots = b.qlc.craneSlots := rfl
@[simp] theorem setWindow_qlc_gangSlots (b : Berth) (x : Option Station) : (b.setWindow x).qlc.gangSlots = b.qlc.gangSlots := rfl
@[simp] theorem setWindow_qlc_promotes (b : Berth) (x : Option Station) : (b.setWindow x).qlc.promotes = b.qlc.promotes := rfl
@[simp] theorem setWindow_qlc_sent (b : Berth) (x : Option Station) : (b.setWindow x).qlc.sent = b.qlc.sent := rfl

/-! ### emptyBoard -/

@[simp] theorem emptyBoard_mode (b : Berth) : b.emptyBoard.mode = b.mode := rfl
@[simp] theorem emptyBoard_params (b : Berth) : b.emptyBoard.params = b.params := rfl
@[simp] theorem emptyBoard_sizes (b : Berth) : b.emptyBoard.sizes = b.sizes := rfl
@[simp] theorem emptyBoard_clock (b : Berth) : b.emptyBoard.clock = b.clock := rfl
@[simp] theorem emptyBoard_tickets (b : Berth) : b.emptyBoard.tickets = b.tickets := rfl
@[simp] theorem emptyBoard_cranes (b : Berth) : b.emptyBoard.cranes = b.cranes := rfl
@[simp] theorem emptyBoard_bct (b : Berth) : b.emptyBoard.bct = b.bct := rfl
@[simp] theorem emptyBoard_shu (b : Berth) : b.emptyBoard.shu = b.shu := rfl
@[simp] theorem emptyBoard_ltu (b : Berth) : b.emptyBoard.ltu = b.ltu := rfl
@[simp] theorem emptyBoard_nu (b : Berth) : b.emptyBoard.nu = b.nu := rfl
@[simp] theorem emptyBoard_grants (b : Berth) : b.emptyBoard.grants = b.grants := rfl
@[simp] theorem emptyBoard_free (b : Berth) : b.emptyBoard.free = b.free := rfl
@[simp] theorem emptyBoard_qlc_stations (b : Berth) : b.emptyBoard.qlc.stations = b.qlc.stations := rfl
@[simp] theorem emptyBoard_qlc_window (b : Berth) : b.emptyBoard.qlc.window = b.qlc.window := rfl
@[simp] theorem emptyBoard_qlc_sent (b : Berth) : b.emptyBoard.qlc.sent = b.qlc.sent := rfl

/-! ### modStand -/

@[simp] theorem modStand_mode (b : Berth) (c : Crane) (f : List Truck → List Truck) : (b.modStand c f).mode = b.mode := rfl
@[simp] theorem modStand_params (b : Berth) (c : Crane) (f : List Truck → List Truck) : (b.modStand c f).params = b.params := rfl
@[simp] theorem modStand_sizes (b : Berth) (c : Crane) (f : List Truck → List Truck) : (b.modStand c f).sizes = b.sizes := rfl
@[simp] theorem modStand_clock (b : Berth) (c : Crane) (f : List Truck → List Truck) : (b.modStand c f).clock = b.clock := rfl
@[simp] theorem modStand_tickets (b : Berth) (c : Crane) (f : List Truck → List Truck) : (b.modStand c f).tickets = b.tickets := rfl
@[simp] theorem modStand_cranes (b : Berth) (c : Crane) (f : List Truck → List Truck) : (b.modStand c f).cranes = b.cranes := rfl
@[simp] theorem modStand_bct (b : Berth) (c : Crane) (f : List Truck → List Truck) : (b.modStand c f).bct = b.bct := rfl
@[simp] theorem modStand_ltu (b : Berth) (c : Crane) (f : List Truck → List Truck) : (b.modStand c f).ltu = b.ltu := rfl
@[simp] theorem modStand_qlc (b : Berth) (c : Crane) (f : List Truck → List Truck) : (b.modStand c f).qlc = b.qlc := rfl
@[simp] theorem modStand_nu (b : Berth) (c : Crane) (f : List Truck → List Truck) : (b.modStand c f).nu = b.nu := rfl
@[simp] theorem modStand_grants (b : Berth) (c : Crane) (f : List Truck → List Truck) : (b.modStand c f).grants = b.grants := rfl
@[simp] theorem modStand_free (b : Berth) (c : Crane) (f : List Truck → List Truck) : (b.modStand c f).free = b.free := rfl
@[simp] theorem modStand_shu_holding (b : Berth) (c : Crane) (f : List Truck → List Truck) : (b.modStand c f).shu.holding = b.shu.holding := rfl
@[simp] theorem modStand_shu_openLanes (b : Berth) (c : Crane) (f : List Truck → List Truck) : (b.modStand c f).shu.openLanes = b.shu.openLanes := rfl
@[simp] theorem modStand_shu_rules (b : Berth) (c : Crane) (f : List Truck → List Truck) : (b.modStand c f).shu.rules = b.shu.rules := rfl
@[simp] theorem modStand_shu_arrivals (b : Berth) (c : Crane) (f : List Truck → List Truck) : (b.modStand c f).shu.arrivals = b.shu.arrivals := rfl
@[simp] theorem modStand_shu_stays (b : Berth) (c : Crane) (f : List Truck → List Truck) : (b.modStand c f).shu.stays = b.shu.stays := rfl
@[simp] theorem modStand_shu_promotionDue (b : Berth) (c : Crane) (f : List Truck → List Truck) : (b.modStand c f).shu.promotionDue = b.shu.promotionDue := rfl

/-! ### modEntries -/

@[simp] theorem modEntries_mode (b : Berth) (c : Crane) (p : Truck → Bool) (f : Truck → Truck) : (b.modEntries c p f).mode = b.mode := rfl
@[simp] theorem modEntries_params (b : Berth) (c : Crane) (p : Truck → Bool) (f : Truck → Truck) : (b.modEntries c p f).params = b.params := rfl
@[simp] theorem modEntries_sizes (b : Berth) (c : Crane) (p : Truck → Bool) (f : Truck → Truck) : (b.modEntries c p f).sizes = b.sizes := rfl
@[simp] theorem modEntries_clock (b : Berth) (c : Crane) (p : Truck → Bool) (f : Truck → Truck) : (b.modEntries c p f).clock = b.clock := rfl
@[simp] theorem modEntries_tickets (b : Berth) (c : Crane) (p : Truck → Bool) (f : Truck → Truck) : (b.modEntries c p f).tickets = b.tickets := rfl
@[simp] theorem modEntries_cranes (b : Berth) (c : Crane) (p : Truck → Bool) (f : Truck → Truck) : (b.modEntries c p f).cranes = b.cranes := rfl
@[simp] theorem modEntries_bct (b : Berth) (c : Crane) (p : Truck → Bool) (f : Truck → Truck) : (b.modEntries c p f).bct = b.bct := rfl
@[simp] theorem modEntries_ltu (b : Berth) (c : Crane) (p : Truck → Bool) (f : Truck → Truck) : (b.modEntries c p f).ltu = b.ltu := rfl
@[simp] theorem modEntries_qlc (b : Berth) (c : Crane) (p : Truck → Bool) (f : Truck → Truck) : (b.modEntries c p f).qlc = b.qlc := rfl
@[simp] theorem modEntries_nu (b : Berth) (c : Crane) (p : Truck → Bool) (f : Truck → Truck) : (b.modEntries c p f).nu = b.nu := rfl
@[simp] theorem modEntries_grants (b : Berth) (c : Crane) (p : Truck → Bool) (f : Truck → Truck) : (b.modEntries c p f).grants = b.grants := rfl
@[simp] theorem modEntries_free (b : Berth) (c : Crane) (p : Truck → Bool) (f : Truck → Truck) : (b.modEntries c p f).free = b.free := rfl
@[simp] theorem modEntries_shu_holding (b : Berth) (c : Crane) (p : Truck → Bool) (f : Truck → Truck) : (b.modEntries c p f).shu.holding = b.shu.holding := rfl
@[simp] theorem modEntries_shu_openLanes (b : Berth) (c : Crane) (p : Truck → Bool) (f : Truck → Truck) : (b.modEntries c p f).shu.openLanes = b.shu.openLanes := rfl
@[simp] theorem modEntries_shu_rules (b : Berth) (c : Crane) (p : Truck → Bool) (f : Truck → Truck) : (b.modEntries c p f).shu.rules = b.shu.rules := rfl
@[simp] theorem modEntries_shu_arrivals (b : Berth) (c : Crane) (p : Truck → Bool) (f : Truck → Truck) : (b.modEntries c p f).shu.arrivals = b.shu.arrivals := rfl
@[simp] theorem modEntries_shu_stays (b : Berth) (c : Crane) (p : Truck → Bool) (f : Truck → Truck) : (b.modEntries c p f).shu.stays = b.shu.stays := rfl
@[simp] theorem modEntries_shu_promotionDue (b : Berth) (c : Crane) (p : Truck → Bool) (f : Truck → Truck) : (b.modEntries c p f).shu.promotionDue = b.shu.promotionDue := rfl

/-! ### owePromotion -/

@[simp] theorem owePromotion_mode (b : Berth) : b.owePromotion.mode = b.mode := rfl
@[simp] theorem owePromotion_params (b : Berth) : b.owePromotion.params = b.params := rfl
@[simp] theorem owePromotion_sizes (b : Berth) : b.owePromotion.sizes = b.sizes := rfl
@[simp] theorem owePromotion_clock (b : Berth) : b.owePromotion.clock = b.clock := rfl
@[simp] theorem owePromotion_tickets (b : Berth) : b.owePromotion.tickets = b.tickets := rfl
@[simp] theorem owePromotion_cranes (b : Berth) : b.owePromotion.cranes = b.cranes := rfl
@[simp] theorem owePromotion_bct (b : Berth) : b.owePromotion.bct = b.bct := rfl
@[simp] theorem owePromotion_ltu (b : Berth) : b.owePromotion.ltu = b.ltu := rfl
@[simp] theorem owePromotion_qlc (b : Berth) : b.owePromotion.qlc = b.qlc := rfl
@[simp] theorem owePromotion_nu (b : Berth) : b.owePromotion.nu = b.nu := rfl
@[simp] theorem owePromotion_grants (b : Berth) : b.owePromotion.grants = b.grants := rfl
@[simp] theorem owePromotion_free (b : Berth) : b.owePromotion.free = b.free := rfl
@[simp] theorem owePromotion_shu_stands (b : Berth) : b.owePromotion.shu.stands = b.shu.stands := rfl
@[simp] theorem owePromotion_shu_holding (b : Berth) : b.owePromotion.shu.holding = b.shu.holding := rfl
@[simp] theorem owePromotion_shu_openLanes (b : Berth) : b.owePromotion.shu.openLanes = b.shu.openLanes := rfl
@[simp] theorem owePromotion_shu_rules (b : Berth) : b.owePromotion.shu.rules = b.shu.rules := rfl
@[simp] theorem owePromotion_shu_arrivals (b : Berth) : b.owePromotion.shu.arrivals = b.shu.arrivals := rfl
@[simp] theorem owePromotion_shu_stays (b : Berth) : b.owePromotion.shu.stays = b.shu.stays := rfl

/-! ### setCraneClaim -/

@[simp] theorem setCraneClaim_mode (b : Berth) (c : Crane) (x : Option Bay) : (b.setCraneClaim c x).mode = b.mode := rfl
@[simp] theorem setCraneClaim_params (b : Berth) (c : Crane) (x : Option Bay) : (b.setCraneClaim c x).params = b.params := rfl
@[simp] theorem setCraneClaim_sizes (b : Berth) (c : Crane) (x : Option Bay) : (b.setCraneClaim c x).sizes = b.sizes := rfl
@[simp] theorem setCraneClaim_clock (b : Berth) (c : Crane) (x : Option Bay) : (b.setCraneClaim c x).clock = b.clock := rfl
@[simp] theorem setCraneClaim_tickets (b : Berth) (c : Crane) (x : Option Bay) : (b.setCraneClaim c x).tickets = b.tickets := rfl
@[simp] theorem setCraneClaim_cranes (b : Berth) (c : Crane) (x : Option Bay) : (b.setCraneClaim c x).cranes = b.cranes := rfl
@[simp] theorem setCraneClaim_shu (b : Berth) (c : Crane) (x : Option Bay) : (b.setCraneClaim c x).shu = b.shu := rfl
@[simp] theorem setCraneClaim_ltu (b : Berth) (c : Crane) (x : Option Bay) : (b.setCraneClaim c x).ltu = b.ltu := rfl
@[simp] theorem setCraneClaim_qlc (b : Berth) (c : Crane) (x : Option Bay) : (b.setCraneClaim c x).qlc = b.qlc := rfl
@[simp] theorem setCraneClaim_nu (b : Berth) (c : Crane) (x : Option Bay) : (b.setCraneClaim c x).nu = b.nu := rfl
@[simp] theorem setCraneClaim_grants (b : Berth) (c : Crane) (x : Option Bay) : (b.setCraneClaim c x).grants = b.grants := rfl
@[simp] theorem setCraneClaim_free (b : Berth) (c : Crane) (x : Option Bay) : (b.setCraneClaim c x).free = b.free := rfl
@[simp] theorem setCraneClaim_bct_gangClaims (b : Berth) (c : Crane) (x : Option Bay) : (b.setCraneClaim c x).bct.gangClaims = b.bct.gangClaims := rfl
@[simp] theorem setCraneClaim_bct_waiters (b : Berth) (c : Crane) (x : Option Bay) : (b.setCraneClaim c x).bct.waiters = b.bct.waiters := rfl

/-! ### setGangClaim -/

@[simp] theorem setGangClaim_mode (b : Berth) (g : Gang) (x : Option GangClaim) : (b.setGangClaim g x).mode = b.mode := rfl
@[simp] theorem setGangClaim_params (b : Berth) (g : Gang) (x : Option GangClaim) : (b.setGangClaim g x).params = b.params := rfl
@[simp] theorem setGangClaim_sizes (b : Berth) (g : Gang) (x : Option GangClaim) : (b.setGangClaim g x).sizes = b.sizes := rfl
@[simp] theorem setGangClaim_clock (b : Berth) (g : Gang) (x : Option GangClaim) : (b.setGangClaim g x).clock = b.clock := rfl
@[simp] theorem setGangClaim_tickets (b : Berth) (g : Gang) (x : Option GangClaim) : (b.setGangClaim g x).tickets = b.tickets := rfl
@[simp] theorem setGangClaim_cranes (b : Berth) (g : Gang) (x : Option GangClaim) : (b.setGangClaim g x).cranes = b.cranes := rfl
@[simp] theorem setGangClaim_shu (b : Berth) (g : Gang) (x : Option GangClaim) : (b.setGangClaim g x).shu = b.shu := rfl
@[simp] theorem setGangClaim_ltu (b : Berth) (g : Gang) (x : Option GangClaim) : (b.setGangClaim g x).ltu = b.ltu := rfl
@[simp] theorem setGangClaim_qlc (b : Berth) (g : Gang) (x : Option GangClaim) : (b.setGangClaim g x).qlc = b.qlc := rfl
@[simp] theorem setGangClaim_nu (b : Berth) (g : Gang) (x : Option GangClaim) : (b.setGangClaim g x).nu = b.nu := rfl
@[simp] theorem setGangClaim_grants (b : Berth) (g : Gang) (x : Option GangClaim) : (b.setGangClaim g x).grants = b.grants := rfl
@[simp] theorem setGangClaim_free (b : Berth) (g : Gang) (x : Option GangClaim) : (b.setGangClaim g x).free = b.free := rfl
@[simp] theorem setGangClaim_bct_craneClaims (b : Berth) (g : Gang) (x : Option GangClaim) : (b.setGangClaim g x).bct.craneClaims = b.bct.craneClaims := rfl
@[simp] theorem setGangClaim_bct_waiters (b : Berth) (g : Gang) (x : Option GangClaim) : (b.setGangClaim g x).bct.waiters = b.bct.waiters := rfl

/-! ### removeWaiter -/

@[simp] theorem removeWaiter_mode (b : Berth) (g : Gang) : (b.removeWaiter g).mode = b.mode := rfl
@[simp] theorem removeWaiter_params (b : Berth) (g : Gang) : (b.removeWaiter g).params = b.params := rfl
@[simp] theorem removeWaiter_sizes (b : Berth) (g : Gang) : (b.removeWaiter g).sizes = b.sizes := rfl
@[simp] theorem removeWaiter_clock (b : Berth) (g : Gang) : (b.removeWaiter g).clock = b.clock := rfl
@[simp] theorem removeWaiter_tickets (b : Berth) (g : Gang) : (b.removeWaiter g).tickets = b.tickets := rfl
@[simp] theorem removeWaiter_cranes (b : Berth) (g : Gang) : (b.removeWaiter g).cranes = b.cranes := rfl
@[simp] theorem removeWaiter_shu (b : Berth) (g : Gang) : (b.removeWaiter g).shu = b.shu := rfl
@[simp] theorem removeWaiter_ltu (b : Berth) (g : Gang) : (b.removeWaiter g).ltu = b.ltu := rfl
@[simp] theorem removeWaiter_qlc (b : Berth) (g : Gang) : (b.removeWaiter g).qlc = b.qlc := rfl
@[simp] theorem removeWaiter_nu (b : Berth) (g : Gang) : (b.removeWaiter g).nu = b.nu := rfl
@[simp] theorem removeWaiter_grants (b : Berth) (g : Gang) : (b.removeWaiter g).grants = b.grants := rfl
@[simp] theorem removeWaiter_free (b : Berth) (g : Gang) : (b.removeWaiter g).free = b.free := rfl
@[simp] theorem removeWaiter_bct_craneClaims (b : Berth) (g : Gang) : (b.removeWaiter g).bct.craneClaims = b.bct.craneClaims := rfl
@[simp] theorem removeWaiter_bct_gangClaims (b : Berth) (g : Gang) : (b.removeWaiter g).bct.gangClaims = b.bct.gangClaims := rfl

/-! ### raise -/

@[simp] theorem raise_mode (b : Berth) (x : BitVec 16) : (b.raise x).mode = b.mode := rfl
@[simp] theorem raise_params (b : Berth) (x : BitVec 16) : (b.raise x).params = b.params := rfl
@[simp] theorem raise_sizes (b : Berth) (x : BitVec 16) : (b.raise x).sizes = b.sizes := rfl
@[simp] theorem raise_clock (b : Berth) (x : BitVec 16) : (b.raise x).clock = b.clock := rfl
@[simp] theorem raise_tickets (b : Berth) (x : BitVec 16) : (b.raise x).tickets = b.tickets := rfl
@[simp] theorem raise_cranes (b : Berth) (x : BitVec 16) : (b.raise x).cranes = b.cranes := rfl
@[simp] theorem raise_bct (b : Berth) (x : BitVec 16) : (b.raise x).bct = b.bct := rfl
@[simp] theorem raise_shu (b : Berth) (x : BitVec 16) : (b.raise x).shu = b.shu := rfl
@[simp] theorem raise_ltu (b : Berth) (x : BitVec 16) : (b.raise x).ltu = b.ltu := rfl
@[simp] theorem raise_qlc (b : Berth) (x : BitVec 16) : (b.raise x).qlc = b.qlc := rfl
@[simp] theorem raise_grants (b : Berth) (x : BitVec 16) : (b.raise x).grants = b.grants := rfl
@[simp] theorem raise_free (b : Berth) (x : BitVec 16) : (b.raise x).free = b.free := rfl
@[simp] theorem raise_nu_enable (b : Berth) (x : BitVec 16) : (b.raise x).nu.enable = b.nu.enable := rfl

/-! ### evalLevels -/

@[simp] theorem evalLevels_mode (b : Berth) : b.evalLevels.mode = b.mode := rfl
@[simp] theorem evalLevels_params (b : Berth) : b.evalLevels.params = b.params := rfl
@[simp] theorem evalLevels_sizes (b : Berth) : b.evalLevels.sizes = b.sizes := rfl
@[simp] theorem evalLevels_clock (b : Berth) : b.evalLevels.clock = b.clock := rfl
@[simp] theorem evalLevels_tickets (b : Berth) : b.evalLevels.tickets = b.tickets := rfl
@[simp] theorem evalLevels_cranes (b : Berth) : b.evalLevels.cranes = b.cranes := rfl
@[simp] theorem evalLevels_bct (b : Berth) : b.evalLevels.bct = b.bct := rfl
@[simp] theorem evalLevels_shu (b : Berth) : b.evalLevels.shu = b.shu := rfl
@[simp] theorem evalLevels_ltu (b : Berth) : b.evalLevels.ltu = b.ltu := rfl
@[simp] theorem evalLevels_qlc (b : Berth) : b.evalLevels.qlc = b.qlc := rfl
@[simp] theorem evalLevels_grants (b : Berth) : b.evalLevels.grants = b.grants := rfl
@[simp] theorem evalLevels_free (b : Berth) : b.evalLevels.free = b.free := rfl
@[simp] theorem evalLevels_nu_enable (b : Berth) : b.evalLevels.nu.enable = b.nu.enable := rfl

/-! ### consult -/

@[simp] theorem consult_mode (b : Berth) : b.consult.mode = b.mode := rfl
@[simp] theorem consult_params (b : Berth) : b.consult.params = b.params := rfl
@[simp] theorem consult_sizes (b : Berth) : b.consult.sizes = b.sizes := rfl
@[simp] theorem consult_clock (b : Berth) : b.consult.clock = b.clock := rfl
@[simp] theorem consult_tickets (b : Berth) : b.consult.tickets = b.tickets := rfl
@[simp] theorem consult_cranes (b : Berth) : b.consult.cranes = b.cranes := rfl
@[simp] theorem consult_bct (b : Berth) : b.consult.bct = b.bct := rfl
@[simp] theorem consult_shu (b : Berth) : b.consult.shu = b.shu := rfl
@[simp] theorem consult_ltu (b : Berth) : b.consult.ltu = b.ltu := rfl
@[simp] theorem consult_qlc (b : Berth) : b.consult.qlc = b.qlc := rfl
@[simp] theorem consult_nu (b : Berth) : b.consult.nu = b.nu := rfl
@[simp] theorem consult_grants (b : Berth) : b.consult.grants = b.grants := rfl

/-! ### setTime -/

@[simp] theorem setTime_mode (b : Berth) (q : QTime) : (b.setTime q).mode = b.mode := rfl
@[simp] theorem setTime_params (b : Berth) (q : QTime) : (b.setTime q).params = b.params := rfl
@[simp] theorem setTime_sizes (b : Berth) (q : QTime) : (b.setTime q).sizes = b.sizes := rfl
@[simp] theorem setTime_tickets (b : Berth) (q : QTime) : (b.setTime q).tickets = b.tickets := rfl
@[simp] theorem setTime_cranes (b : Berth) (q : QTime) : (b.setTime q).cranes = b.cranes := rfl
@[simp] theorem setTime_bct (b : Berth) (q : QTime) : (b.setTime q).bct = b.bct := rfl
@[simp] theorem setTime_shu (b : Berth) (q : QTime) : (b.setTime q).shu = b.shu := rfl
@[simp] theorem setTime_ltu (b : Berth) (q : QTime) : (b.setTime q).ltu = b.ltu := rfl
@[simp] theorem setTime_qlc (b : Berth) (q : QTime) : (b.setTime q).qlc = b.qlc := rfl
@[simp] theorem setTime_nu (b : Berth) (q : QTime) : (b.setTime q).nu = b.nu := rfl
@[simp] theorem setTime_grants (b : Berth) (q : QTime) : (b.setTime q).grants = b.grants := rfl
@[simp] theorem setTime_free (b : Berth) (q : QTime) : (b.setTime q).free = b.free := rfl
@[simp] theorem setTime_clock_running (b : Berth) (q : QTime) : (b.setTime q).clock.running = b.clock.running := rfl
@[simp] theorem setTime_clock_shiftIndex (b : Berth) (q : QTime) : (b.setTime q).clock.shiftIndex = b.clock.shiftIndex := rfl

/-! ### setRunning -/

@[simp] theorem setRunning_mode (b : Berth) (r : Bool) : (b.setRunning r).mode = b.mode := rfl
@[simp] theorem setRunning_params (b : Berth) (r : Bool) : (b.setRunning r).params = b.params := rfl
@[simp] theorem setRunning_sizes (b : Berth) (r : Bool) : (b.setRunning r).sizes = b.sizes := rfl
@[simp] theorem setRunning_tickets (b : Berth) (r : Bool) : (b.setRunning r).tickets = b.tickets := rfl
@[simp] theorem setRunning_cranes (b : Berth) (r : Bool) : (b.setRunning r).cranes = b.cranes := rfl
@[simp] theorem setRunning_bct (b : Berth) (r : Bool) : (b.setRunning r).bct = b.bct := rfl
@[simp] theorem setRunning_shu (b : Berth) (r : Bool) : (b.setRunning r).shu = b.shu := rfl
@[simp] theorem setRunning_ltu (b : Berth) (r : Bool) : (b.setRunning r).ltu = b.ltu := rfl
@[simp] theorem setRunning_qlc (b : Berth) (r : Bool) : (b.setRunning r).qlc = b.qlc := rfl
@[simp] theorem setRunning_nu (b : Berth) (r : Bool) : (b.setRunning r).nu = b.nu := rfl
@[simp] theorem setRunning_grants (b : Berth) (r : Bool) : (b.setRunning r).grants = b.grants := rfl
@[simp] theorem setRunning_free (b : Berth) (r : Bool) : (b.setRunning r).free = b.free := rfl
@[simp] theorem setRunning_clock_time (b : Berth) (r : Bool) : (b.setRunning r).clock.time = b.clock.time := rfl
@[simp] theorem setRunning_clock_shiftIndex (b : Berth) (r : Bool) : (b.setRunning r).clock.shiftIndex = b.clock.shiftIndex := rfl

/-! ### setMode -/

@[simp] theorem setMode_params (b : Berth) (m : Mode) : (b.setMode m).params = b.params := rfl
@[simp] theorem setMode_sizes (b : Berth) (m : Mode) : (b.setMode m).sizes = b.sizes := rfl
@[simp] theorem setMode_clock (b : Berth) (m : Mode) : (b.setMode m).clock = b.clock := rfl
@[simp] theorem setMode_tickets (b : Berth) (m : Mode) : (b.setMode m).tickets = b.tickets := rfl
@[simp] theorem setMode_cranes (b : Berth) (m : Mode) : (b.setMode m).cranes = b.cranes := rfl
@[simp] theorem setMode_bct (b : Berth) (m : Mode) : (b.setMode m).bct = b.bct := rfl
@[simp] theorem setMode_shu (b : Berth) (m : Mode) : (b.setMode m).shu = b.shu := rfl
@[simp] theorem setMode_ltu (b : Berth) (m : Mode) : (b.setMode m).ltu = b.ltu := rfl
@[simp] theorem setMode_qlc (b : Berth) (m : Mode) : (b.setMode m).qlc = b.qlc := rfl
@[simp] theorem setMode_nu (b : Berth) (m : Mode) : (b.setMode m).nu = b.nu := rfl
@[simp] theorem setMode_grants (b : Berth) (m : Mode) : (b.setMode m).grants = b.grants := rfl
@[simp] theorem setMode_free (b : Berth) (m : Mode) : (b.setMode m).free = b.free := rfl

end Sys2Proof.Machine.Berth
end

