-- ==== Sys2Proof/Laws/Access.lean ====
section
/-! SUPPORT. One rewriting lemma per reading and update: what a named update of a `Berth` leaves of each reading that it
does not write, true by `rfl`. -/

namespace Sys2Proof.Machine.Berth

/-! ### modTicketsIf -/

@[simp] theorem crane_modTicketsIf (b : Berth) (p : Ticket → Bool) (f : Ticket → Ticket) (cc : Crane) : (b.modTicketsIf p f).crane cc = b.crane cc := rfl
@[simp] theorem gang_modTicketsIf (b : Berth) (p : Ticket → Bool) (f : Ticket → Ticket) (gg : Gang) : (b.modTicketsIf p f).gang gg = b.gang gg := rfl
@[simp] theorem station_modTicketsIf (b : Berth) (p : Ticket → Bool) (f : Ticket → Ticket) (ss : Station) : (b.modTicketsIf p f).station ss = b.station ss := rfl
@[simp] theorem stand_modTicketsIf (b : Berth) (p : Ticket → Bool) (f : Ticket → Ticket) (cc : Crane) : (b.modTicketsIf p f).stand cc = b.stand cc := rfl
@[simp] theorem craneClaim_modTicketsIf (b : Berth) (p : Ticket → Bool) (f : Ticket → Ticket) (cc : Crane) : (b.modTicketsIf p f).craneClaim cc = b.craneClaim cc := rfl
@[simp] theorem gangClaim_modTicketsIf (b : Berth) (p : Ticket → Bool) (f : Ticket → Ticket) (gg : Gang) : (b.modTicketsIf p f).gangClaim gg = b.gangClaim gg := rfl
@[simp] theorem task?_modTicketsIf (b : Berth) (p : Ticket → Bool) (f : Ticket → Ticket) (no : TaskNo) : (b.modTicketsIf p f).task? no = b.task? no := rfl
@[simp] theorem now_modTicketsIf (b : Berth) (p : Ticket → Bool) (f : Ticket → Ticket) : (b.modTicketsIf p f).now = b.now := rfl
@[simp] theorem nowSecs_modTicketsIf (b : Berth) (p : Ticket → Bool) (f : Ticket → Ticket) : (b.modTicketsIf p f).nowSecs = b.nowSecs := rfl

/-! ### modTicket -/

@[simp] theorem crane_modTicket (b : Berth) (n : TicketNo) (f : Ticket → Ticket) (cc : Crane) : (b.modTicket n f).crane cc = b.crane cc := rfl
@[simp] theorem gang_modTicket (b : Berth) (n : TicketNo) (f : Ticket → Ticket) (gg : Gang) : (b.modTicket n f).gang gg = b.gang gg := rfl
@[simp] theorem station_modTicket (b : Berth) (n : TicketNo) (f : Ticket → Ticket) (ss : Station) : (b.modTicket n f).station ss = b.station ss := rfl
@[simp] theorem stand_modTicket (b : Berth) (n : TicketNo) (f : Ticket → Ticket) (cc : Crane) : (b.modTicket n f).stand cc = b.stand cc := rfl
@[simp] theorem craneClaim_modTicket (b : Berth) (n : TicketNo) (f : Ticket → Ticket) (cc : Crane) : (b.modTicket n f).craneClaim cc = b.craneClaim cc := rfl
@[simp] theorem gangClaim_modTicket (b : Berth) (n : TicketNo) (f : Ticket → Ticket) (gg : Gang) : (b.modTicket n f).gangClaim gg = b.gangClaim gg := rfl
@[simp] theorem task?_modTicket (b : Berth) (n : TicketNo) (f : Ticket → Ticket) (no : TaskNo) : (b.modTicket n f).task? no = b.task? no := rfl
@[simp] theorem now_modTicket (b : Berth) (n : TicketNo) (f : Ticket → Ticket) : (b.modTicket n f).now = b.now := rfl
@[simp] theorem nowSecs_modTicket (b : Berth) (n : TicketNo) (f : Ticket → Ticket) : (b.modTicket n f).nowSecs = b.nowSecs := rfl

/-! ### modTickets -/

@[simp] theorem crane_modTickets (b : Berth) (ns : List TicketNo) (f : Ticket → Ticket) (cc : Crane) : (b.modTickets ns f).crane cc = b.crane cc := rfl
@[simp] theorem gang_modTickets (b : Berth) (ns : List TicketNo) (f : Ticket → Ticket) (gg : Gang) : (b.modTickets ns f).gang gg = b.gang gg := rfl
@[simp] theorem station_modTickets (b : Berth) (ns : List TicketNo) (f : Ticket → Ticket) (ss : Station) : (b.modTickets ns f).station ss = b.station ss := rfl
@[simp] theorem stand_modTickets (b : Berth) (ns : List TicketNo) (f : Ticket → Ticket) (cc : Crane) : (b.modTickets ns f).stand cc = b.stand cc := rfl
@[simp] theorem craneClaim_modTickets (b : Berth) (ns : List TicketNo) (f : Ticket → Ticket) (cc : Crane) : (b.modTickets ns f).craneClaim cc = b.craneClaim cc := rfl
@[simp] theorem gangClaim_modTickets (b : Berth) (ns : List TicketNo) (f : Ticket → Ticket) (gg : Gang) : (b.modTickets ns f).gangClaim gg = b.gangClaim gg := rfl
@[simp] theorem task?_modTickets (b : Berth) (ns : List TicketNo) (f : Ticket → Ticket) (no : TaskNo) : (b.modTickets ns f).task? no = b.task? no := rfl
@[simp] theorem now_modTickets (b : Berth) (ns : List TicketNo) (f : Ticket → Ticket) : (b.modTickets ns f).now = b.now := rfl
@[simp] theorem nowSecs_modTickets (b : Berth) (ns : List TicketNo) (f : Ticket → Ticket) : (b.modTickets ns f).nowSecs = b.nowSecs := rfl

/-! ### addTicket -/

@[simp] theorem crane_addTicket (b : Berth) (t : Ticket) (cc : Crane) : (b.addTicket t).crane cc = b.crane cc := rfl
@[simp] theorem gang_addTicket (b : Berth) (t : Ticket) (gg : Gang) : (b.addTicket t).gang gg = b.gang gg := rfl
@[simp] theorem station_addTicket (b : Berth) (t : Ticket) (ss : Station) : (b.addTicket t).station ss = b.station ss := rfl
@[simp] theorem stand_addTicket (b : Berth) (t : Ticket) (cc : Crane) : (b.addTicket t).stand cc = b.stand cc := rfl
@[simp] theorem craneClaim_addTicket (b : Berth) (t : Ticket) (cc : Crane) : (b.addTicket t).craneClaim cc = b.craneClaim cc := rfl
@[simp] theorem gangClaim_addTicket (b : Berth) (t : Ticket) (gg : Gang) : (b.addTicket t).gangClaim gg = b.gangClaim gg := rfl
@[simp] theorem task?_addTicket (b : Berth) (t : Ticket) (no : TaskNo) : (b.addTicket t).task? no = b.task? no := rfl
@[simp] theorem now_addTicket (b : Berth) (t : Ticket) : (b.addTicket t).now = b.now := rfl
@[simp] theorem nowSecs_addTicket (b : Berth) (t : Ticket) : (b.addTicket t).nowSecs = b.nowSecs := rfl

/-! ### dropTicket -/

@[simp] theorem crane_dropTicket (b : Berth) (n : TicketNo) (cc : Crane) : (b.dropTicket n).crane cc = b.crane cc := rfl
@[simp] theorem gang_dropTicket (b : Berth) (n : TicketNo) (gg : Gang) : (b.dropTicket n).gang gg = b.gang gg := rfl
@[simp] theorem station_dropTicket (b : Berth) (n : TicketNo) (ss : Station) : (b.dropTicket n).station ss = b.station ss := rfl
@[simp] theorem stand_dropTicket (b : Berth) (n : TicketNo) (cc : Crane) : (b.dropTicket n).stand cc = b.stand cc := rfl
@[simp] theorem craneClaim_dropTicket (b : Berth) (n : TicketNo) (cc : Crane) : (b.dropTicket n).craneClaim cc = b.craneClaim cc := rfl
@[simp] theorem gangClaim_dropTicket (b : Berth) (n : TicketNo) (gg : Gang) : (b.dropTicket n).gangClaim gg = b.gangClaim gg := rfl
@[simp] theorem task?_dropTicket (b : Berth) (n : TicketNo) (no : TaskNo) : (b.dropTicket n).task? no = b.task? no := rfl
@[simp] theorem now_dropTicket (b : Berth) (n : TicketNo) : (b.dropTicket n).now = b.now := rfl
@[simp] theorem nowSecs_dropTicket (b : Berth) (n : TicketNo) : (b.dropTicket n).nowSecs = b.nowSecs := rfl

/-! ### craneReasons -/

@[simp] theorem crane_craneReasons (b : Berth) (c : Crane) (cc : Crane) : (b.craneReasons c).crane cc = b.crane cc := rfl
@[simp] theorem gang_craneReasons (b : Berth) (c : Crane) (gg : Gang) : (b.craneReasons c).gang gg = b.gang gg := rfl
@[simp] theorem station_craneReasons (b : Berth) (c : Crane) (ss : Station) : (b.craneReasons c).station ss = b.station ss := rfl
@[simp] theorem stand_craneReasons (b : Berth) (c : Crane) (cc : Crane) : (b.craneReasons c).stand cc = b.stand cc := rfl
@[simp] theorem craneClaim_craneReasons (b : Berth) (c : Crane) (cc : Crane) : (b.craneReasons c).craneClaim cc = b.craneClaim cc := rfl
@[simp] theorem gangClaim_craneReasons (b : Berth) (c : Crane) (gg : Gang) : (b.craneReasons c).gangClaim gg = b.gangClaim gg := rfl
@[simp] theorem task?_craneReasons (b : Berth) (c : Crane) (no : TaskNo) : (b.craneReasons c).task? no = b.task? no := rfl
@[simp] theorem now_craneReasons (b : Berth) (c : Crane) : (b.craneReasons c).now = b.now := rfl
@[simp] theorem nowSecs_craneReasons (b : Berth) (c : Crane) : (b.craneReasons c).nowSecs = b.nowSecs := rfl

/-! ### setReasons -/

@[simp] theorem crane_setReasons (b : Berth) (ns : List TicketNo) (r : Reason) (cc : Crane) : (b.setReasons ns r).crane cc = b.crane cc := rfl
@[simp] theorem gang_setReasons (b : Berth) (ns : List TicketNo) (r : Reason) (gg : Gang) : (b.setReasons ns r).gang gg = b.gang gg := rfl
@[simp] theorem station_setReasons (b : Berth) (ns : List TicketNo) (r : Reason) (ss : Station) : (b.setReasons ns r).station ss = b.station ss := rfl
@[simp] theorem stand_setReasons (b : Berth) (ns : List TicketNo) (r : Reason) (cc : Crane) : (b.setReasons ns r).stand cc = b.stand cc := rfl
@[simp] theorem craneClaim_setReasons (b : Berth) (ns : List TicketNo) (r : Reason) (cc : Crane) : (b.setReasons ns r).craneClaim cc = b.craneClaim cc := rfl
@[simp] theorem gangClaim_setReasons (b : Berth) (ns : List TicketNo) (r : Reason) (gg : Gang) : (b.setReasons ns r).gangClaim gg = b.gangClaim gg := rfl
@[simp] theorem task?_setReasons (b : Berth) (ns : List TicketNo) (r : Reason) (no : TaskNo) : (b.setReasons ns r).task? no = b.task? no := rfl
@[simp] theorem now_setReasons (b : Berth) (ns : List TicketNo) (r : Reason) : (b.setReasons ns r).now = b.now := rfl
@[simp] theorem nowSecs_setReasons (b : Berth) (ns : List TicketNo) (r : Reason) : (b.setReasons ns r).nowSecs = b.nowSecs := rfl

/-! ### modCrane -/

@[simp] theorem gang_modCrane (b : Berth) (c : Crane) (f : CraneRec → CraneRec) (gg : Gang) : (b.modCrane c f).gang gg = b.gang gg := rfl
@[simp] theorem station_modCrane (b : Berth) (c : Crane) (f : CraneRec → CraneRec) (ss : Station) : (b.modCrane c f).station ss = b.station ss := rfl
@[simp] theorem stand_modCrane (b : Berth) (c : Crane) (f : CraneRec → CraneRec) (cc : Crane) : (b.modCrane c f).stand cc = b.stand cc := rfl
@[simp] theorem craneClaim_modCrane (b : Berth) (c : Crane) (f : CraneRec → CraneRec) (cc : Crane) : (b.modCrane c f).craneClaim cc = b.craneClaim cc := rfl
@[simp] theorem gangClaim_modCrane (b : Berth) (c : Crane) (f : CraneRec → CraneRec) (gg : Gang) : (b.modCrane c f).gangClaim gg = b.gangClaim gg := rfl
@[simp] theorem ticket?_modCrane (b : Berth) (c : Crane) (f : CraneRec → CraneRec) (no : TicketNo) : (b.modCrane c f).ticket? no = b.ticket? no := rfl
@[simp] theorem task?_modCrane (b : Berth) (c : Crane) (f : CraneRec → CraneRec) (no : TaskNo) : (b.modCrane c f).task? no = b.task? no := rfl
@[simp] theorem now_modCrane (b : Berth) (c : Crane) (f : CraneRec → CraneRec) : (b.modCrane c f).now = b.now := rfl
@[simp] theorem nowSecs_modCrane (b : Berth) (c : Crane) (f : CraneRec → CraneRec) : (b.modCrane c f).nowSecs = b.nowSecs := rfl

/-! ### modGang -/

@[simp] theorem crane_modGang (b : Berth) (g : Gang) (f : GangRec → GangRec) (cc : Crane) : (b.modGang g f).crane cc = b.crane cc := rfl
@[simp] theorem station_modGang (b : Berth) (g : Gang) (f : GangRec → GangRec) (ss : Station) : (b.modGang g f).station ss = b.station ss := rfl
@[simp] theorem stand_modGang (b : Berth) (g : Gang) (f : GangRec → GangRec) (cc : Crane) : (b.modGang g f).stand cc = b.stand cc := rfl
@[simp] theorem craneClaim_modGang (b : Berth) (g : Gang) (f : GangRec → GangRec) (cc : Crane) : (b.modGang g f).craneClaim cc = b.craneClaim cc := rfl
@[simp] theorem gangClaim_modGang (b : Berth) (g : Gang) (f : GangRec → GangRec) (gg : Gang) : (b.modGang g f).gangClaim gg = b.gangClaim gg := rfl
@[simp] theorem ticket?_modGang (b : Berth) (g : Gang) (f : GangRec → GangRec) (no : TicketNo) : (b.modGang g f).ticket? no = b.ticket? no := rfl
@[simp] theorem task?_modGang (b : Berth) (g : Gang) (f : GangRec → GangRec) (no : TaskNo) : (b.modGang g f).task? no = b.task? no := rfl
@[simp] theorem now_modGang (b : Berth) (g : Gang) (f : GangRec → GangRec) : (b.modGang g f).now = b.now := rfl
@[simp] theorem nowSecs_modGang (b : Berth) (g : Gang) (f : GangRec → GangRec) : (b.modGang g f).nowSecs = b.nowSecs := rfl

/-! ### modTask -/

@[simp] theorem crane_modTask (b : Berth) (n : TaskNo) (f : Task → Task) (cc : Crane) : (b.modTask n f).crane cc = b.crane cc := rfl
@[simp] theorem gang_modTask (b : Berth) (n : TaskNo) (f : Task → Task) (gg : Gang) : (b.modTask n f).gang gg = b.gang gg := rfl
@[simp] theorem station_modTask (b : Berth) (n : TaskNo) (f : Task → Task) (ss : Station) : (b.modTask n f).station ss = b.station ss := rfl
@[simp] theorem stand_modTask (b : Berth) (n : TaskNo) (f : Task → Task) (cc : Crane) : (b.modTask n f).stand cc = b.stand cc := rfl
@[simp] theorem craneClaim_modTask (b : Berth) (n : TaskNo) (f : Task → Task) (cc : Crane) : (b.modTask n f).craneClaim cc = b.craneClaim cc := rfl
@[simp] theorem gangClaim_modTask (b : Berth) (n : TaskNo) (f : Task → Task) (gg : Gang) : (b.modTask n f).gangClaim gg = b.gangClaim gg := rfl
@[simp] theorem ticket?_modTask (b : Berth) (n : TaskNo) (f : Task → Task) (no : TicketNo) : (b.modTask n f).ticket? no = b.ticket? no := rfl
@[simp] theorem now_modTask (b : Berth) (n : TaskNo) (f : Task → Task) : (b.modTask n f).now = b.now := rfl
@[simp] theorem nowSecs_modTask (b : Berth) (n : TaskNo) (f : Task → Task) : (b.modTask n f).nowSecs = b.nowSecs := rfl

/-! ### setTaskState -/

@[simp] theorem crane_setTaskState (b : Berth) (n : TaskNo) (x : TaskState) (cc : Crane) : (b.setTaskState n x).crane cc = b.crane cc := rfl
@[simp] theorem gang_setTaskState (b : Berth) (n : TaskNo) (x : TaskState) (gg : Gang) : (b.setTaskState n x).gang gg = b.gang gg := rfl
@[simp] theorem station_setTaskState (b : Berth) (n : TaskNo) (x : TaskState) (ss : Station) : (b.setTaskState n x).station ss = b.station ss := rfl
@[simp] theorem stand_setTaskState (b : Berth) (n : TaskNo) (x : TaskState) (cc : Crane) : (b.setTaskState n x).stand cc = b.stand cc := rfl
@[simp] theorem craneClaim_setTaskState (b : Berth) (n : TaskNo) (x : TaskState) (cc : Crane) : (b.setTaskState n x).craneClaim cc = b.craneClaim cc := rfl
@[simp] theorem gangClaim_setTaskState (b : Berth) (n : TaskNo) (x : TaskState) (gg : Gang) : (b.setTaskState n x).gangClaim gg = b.gangClaim gg := rfl
@[simp] theorem ticket?_setTaskState (b : Berth) (n : TaskNo) (x : TaskState) (no : TicketNo) : (b.setTaskState n x).ticket? no = b.ticket? no := rfl
@[simp] theorem now_setTaskState (b : Berth) (n : TaskNo) (x : TaskState) : (b.setTaskState n x).now = b.now := rfl
@[simp] theorem nowSecs_setTaskState (b : Berth) (n : TaskNo) (x : TaskState) : (b.setTaskState n x).nowSecs = b.nowSecs := rfl

/-! ### dropTask -/

@[simp] theorem crane_dropTask (b : Berth) (n : TaskNo) (cc : Crane) : (b.dropTask n).crane cc = b.crane cc := rfl
@[simp] theorem gang_dropTask (b : Berth) (n : TaskNo) (gg : Gang) : (b.dropTask n).gang gg = b.gang gg := rfl
@[simp] theorem station_dropTask (b : Berth) (n : TaskNo) (ss : Station) : (b.dropTask n).station ss = b.station ss := rfl
@[simp] theorem stand_dropTask (b : Berth) (n : TaskNo) (cc : Crane) : (b.dropTask n).stand cc = b.stand cc := rfl
@[simp] theorem craneClaim_dropTask (b : Berth) (n : TaskNo) (cc : Crane) : (b.dropTask n).craneClaim cc = b.craneClaim cc := rfl
@[simp] theorem gangClaim_dropTask (b : Berth) (n : TaskNo) (gg : Gang) : (b.dropTask n).gangClaim gg = b.gangClaim gg := rfl
@[simp] theorem ticket?_dropTask (b : Berth) (n : TaskNo) (no : TicketNo) : (b.dropTask n).ticket? no = b.ticket? no := rfl
@[simp] theorem now_dropTask (b : Berth) (n : TaskNo) : (b.dropTask n).now = b.now := rfl
@[simp] theorem nowSecs_dropTask (b : Berth) (n : TaskNo) : (b.dropTask n).nowSecs = b.nowSecs := rfl

/-! ### createTask -/

@[simp] theorem crane_createTask (b : Berth) (n : TaskNo) (k : TaskKind) (x : Bay) (c : Crane) (l : Nat) (cc : Crane) : (b.createTask n k x c l).crane cc = b.crane cc := rfl
@[simp] theorem gang_createTask (b : Berth) (n : TaskNo) (k : TaskKind) (x : Bay) (c : Crane) (l : Nat) (gg : Gang) : (b.createTask n k x c l).gang gg = b.gang gg := rfl
@[simp] theorem station_createTask (b : Berth) (n : TaskNo) (k : TaskKind) (x : Bay) (c : Crane) (l : Nat) (ss : Station) : (b.createTask n k x c l).station ss = b.station ss := rfl
@[simp] theorem stand_createTask (b : Berth) (n : TaskNo) (k : TaskKind) (x : Bay) (c : Crane) (l : Nat) (cc : Crane) : (b.createTask n k x c l).stand cc = b.stand cc := rfl
@[simp] theorem craneClaim_createTask (b : Berth) (n : TaskNo) (k : TaskKind) (x : Bay) (c : Crane) (l : Nat) (cc : Crane) : (b.createTask n k x c l).craneClaim cc = b.craneClaim cc := rfl
@[simp] theorem gangClaim_createTask (b : Berth) (n : TaskNo) (k : TaskKind) (x : Bay) (c : Crane) (l : Nat) (gg : Gang) : (b.createTask n k x c l).gangClaim gg = b.gangClaim gg := rfl
@[simp] theorem ticket?_createTask (b : Berth) (n : TaskNo) (k : TaskKind) (x : Bay) (c : Crane) (l : Nat) (no : TicketNo) : (b.createTask n k x c l).ticket? no = b.ticket? no := rfl
@[simp] theorem now_createTask (b : Berth) (n : TaskNo) (k : TaskKind) (x : Bay) (c : Crane) (l : Nat) : (b.createTask n k x c l).now = b.now := rfl
@[simp] theorem nowSecs_createTask (b : Berth) (n : TaskNo) (k : TaskKind) (x : Bay) (c : Crane) (l : Nat) : (b.createTask n k x c l).nowSecs = b.nowSecs := rfl

/-! ### reserve -/

@[simp] theorem crane_reserve (b : Berth) (cc : Crane) : b.reserve.crane cc = b.crane cc := rfl
@[simp] theorem gang_reserve (b : Berth) (gg : Gang) : b.reserve.gang gg = b.gang gg := rfl
@[simp] theorem station_reserve (b : Berth) (ss : Station) : b.reserve.station ss = b.station ss := rfl
@[simp] theorem stand_reserve (b : Berth) (cc : Crane) : b.reserve.stand cc = b.stand cc := rfl
@[simp] theorem craneClaim_reserve (b : Berth) (cc : Crane) : b.reserve.craneClaim cc = b.craneClaim cc := rfl
@[simp] theorem gangClaim_reserve (b : Berth) (gg : Gang) : b.reserve.gangClaim gg = b.gangClaim gg := rfl
@[simp] theorem ticket?_reserve (b : Berth) (no : TicketNo) : b.reserve.ticket? no = b.ticket? no := rfl
@[simp] theorem task?_reserve (b : Berth) (no : TaskNo) : b.reserve.task? no = b.task? no := rfl
@[simp] theorem now_reserve (b : Berth) : b.reserve.now = b.now := rfl
@[simp] theorem nowSecs_reserve (b : Berth) : b.reserve.nowSecs = b.nowSecs := rfl

/-! ### unreserve -/

@[simp] theorem crane_unreserve (b : Berth) (cc : Crane) : b.unreserve.crane cc = b.crane cc := rfl
@[simp] theorem gang_unreserve (b : Berth) (gg : Gang) : b.unreserve.gang gg = b.gang gg := rfl
@[simp] theorem station_unreserve (b : Berth) (ss : Station) : b.unreserve.station ss = b.station ss := rfl
@[simp] theorem stand_unreserve (b : Berth) (cc : Crane) : b.unreserve.stand cc = b.stand cc := rfl
@[simp] theorem craneClaim_unreserve (b : Berth) (cc : Crane) : b.unreserve.craneClaim cc = b.craneClaim cc := rfl
@[simp] theorem gangClaim_unreserve (b : Berth) (gg : Gang) : b.unreserve.gangClaim gg = b.gangClaim gg := rfl
@[simp] theorem ticket?_unreserve (b : Berth) (no : TicketNo) : b.unreserve.ticket? no = b.ticket? no := rfl
@[simp] theorem task?_unreserve (b : Berth) (no : TaskNo) : b.unreserve.task? no = b.task? no := rfl
@[simp] theorem now_unreserve (b : Berth) : b.unreserve.now = b.now := rfl
@[simp] theorem nowSecs_unreserve (b : Berth) : b.unreserve.nowSecs = b.nowSecs := rfl

/-! ### unlist -/

@[simp] theorem crane_unlist (b : Berth) (g : Gang) (n : TaskNo) (cc : Crane) : (b.unlist g n).crane cc = b.crane cc := rfl
@[simp] theorem station_unlist (b : Berth) (g : Gang) (n : TaskNo) (ss : Station) : (b.unlist g n).station ss = b.station ss := rfl
@[simp] theorem stand_unlist (b : Berth) (g : Gang) (n : TaskNo) (cc : Crane) : (b.unlist g n).stand cc = b.stand cc := rfl
@[simp] theorem craneClaim_unlist (b : Berth) (g : Gang) (n : TaskNo) (cc : Crane) : (b.unlist g n).craneClaim cc = b.craneClaim cc := rfl
@[simp] theorem gangClaim_unlist (b : Berth) (g : Gang) (n : TaskNo) (gg : Gang) : (b.unlist g n).gangClaim gg = b.gangClaim gg := rfl
@[simp] theorem ticket?_unlist (b : Berth) (g : Gang) (n : TaskNo) (no : TicketNo) : (b.unlist g n).ticket? no = b.ticket? no := rfl
@[simp] theorem task?_unlist (b : Berth) (g : Gang) (n : TaskNo) (no : TaskNo) : (b.unlist g n).task? no = b.task? no := rfl
@[simp] theorem now_unlist (b : Berth) (g : Gang) (n : TaskNo) : (b.unlist g n).now = b.now := rfl
@[simp] theorem nowSecs_unlist (b : Berth) (g : Gang) (n : TaskNo) : (b.unlist g n).nowSecs = b.nowSecs := rfl

/-! ### modStation -/

@[simp] theorem crane_modStation (b : Berth) (s : Station) (f : StationRec → StationRec) (cc : Crane) : (b.modStation s f).crane cc = b.crane cc := rfl
@[simp] theorem gang_modStation (b : Berth) (s : Station) (f : StationRec → StationRec) (gg : Gang) : (b.modStation s f).gang gg = b.gang gg := rfl
@[simp] theorem stand_modStation (b : Berth) (s : Station) (f : StationRec → StationRec) (cc : Crane) : (b.modStation s f).stand cc = b.stand cc := rfl
@[simp] theorem craneClaim_modStation (b : Berth) (s : Station) (f : StationRec → StationRec) (cc : Crane) : (b.modStation s f).craneClaim cc = b.craneClaim cc := rfl
@[simp] theorem gangClaim_modStation (b : Berth) (s : Station) (f : StationRec → StationRec) (gg : Gang) : (b.modStation s f).gangClaim gg = b.gangClaim gg := rfl
@[simp] theorem ticket?_modStation (b : Berth) (s : Station) (f : StationRec → StationRec) (no : TicketNo) : (b.modStation s f).ticket? no = b.ticket? no := rfl
@[simp] theorem task?_modStation (b : Berth) (s : Station) (f : StationRec → StationRec) (no : TaskNo) : (b.modStation s f).task? no = b.task? no := rfl
@[simp] theorem now_modStation (b : Berth) (s : Station) (f : StationRec → StationRec) : (b.modStation s f).now = b.now := rfl
@[simp] theorem nowSecs_modStation (b : Berth) (s : Station) (f : StationRec → StationRec) : (b.modStation s f).nowSecs = b.nowSecs := rfl

/-! ### postCrane -/

@[simp] theorem crane_postCrane (b : Berth) (c : Crane) (o : OrderBody) (cc : Crane) : (b.postCrane c o).crane cc = b.crane cc := rfl
@[simp] theorem gang_postCrane (b : Berth) (c : Crane) (o : OrderBody) (gg : Gang) : (b.postCrane c o).gang gg = b.gang gg := rfl
@[simp] theorem station_postCrane (b : Berth) (c : Crane) (o : OrderBody) (ss : Station) : (b.postCrane c o).station ss = b.station ss := rfl
@[simp] theorem stand_postCrane (b : Berth) (c : Crane) (o : OrderBody) (cc : Crane) : (b.postCrane c o).stand cc = b.stand cc := rfl
@[simp] theorem craneClaim_postCrane (b : Berth) (c : Crane) (o : OrderBody) (cc : Crane) : (b.postCrane c o).craneClaim cc = b.craneClaim cc := rfl
@[simp] theorem gangClaim_postCrane (b : Berth) (c : Crane) (o : OrderBody) (gg : Gang) : (b.postCrane c o).gangClaim gg = b.gangClaim gg := rfl
@[simp] theorem ticket?_postCrane (b : Berth) (c : Crane) (o : OrderBody) (no : TicketNo) : (b.postCrane c o).ticket? no = b.ticket? no := rfl
@[simp] theorem task?_postCrane (b : Berth) (c : Crane) (o : OrderBody) (no : TaskNo) : (b.postCrane c o).task? no = b.task? no := rfl
@[simp] theorem now_postCrane (b : Berth) (c : Crane) (o : OrderBody) : (b.postCrane c o).now = b.now := rfl
@[simp] theorem nowSecs_postCrane (b : Berth) (c : Crane) (o : OrderBody) : (b.postCrane c o).nowSecs = b.nowSecs := rfl

/-! ### postGang -/

@[simp] theorem crane_postGang (b : Berth) (g : Gang) (o : OrderBody) (cc : Crane) : (b.postGang g o).crane cc = b.crane cc := rfl
@[simp] theorem gang_postGang (b : Berth) (g : Gang) (o : OrderBody) (gg : Gang) : (b.postGang g o).gang gg = b.gang gg := rfl
@[simp] theorem station_postGang (b : Berth) (g : Gang) (o : OrderBody) (ss : Station) : (b.postGang g o).station ss = b.station ss := rfl
@[simp] theorem stand_postGang (b : Berth) (g : Gang) (o : OrderBody) (cc : Crane) : (b.postGang g o).stand cc = b.stand cc := rfl
@[simp] theorem craneClaim_postGang (b : Berth) (g : Gang) (o : OrderBody) (cc : Crane) : (b.postGang g o).craneClaim cc = b.craneClaim cc := rfl
@[simp] theorem gangClaim_postGang (b : Berth) (g : Gang) (o : OrderBody) (gg : Gang) : (b.postGang g o).gangClaim gg = b.gangClaim gg := rfl
@[simp] theorem ticket?_postGang (b : Berth) (g : Gang) (o : OrderBody) (no : TicketNo) : (b.postGang g o).ticket? no = b.ticket? no := rfl
@[simp] theorem task?_postGang (b : Berth) (g : Gang) (o : OrderBody) (no : TaskNo) : (b.postGang g o).task? no = b.task? no := rfl
@[simp] theorem now_postGang (b : Berth) (g : Gang) (o : OrderBody) : (b.postGang g o).now = b.now := rfl
@[simp] theorem nowSecs_postGang (b : Berth) (g : Gang) (o : OrderBody) : (b.postGang g o).nowSecs = b.nowSecs := rfl

/-! ### postPromote -/

@[simp] theorem crane_postPromote (b : Berth) (o : OrderBody) (cc : Crane) : (b.postPromote o).crane cc = b.crane cc := rfl
@[simp] theorem gang_postPromote (b : Berth) (o : OrderBody) (gg : Gang) : (b.postPromote o).gang gg = b.gang gg := rfl
@[simp] theorem station_postPromote (b : Berth) (o : OrderBody) (ss : Station) : (b.postPromote o).station ss = b.station ss := rfl
@[simp] theorem stand_postPromote (b : Berth) (o : OrderBody) (cc : Crane) : (b.postPromote o).stand cc = b.stand cc := rfl
@[simp] theorem craneClaim_postPromote (b : Berth) (o : OrderBody) (cc : Crane) : (b.postPromote o).craneClaim cc = b.craneClaim cc := rfl
@[simp] theorem gangClaim_postPromote (b : Berth) (o : OrderBody) (gg : Gang) : (b.postPromote o).gangClaim gg = b.gangClaim gg := rfl
@[simp] theorem ticket?_postPromote (b : Berth) (o : OrderBody) (no : TicketNo) : (b.postPromote o).ticket? no = b.ticket? no := rfl
@[simp] theorem task?_postPromote (b : Berth) (o : OrderBody) (no : TaskNo) : (b.postPromote o).task? no = b.task? no := rfl
@[simp] theorem now_postPromote (b : Berth) (o : OrderBody) : (b.postPromote o).now = b.now := rfl
@[simp] theorem nowSecs_postPromote (b : Berth) (o : OrderBody) : (b.postPromote o).nowSecs = b.nowSecs := rfl

/-! ### setPromotes -/

@[simp] theorem crane_setPromotes (b : Berth) (l : List Order) (cc : Crane) : (b.setPromotes l).crane cc = b.crane cc := rfl
@[simp] theorem gang_setPromotes (b : Berth) (l : List Order) (gg : Gang) : (b.setPromotes l).gang gg = b.gang gg := rfl
@[simp] theorem station_setPromotes (b : Berth) (l : List Order) (ss : Station) : (b.setPromotes l).station ss = b.station ss := rfl
@[simp] theorem stand_setPromotes (b : Berth) (l : List Order) (cc : Crane) : (b.setPromotes l).stand cc = b.stand cc := rfl
@[simp] theorem craneClaim_setPromotes (b : Berth) (l : List Order) (cc : Crane) : (b.setPromotes l).craneClaim cc = b.craneClaim cc := rfl
@[simp] theorem gangClaim_setPromotes (b : Berth) (l : List Order) (gg : Gang) : (b.setPromotes l).gangClaim gg = b.gangClaim gg := rfl
@[simp] theorem ticket?_setPromotes (b : Berth) (l : List Order) (no : TicketNo) : (b.setPromotes l).ticket? no = b.ticket? no := rfl
@[simp] theorem task?_setPromotes (b : Berth) (l : List Order) (no : TaskNo) : (b.setPromotes l).task? no = b.task? no := rfl
@[simp] theorem now_setPromotes (b : Berth) (l : List Order) : (b.setPromotes l).now = b.now := rfl
@[simp] theorem nowSecs_setPromotes (b : Berth) (l : List Order) : (b.setPromotes l).nowSecs = b.nowSecs := rfl

/-! ### setSent -/

@[simp] theorem crane_setSent (b : Berth) (x : Option (List Byte)) (cc : Crane) : (b.setSent x).crane cc = b.crane cc := rfl
@[simp] theorem gang_setSent (b : Berth) (x : Option (List Byte)) (gg : Gang) : (b.setSent x).gang gg = b.gang gg := rfl
@[simp] theorem station_setSent (b : Berth) (x : Option (List Byte)) (ss : Station) : (b.setSent x).station ss = b.station ss := rfl
@[simp] theorem stand_setSent (b : Berth) (x : Option (List Byte)) (cc : Crane) : (b.setSent x).stand cc = b.stand cc := rfl
@[simp] theorem craneClaim_setSent (b : Berth) (x : Option (List Byte)) (cc : Crane) : (b.setSent x).craneClaim cc = b.craneClaim cc := rfl
@[simp] theorem gangClaim_setSent (b : Berth) (x : Option (List Byte)) (gg : Gang) : (b.setSent x).gangClaim gg = b.gangClaim gg := rfl
@[simp] theorem ticket?_setSent (b : Berth) (x : Option (List Byte)) (no : TicketNo) : (b.setSent x).ticket? no = b.ticket? no := rfl
@[simp] theorem task?_setSent (b : Berth) (x : Option (List Byte)) (no : TaskNo) : (b.setSent x).task? no = b.task? no := rfl
@[simp] theorem now_setSent (b : Berth) (x : Option (List Byte)) : (b.setSent x).now = b.now := rfl
@[simp] theorem nowSecs_setSent (b : Berth) (x : Option (List Byte)) : (b.setSent x).nowSecs = b.nowSecs := rfl

/-! ### setWindow -/

@[simp] theorem crane_setWindow (b : Berth) (x : Option Station) (cc : Crane) : (b.setWindow x).crane cc = b.crane cc := rfl
@[simp] theorem gang_setWindow (b : Berth) (x : Option Station) (gg : Gang) : (b.setWindow x).gang gg = b.gang gg := rfl
@[simp] theorem station_setWindow (b : Berth) (x : Option Station) (ss : Station) : (b.setWindow x).station ss = b.station ss := rfl
@[simp] theorem stand_setWindow (b : Berth) (x : Option Station) (cc : Crane) : (b.setWindow x).stand cc = b.stand cc := rfl
@[simp] theorem craneClaim_setWindow (b : Berth) (x : Option Station) (cc : Crane) : (b.setWindow x).craneClaim cc = b.craneClaim cc := rfl
@[simp] theorem gangClaim_setWindow (b : Berth) (x : Option Station) (gg : Gang) : (b.setWindow x).gangClaim gg = b.gangClaim gg := rfl
@[simp] theorem ticket?_setWindow (b : Berth) (x : Option Station) (no : TicketNo) : (b.setWindow x).ticket? no = b.ticket? no := rfl
@[simp] theorem task?_setWindow (b : Berth) (x : Option Station) (no : TaskNo) : (b.setWindow x).task? no = b.task? no := rfl
@[simp] theorem now_setWindow (b : Berth) (x : Option Station) : (b.setWindow x).now = b.now := rfl
@[simp] theorem nowSecs_setWindow (b : Berth) (x : Option Station) : (b.setWindow x).nowSecs = b.nowSecs := rfl

/-! ### emptyBoard -/

@[simp] theorem crane_emptyBoard (b : Berth) (cc : Crane) : b.emptyBoard.crane cc = b.crane cc := rfl
@[simp] theorem gang_emptyBoard (b : Berth) (gg : Gang) : b.emptyBoard.gang gg = b.gang gg := rfl
@[simp] theorem station_emptyBoard (b : Berth) (ss : Station) : b.emptyBoard.station ss = b.station ss := rfl
@[simp] theorem stand_emptyBoard (b : Berth) (cc : Crane) : b.emptyBoard.stand cc = b.stand cc := rfl
@[simp] theorem craneClaim_emptyBoard (b : Berth) (cc : Crane) : b.emptyBoard.craneClaim cc = b.craneClaim cc := rfl
@[simp] theorem gangClaim_emptyBoard (b : Berth) (gg : Gang) : b.emptyBoard.gangClaim gg = b.gangClaim gg := rfl
@[simp] theorem ticket?_emptyBoard (b : Berth) (no : TicketNo) : b.emptyBoard.ticket? no = b.ticket? no := rfl
@[simp] theorem task?_emptyBoard (b : Berth) (no : TaskNo) : b.emptyBoard.task? no = b.task? no := rfl
@[simp] theorem now_emptyBoard (b : Berth) : b.emptyBoard.now = b.now := rfl
@[simp] theorem nowSecs_emptyBoard (b : Berth) : b.emptyBoard.nowSecs = b.nowSecs := rfl

/-! ### modStand -/

@[simp] theorem crane_modStand (b : Berth) (c : Crane) (f : List Truck → List Truck) (cc : Crane) : (b.modStand c f).crane cc = b.crane cc := rfl
@[simp] theorem gang_modStand (b : Berth) (c : Crane) (f : List Truck → List Truck) (gg : Gang) : (b.modStand c f).gang gg = b.gang gg := rfl
@[simp] theorem station_modStand (b : Berth) (c : Crane) (f : List Truck → List Truck) (ss : Station) : (b.modStand c f).station ss = b.station ss := rfl
@[simp] theorem craneClaim_modStand (b : Berth) (c : Crane) (f : List Truck → List Truck) (cc : Crane) : (b.modStand c f).craneClaim cc = b.craneClaim cc := rfl
@[simp] theorem gangClaim_modStand (b : Berth) (c : Crane) (f : List Truck → List Truck) (gg : Gang) : (b.modStand c f).gangClaim gg = b.gangClaim gg := rfl
@[simp] theorem ticket?_modStand (b : Berth) (c : Crane) (f : List Truck → List Truck) (no : TicketNo) : (b.modStand c f).ticket? no = b.ticket? no := rfl
@[simp] theorem task?_modStand (b : Berth) (c : Crane) (f : List Truck → List Truck) (no : TaskNo) : (b.modStand c f).task? no = b.task? no := rfl
@[simp] theorem now_modStand (b : Berth) (c : Crane) (f : List Truck → List Truck) : (b.modStand c f).now = b.now := rfl
@[simp] theorem nowSecs_modStand (b : Berth) (c : Crane) (f : List Truck → List Truck) : (b.modStand c f).nowSecs = b.nowSecs := rfl

/-! ### modEntries -/

@[simp] theorem crane_modEntries (b : Berth) (c : Crane) (p : Truck → Bool) (f : Truck → Truck) (cc : Crane) : (b.modEntries c p f).crane cc = b.crane cc := rfl
@[simp] theorem gang_modEntries (b : Berth) (c : Crane) (p : Truck → Bool) (f : Truck → Truck) (gg : Gang) : (b.modEntries c p f).gang gg = b.gang gg := rfl
@[simp] theorem station_modEntries (b : Berth) (c : Crane) (p : Truck → Bool) (f : Truck → Truck) (ss : Station) : (b.modEntries c p f).station ss = b.station ss := rfl
@[simp] theorem craneClaim_modEntries (b : Berth) (c : Crane) (p : Truck → Bool) (f : Truck → Truck) (cc : Crane) : (b.modEntries c p f).craneClaim cc = b.craneClaim cc := rfl
@[simp] theorem gangClaim_modEntries (b : Berth) (c : Crane) (p : Truck → Bool) (f : Truck → Truck) (gg : Gang) : (b.modEntries c p f).gangClaim gg = b.gangClaim gg := rfl
@[simp] theorem ticket?_modEntries (b : Berth) (c : Crane) (p : Truck → Bool) (f : Truck → Truck) (no : TicketNo) : (b.modEntries c p f).ticket? no = b.ticket? no := rfl
@[simp] theorem task?_modEntries (b : Berth) (c : Crane) (p : Truck → Bool) (f : Truck → Truck) (no : TaskNo) : (b.modEntries c p f).task? no = b.task? no := rfl
@[simp] theorem now_modEntries (b : Berth) (c : Crane) (p : Truck → Bool) (f : Truck → Truck) : (b.modEntries c p f).now = b.now := rfl
@[simp] theorem nowSecs_modEntries (b : Berth) (c : Crane) (p : Truck → Bool) (f : Truck → Truck) : (b.modEntries c p f).nowSecs = b.nowSecs := rfl

/-! ### owePromotion -/

@[simp] theorem crane_owePromotion (b : Berth) (cc : Crane) : b.owePromotion.crane cc = b.crane cc := rfl
@[simp] theorem gang_owePromotion (b : Berth) (gg : Gang) : b.owePromotion.gang gg = b.gang gg := rfl
@[simp] theorem station_owePromotion (b : Berth) (ss : Station) : b.owePromotion.station ss = b.station ss := rfl
@[simp] theorem stand_owePromotion (b : Berth) (cc : Crane) : b.owePromotion.stand cc = b.stand cc := rfl
@[simp] theorem craneClaim_owePromotion (b : Berth) (cc : Crane) : b.owePromotion.craneClaim cc = b.craneClaim cc := rfl
@[simp] theorem gangClaim_owePromotion (b : Berth) (gg : Gang) : b.owePromotion.gangClaim gg = b.gangClaim gg := rfl
@[simp] theorem ticket?_owePromotion (b : Berth) (no : TicketNo) : b.owePromotion.ticket? no = b.ticket? no := rfl
@[simp] theorem task?_owePromotion (b : Berth) (no : TaskNo) : b.owePromotion.task? no = b.task? no := rfl
@[simp] theorem now_owePromotion (b : Berth) : b.owePromotion.now = b.now := rfl
@[simp] theorem nowSecs_owePromotion (b : Berth) : b.owePromotion.nowSecs = b.nowSecs := rfl

/-! ### setCraneClaim -/

@[simp] theorem crane_setCraneClaim (b : Berth) (c : Crane) (x : Option Bay) (cc : Crane) : (b.setCraneClaim c x).crane cc = b.crane cc := rfl
@[simp] theorem gang_setCraneClaim (b : Berth) (c : Crane) (x : Option Bay) (gg : Gang) : (b.setCraneClaim c x).gang gg = b.gang gg := rfl
@[simp] theorem station_setCraneClaim (b : Berth) (c : Crane) (x : Option Bay) (ss : Station) : (b.setCraneClaim c x).station ss = b.station ss := rfl
@[simp] theorem stand_setCraneClaim (b : Berth) (c : Crane) (x : Option Bay) (cc : Crane) : (b.setCraneClaim c x).stand cc = b.stand cc := rfl
@[simp] theorem gangClaim_setCraneClaim (b : Berth) (c : Crane) (x : Option Bay) (gg : Gang) : (b.setCraneClaim c x).gangClaim gg = b.gangClaim gg := rfl
@[simp] theorem ticket?_setCraneClaim (b : Berth) (c : Crane) (x : Option Bay) (no : TicketNo) : (b.setCraneClaim c x).ticket? no = b.ticket? no := rfl
@[simp] theorem task?_setCraneClaim (b : Berth) (c : Crane) (x : Option Bay) (no : TaskNo) : (b.setCraneClaim c x).task? no = b.task? no := rfl
@[simp] theorem now_setCraneClaim (b : Berth) (c : Crane) (x : Option Bay) : (b.setCraneClaim c x).now = b.now := rfl
@[simp] theorem nowSecs_setCraneClaim (b : Berth) (c : Crane) (x : Option Bay) : (b.setCraneClaim c x).nowSecs = b.nowSecs := rfl

/-! ### setGangClaim -/

@[simp] theorem crane_setGangClaim (b : Berth) (g : Gang) (x : Option GangClaim) (cc : Crane) : (b.setGangClaim g x).crane cc = b.crane cc := rfl
@[simp] theorem gang_setGangClaim (b : Berth) (g : Gang) (x : Option GangClaim) (gg : Gang) : (b.setGangClaim g x).gang gg = b.gang gg := rfl
@[simp] theorem station_setGangClaim (b : Berth) (g : Gang) (x : Option GangClaim) (ss : Station) : (b.setGangClaim g x).station ss = b.station ss := rfl
@[simp] theorem stand_setGangClaim (b : Berth) (g : Gang) (x : Option GangClaim) (cc : Crane) : (b.setGangClaim g x).stand cc = b.stand cc := rfl
@[simp] theorem craneClaim_setGangClaim (b : Berth) (g : Gang) (x : Option GangClaim) (cc : Crane) : (b.setGangClaim g x).craneClaim cc = b.craneClaim cc := rfl
@[simp] theorem ticket?_setGangClaim (b : Berth) (g : Gang) (x : Option GangClaim) (no : TicketNo) : (b.setGangClaim g x).ticket? no = b.ticket? no := rfl
@[simp] theorem task?_setGangClaim (b : Berth) (g : Gang) (x : Option GangClaim) (no : TaskNo) : (b.setGangClaim g x).task? no = b.task? no := rfl
@[simp] theorem now_setGangClaim (b : Berth) (g : Gang) (x : Option GangClaim) : (b.setGangClaim g x).now = b.now := rfl
@[simp] theorem nowSecs_setGangClaim (b : Berth) (g : Gang) (x : Option GangClaim) : (b.setGangClaim g x).nowSecs = b.nowSecs := rfl

/-! ### removeWaiter -/

@[simp] theorem crane_removeWaiter (b : Berth) (g : Gang) (cc : Crane) : (b.removeWaiter g).crane cc = b.crane cc := rfl
@[simp] theorem gang_removeWaiter (b : Berth) (g : Gang) (gg : Gang) : (b.removeWaiter g).gang gg = b.gang gg := rfl
@[simp] theorem station_removeWaiter (b : Berth) (g : Gang) (ss : Station) : (b.removeWaiter g).station ss = b.station ss := rfl
@[simp] theorem stand_removeWaiter (b : Berth) (g : Gang) (cc : Crane) : (b.removeWaiter g).stand cc = b.stand cc := rfl
@[simp] theorem craneClaim_removeWaiter (b : Berth) (g : Gang) (cc : Crane) : (b.removeWaiter g).craneClaim cc = b.craneClaim cc := rfl
@[simp] theorem gangClaim_removeWaiter (b : Berth) (g : Gang) (gg : Gang) : (b.removeWaiter g).gangClaim gg = b.gangClaim gg := rfl
@[simp] theorem ticket?_removeWaiter (b : Berth) (g : Gang) (no : TicketNo) : (b.removeWaiter g).ticket? no = b.ticket? no := rfl
@[simp] theorem task?_removeWaiter (b : Berth) (g : Gang) (no : TaskNo) : (b.removeWaiter g).task? no = b.task? no := rfl
@[simp] theorem now_removeWaiter (b : Berth) (g : Gang) : (b.removeWaiter g).now = b.now := rfl
@[simp] theorem nowSecs_removeWaiter (b : Berth) (g : Gang) : (b.removeWaiter g).nowSecs = b.nowSecs := rfl

/-! ### raise -/

@[simp] theorem crane_raise (b : Berth) (x : BitVec 16) (cc : Crane) : (b.raise x).crane cc = b.crane cc := rfl
@[simp] theorem gang_raise (b : Berth) (x : BitVec 16) (gg : Gang) : (b.raise x).gang gg = b.gang gg := rfl
@[simp] theorem station_raise (b : Berth) (x : BitVec 16) (ss : Station) : (b.raise x).station ss = b.station ss := rfl
@[simp] theorem stand_raise (b : Berth) (x : BitVec 16) (cc : Crane) : (b.raise x).stand cc = b.stand cc := rfl
@[simp] theorem craneClaim_raise (b : Berth) (x : BitVec 16) (cc : Crane) : (b.raise x).craneClaim cc = b.craneClaim cc := rfl
@[simp] theorem gangClaim_raise (b : Berth) (x : BitVec 16) (gg : Gang) : (b.raise x).gangClaim gg = b.gangClaim gg := rfl
@[simp] theorem ticket?_raise (b : Berth) (x : BitVec 16) (no : TicketNo) : (b.raise x).ticket? no = b.ticket? no := rfl
@[simp] theorem task?_raise (b : Berth) (x : BitVec 16) (no : TaskNo) : (b.raise x).task? no = b.task? no := rfl
@[simp] theorem now_raise (b : Berth) (x : BitVec 16) : (b.raise x).now = b.now := rfl
@[simp] theorem nowSecs_raise (b : Berth) (x : BitVec 16) : (b.raise x).nowSecs = b.nowSecs := rfl

/-! ### evalLevels -/

@[simp] theorem crane_evalLevels (b : Berth) (cc : Crane) : b.evalLevels.crane cc = b.crane cc := rfl
@[simp] theorem gang_evalLevels (b : Berth) (gg : Gang) : b.evalLevels.gang gg = b.gang gg := rfl
@[simp] theorem station_evalLevels (b : Berth) (ss : Station) : b.evalLevels.station ss = b.station ss := rfl
@[simp] theorem stand_evalLevels (b : Berth) (cc : Crane) : b.evalLevels.stand cc = b.stand cc := rfl
@[simp] theorem craneClaim_evalLevels (b : Berth) (cc : Crane) : b.evalLevels.craneClaim cc = b.craneClaim cc := rfl
@[simp] theorem gangClaim_evalLevels (b : Berth) (gg : Gang) : b.evalLevels.gangClaim gg = b.gangClaim gg := rfl
@[simp] theorem ticket?_evalLevels (b : Berth) (no : TicketNo) : b.evalLevels.ticket? no = b.ticket? no := rfl
@[simp] theorem task?_evalLevels (b : Berth) (no : TaskNo) : b.evalLevels.task? no = b.task? no := rfl
@[simp] theorem now_evalLevels (b : Berth) : b.evalLevels.now = b.now := rfl
@[simp] theorem nowSecs_evalLevels (b : Berth) : b.evalLevels.nowSecs = b.nowSecs := rfl

/-! ### consult -/

@[simp] theorem crane_consult (b : Berth) (cc : Crane) : b.consult.crane cc = b.crane cc := rfl
@[simp] theorem gang_consult (b : Berth) (gg : Gang) : b.consult.gang gg = b.gang gg := rfl
@[simp] theorem station_consult (b : Berth) (ss : Station) : b.consult.station ss = b.station ss := rfl
@[simp] theorem stand_consult (b : Berth) (cc : Crane) : b.consult.stand cc = b.stand cc := rfl
@[simp] theorem craneClaim_consult (b : Berth) (cc : Crane) : b.consult.craneClaim cc = b.craneClaim cc := rfl
@[simp] theorem gangClaim_consult (b : Berth) (gg : Gang) : b.consult.gangClaim gg = b.gangClaim gg := rfl
@[simp] theorem ticket?_consult (b : Berth) (no : TicketNo) : b.consult.ticket? no = b.ticket? no := rfl
@[simp] theorem task?_consult (b : Berth) (no : TaskNo) : b.consult.task? no = b.task? no := rfl
@[simp] theorem now_consult (b : Berth) : b.consult.now = b.now := rfl
@[simp] theorem nowSecs_consult (b : Berth) : b.consult.nowSecs = b.nowSecs := rfl

/-! ### setTime -/

@[simp] theorem crane_setTime (b : Berth) (q : QTime) (cc : Crane) : (b.setTime q).crane cc = b.crane cc := rfl
@[simp] theorem gang_setTime (b : Berth) (q : QTime) (gg : Gang) : (b.setTime q).gang gg = b.gang gg := rfl
@[simp] theorem station_setTime (b : Berth) (q : QTime) (ss : Station) : (b.setTime q).station ss = b.station ss := rfl
@[simp] theorem stand_setTime (b : Berth) (q : QTime) (cc : Crane) : (b.setTime q).stand cc = b.stand cc := rfl
@[simp] theorem craneClaim_setTime (b : Berth) (q : QTime) (cc : Crane) : (b.setTime q).craneClaim cc = b.craneClaim cc := rfl
@[simp] theorem gangClaim_setTime (b : Berth) (q : QTime) (gg : Gang) : (b.setTime q).gangClaim gg = b.gangClaim gg := rfl
@[simp] theorem ticket?_setTime (b : Berth) (q : QTime) (no : TicketNo) : (b.setTime q).ticket? no = b.ticket? no := rfl
@[simp] theorem task?_setTime (b : Berth) (q : QTime) (no : TaskNo) : (b.setTime q).task? no = b.task? no := rfl

/-! ### setRunning -/

@[simp] theorem crane_setRunning (b : Berth) (r : Bool) (cc : Crane) : (b.setRunning r).crane cc = b.crane cc := rfl
@[simp] theorem gang_setRunning (b : Berth) (r : Bool) (gg : Gang) : (b.setRunning r).gang gg = b.gang gg := rfl
@[simp] theorem station_setRunning (b : Berth) (r : Bool) (ss : Station) : (b.setRunning r).station ss = b.station ss := rfl
@[simp] theorem stand_setRunning (b : Berth) (r : Bool) (cc : Crane) : (b.setRunning r).stand cc = b.stand cc := rfl
@[simp] theorem craneClaim_setRunning (b : Berth) (r : Bool) (cc : Crane) : (b.setRunning r).craneClaim cc = b.craneClaim cc := rfl
@[simp] theorem gangClaim_setRunning (b : Berth) (r : Bool) (gg : Gang) : (b.setRunning r).gangClaim gg = b.gangClaim gg := rfl
@[simp] theorem ticket?_setRunning (b : Berth) (r : Bool) (no : TicketNo) : (b.setRunning r).ticket? no = b.ticket? no := rfl
@[simp] theorem task?_setRunning (b : Berth) (r : Bool) (no : TaskNo) : (b.setRunning r).task? no = b.task? no := rfl
@[simp] theorem now_setRunning (b : Berth) (r : Bool) : (b.setRunning r).now = b.now := rfl
@[simp] theorem nowSecs_setRunning (b : Berth) (r : Bool) : (b.setRunning r).nowSecs = b.nowSecs := rfl

/-! ### setMode -/

@[simp] theorem crane_setMode (b : Berth) (m : Mode) (cc : Crane) : (b.setMode m).crane cc = b.crane cc := rfl
@[simp] theorem gang_setMode (b : Berth) (m : Mode) (gg : Gang) : (b.setMode m).gang gg = b.gang gg := rfl
@[simp] theorem station_setMode (b : Berth) (m : Mode) (ss : Station) : (b.setMode m).station ss = b.station ss := rfl
@[simp] theorem stand_setMode (b : Berth) (m : Mode) (cc : Crane) : (b.setMode m).stand cc = b.stand cc := rfl
@[simp] theorem craneClaim_setMode (b : Berth) (m : Mode) (cc : Crane) : (b.setMode m).craneClaim cc = b.craneClaim cc := rfl
@[simp] theorem gangClaim_setMode (b : Berth) (m : Mode) (gg : Gang) : (b.setMode m).gangClaim gg = b.gangClaim gg := rfl
@[simp] theorem ticket?_setMode (b : Berth) (m : Mode) (no : TicketNo) : (b.setMode m).ticket? no = b.ticket? no := rfl
@[simp] theorem task?_setMode (b : Berth) (m : Mode) (no : TaskNo) : (b.setMode m).task? no = b.task? no := rfl
@[simp] theorem now_setMode (b : Berth) (m : Mode) : (b.setMode m).now = b.now := rfl
@[simp] theorem nowSecs_setMode (b : Berth) (m : Mode) : (b.setMode m).nowSecs = b.nowSecs := rfl

end Sys2Proof.Machine.Berth
end

