-- ==== Sys2Proof/Laws/Ops.lean ====
section
/-! SUPPORT. What the named operations of `Machine/Ops.lean` do, said once: one place of a store after a change of one
place, the lists that keep an order, and the ticket that a number names after an update. -/

namespace Sys2Proof.Machine

/-! ## One place of a store -/

@[simp] theorem modAt_same {α : Type} {n : Nat} (v : Vector α n) (i : Fin n) (f : α → α) : (modAt v i f)[i] = f v[i] := by
  simp [modAt]

theorem modAt_other {α : Type} {n : Nat} (v : Vector α n) (i j : Fin n) (f : α → α) (h : j ≠ i) :
    (modAt v i f)[j] = v[j] := by
  have : i.val ≠ j.val := fun e => h (Fin.ext e.symm)
  simp [modAt, this]

theorem modAt_get {α : Type} {n : Nat} (v : Vector α n) (i j : Fin n) (f : α → α) :
    (modAt v i f)[j] = if j = i then f v[i] else v[j] := by
  split
  · next h => subst h; exact modAt_same ..
  · next h => exact modAt_other v i j f h

namespace Berth

@[simp] theorem crane_modCrane (b : Berth) (c : Crane) (f : CraneRec → CraneRec) : (b.modCrane c f).crane c = f (b.crane c) :=
  modAt_same ..

theorem crane_modCrane_other (b : Berth) (c d : Crane) (f : CraneRec → CraneRec) (h : d ≠ c) :
    (b.modCrane c f).crane d = b.crane d := modAt_other _ _ _ _ h

@[simp] theorem gang_modGang (b : Berth) (g : Gang) (f : GangRec → GangRec) : (b.modGang g f).gang g = f (b.gang g) :=
  modAt_same ..

theorem gang_modGang_other (b : Berth) (g h : Gang) (f : GangRec → GangRec) (e : h ≠ g) :
    (b.modGang g f).gang h = b.gang h := modAt_other _ _ _ _ e

@[simp] theorem station_modStation (b : Berth) (s : Station) (f : StationRec → StationRec) :
    (b.modStation s f).station s = f (b.station s) := modAt_same ..

theorem station_modStation_other (b : Berth) (s t : Station) (f : StationRec → StationRec) (h : t ≠ s) :
    (b.modStation s f).station t = b.station t := modAt_other _ _ _ _ h

@[simp] theorem stand_modStand (b : Berth) (c : Crane) (f : List Truck → List Truck) : (b.modStand c f).stand c = f (b.stand c) :=
  modAt_same ..

theorem stand_modStand_other (b : Berth) (c d : Crane) (f : List Truck → List Truck) (h : d ≠ c) :
    (b.modStand c f).stand d = b.stand d := modAt_other _ _ _ _ h

theorem stand_modEntries_other (b : Berth) (c d : Crane) (p : Truck → Bool) (f : Truck → Truck) (h : d ≠ c) :
    (b.modEntries c p f).stand d = b.stand d := stand_modStand_other _ _ _ _ h

@[simp] theorem craneClaim_setCraneClaim (b : Berth) (c : Crane) (x : Option Bay) : (b.setCraneClaim c x).craneClaim c = x :=
  modAt_same ..

theorem craneClaim_setCraneClaim_other (b : Berth) (c d : Crane) (x : Option Bay) (h : d ≠ c) :
    (b.setCraneClaim c x).craneClaim d = b.craneClaim d := modAt_other _ _ _ _ h

@[simp] theorem gangClaim_setGangClaim (b : Berth) (g : Gang) (x : Option GangClaim) : (b.setGangClaim g x).gangClaim g = x :=
  modAt_same ..

theorem gangClaim_setGangClaim_other (b : Berth) (g h : Gang) (x : Option GangClaim) (e : h ≠ g) :
    (b.setGangClaim g x).gangClaim h = b.gangClaim h := modAt_other _ _ _ _ e

/-! ## Tickets -/

theorem modTicketsIf_tickets (b : Berth) (p : Ticket → Bool) (f : Ticket → Ticket) :
    (b.modTicketsIf p f).tickets = b.tickets.map fun t => if p t then f t else t := rfl

/-- An update that keeps each number keeps the list of numbers. -/
theorem modTicketsIf_numbers (b : Berth) (p : Ticket → Bool) (f : Ticket → Ticket) (h : ∀ t, (f t).number = t.number) :
    (b.modTicketsIf p f).tickets.map (·.number) = b.tickets.map (·.number) := by
  simp only [modTicketsIf_tickets, List.map_map]
  refine List.map_congr_left fun t _ => ?_
  simp only [Function.comp]
  split
  · exact h t
  · rfl

/-- The ticket a number names after an update of the tickets that meet a test. -/
theorem ticket?_modTicketsIf (b : Berth) (p : Ticket → Bool) (f : Ticket → Ticket) (h : ∀ t, (f t).number = t.number)
    (n : TicketNo) : (b.modTicketsIf p f).ticket? n = (b.ticket? n).map fun t => if p t then f t else t := by
  simp only [ticket?, modTicketsIf_tickets, List.find?_map]
  congr 2
  funext t
  simp only [Function.comp]
  split
  · rw [h t]
  · rfl

theorem ticket?_number {b : Berth} {n : TicketNo} {t : Ticket} (h : b.ticket? n = some t) : t.number = n := by
  simpa using List.find?_some h

theorem ticket?_mem {b : Berth} {n : TicketNo} {t : Ticket} (h : b.ticket? n = some t) : t ∈ b.tickets :=
  List.mem_of_find?_eq_some h

@[simp] theorem ticket?_modTicket_same (b : Berth) (n : TicketNo) (f : Ticket → Ticket) (h : ∀ t, (f t).number = t.number) :
    (b.modTicket n f).ticket? n = (b.ticket? n).map f := by
  rw [modTicket, ticket?_modTicketsIf _ _ _ h]
  cases e : b.ticket? n with
  | none => rfl
  | some t => simp [ticket?_number e]

theorem ticket?_modTicket_other (b : Berth) (n m : TicketNo) (f : Ticket → Ticket) (h : ∀ t, (f t).number = t.number)
    (e : m ≠ n) : (b.modTicket n f).ticket? m = b.ticket? m := by
  rw [modTicket, ticket?_modTicketsIf _ _ _ h]
  cases k : b.ticket? m with
  | none => rfl
  | some t => simp [ticket?_number k, e]

@[simp] theorem ticket?_dropTicket_same (b : Berth) (n : TicketNo) : (b.dropTicket n).ticket? n = none := by
  simp [dropTicket, ticket?]

theorem ticket?_dropTicket_other (b : Berth) (n m : TicketNo) (e : m ≠ n) : (b.dropTicket n).ticket? m = b.ticket? m := by
  simp only [dropTicket, ticket?, List.find?_filter]
  congr 1
  funext t
  by_cases h : t.number = m <;> simp [h, e]

end Berth

/-! ## Ordered lists -/

@[simp] theorem insertBy_length {α : Type} (le : α → α → Bool) (x : α) (l : List α) :
    (insertBy le x l).length = l.length + 1 := by
  induction l with
  | nil => rfl
  | cons y ys ih => simp only [insertBy]; split <;> simp [ih]

theorem mem_insertBy {α : Type} (le : α → α → Bool) (x y : α) (l : List α) : y ∈ insertBy le x l ↔ y = x ∨ y ∈ l := by
  induction l with
  | nil => simp [insertBy]
  | cons z zs ih =>
    simp only [insertBy]
    split
    · simp
    · simp only [List.mem_cons, ih]; tauto

/-- Insertion keeps a strict ascending order of keys, where the key is new. -/
theorem insertBy_pairwise {α : Type} (key : α → Nat) (x : α) (l : List α) (h : (l.map key).Pairwise (· < ·))
    (new : ∀ y ∈ l, key y ≠ key x) : ((insertBy (fun a b => decide (key a ≤ key b)) x l).map key).Pairwise (· < ·) := by
  induction l with
  | nil => simp [insertBy]
  | cons y ys ih =>
    simp only [List.map_cons, List.pairwise_cons, List.mem_map] at h
    have hy : key y ≠ key x := new y (by simp)
    simp only [insertBy]
    split
    · next hle =>
      have hle : key x ≤ key y := by simpa using hle
      simp only [List.map_cons, List.pairwise_cons, List.mem_map, List.mem_cons]
      refine ⟨?_, h.1, h.2⟩
      rintro k (rfl | ⟨z, hz, rfl⟩)
      · omega
      · have := h.1 _ ⟨z, hz, rfl⟩; omega
    · next hle =>
      have hle : ¬ key x ≤ key y := by simpa using hle
      simp only [List.map_cons, List.pairwise_cons, List.mem_map]
      refine ⟨?_, ih h.2 fun z hz => new z (by simp [hz])⟩
      rintro k ⟨z, hz, rfl⟩
      rcases (mem_insertBy _ _ _ _).1 hz with rfl | hz
      · omega
      · exact h.1 _ ⟨z, hz, rfl⟩

theorem mem_sortBy {α : Type} (le : α → α → Bool) (y : α) (l : List α) : y ∈ sortBy le l ↔ y ∈ l := by
  induction l with
  | nil => simp [sortBy]
  | cons x xs ih =>
    have : sortBy le (x :: xs) = insertBy le x (sortBy le xs) := rfl
    rw [this, mem_insertBy, ih]; simp

/-- What `firstLeast` gives is a member. -/
theorem firstLeast_mem {α : Type} (lt : α → α → Bool) {l : List α} {x : α} (h : firstLeast lt l = some x) : x ∈ l := by
  induction l generalizing x with
  | nil => simp [firstLeast] at h
  | cons y ys ih =>
    simp only [firstLeast] at h
    split at h
    · simp only [Option.some.injEq] at h; simp [h]
    · next z hz =>
      split at h <;> simp only [Option.some.injEq] at h
      · subst h; exact List.mem_cons_of_mem _ (ih hz)
      · simp [h]

theorem firstLeast_none {α : Type} (lt : α → α → Bool) {l : List α} : firstLeast lt l = none ↔ l = [] := by
  cases l with
  | nil => simp [firstLeast]
  | cons x xs => simp only [firstLeast, reduceCtorEq, iff_false]; split <;> [skip; split] <;> simp

/-- An element that goes before every other one of the list is what `firstLeast` gives. -/
theorem firstLeast_eq {α : Type} (lt : α → α → Bool) {l : List α} {k : α} (irrefl : lt k k = false) (mem : k ∈ l)
    (least : ∀ x ∈ l, x ≠ k → lt k x = true ∧ lt x k = false) : firstLeast lt l = some k := by
  induction l with
  | nil => exact absurd mem List.not_mem_nil
  | cons x xs ih =>
    simp only [firstLeast]
    by_cases hx : k ∈ xs
    · rw [ih hx fun y hy => least y (List.mem_cons_of_mem _ hy)]
      by_cases e : x = k
      · subst e; simp [irrefl]
      · simp [(least x (by simp) e).1]
    · have e : k = x := by simpa [hx] using mem
      subst e
      cases h : firstLeast lt xs with
      | none => rfl
      | some y =>
        have hy := firstLeast_mem lt h
        have : y ≠ k := fun e => hx (e ▸ hy)
        simp [(least y (List.mem_cons_of_mem _ hy) this).2]

theorem mem_allCranes (c : Crane) : c ∈ allCranes := by revert c; decide

theorem mem_allGangs (g : Gang) : g ∈ allGangs := by revert g; decide

/-- The free slot that a new task takes names no task and lies below the bound. -/
theorem lowestFree_spec (tasks : List Task) (fuel n : Nat) (k : TaskNo) (bound : n + fuel ≤ 2 ^ 16)
    (h : lowestFree tasks fuel n = some k) :
    n ≤ k.toNat ∧ k.toNat < n + fuel ∧ ∀ t ∈ tasks, t.number ≠ k := by
  induction fuel generalizing n with
  | zero => simp [lowestFree] at h
  | succ fuel ih =>
    simp only [lowestFree] at h
    split at h
    · obtain ⟨h1, h2, h3⟩ := ih (n + 1) (by omega) h
      exact ⟨by omega, by omega, h3⟩
    · next hn =>
      simp only [Option.some.injEq] at h
      have hk : k.toNat = n := by rw [← h, BitVec.toNat_ofNat]; omega
      refine ⟨by omega, by omega, fun t ht e => hn ?_⟩
      simp only [List.any_eq_true, beq_iff_eq]
      exact ⟨t, ht, by rw [e, hk]⟩

end Sys2Proof.Machine
end

