-- ==== Sys2Proof/Laws/Settle.lean ====
section
/-! SUPPORT. What the parts of the end of a change leave as they were: `Berth.fixed` gathers the records that no pass,
promotion, assignment or sweep writes. -/

namespace Sys2Proof.Machine

/-- The records that nothing which follows a change writes. -/
def Berth.fixed (b : Berth) : Mode × Params × Sizes × Clock × BitVec 16 × Vector StationRec 16 × Option Station ×
    BitVec 6 × List Rule × Vector (Option GangClaim) 4 × List (Gang × Bay) × List TicketNo :=
  (b.mode, b.params, b.sizes, b.clock, b.nu.enable, b.qlc.stations, b.qlc.window, b.shu.openLanes, b.shu.rules,
    b.bct.gangClaims, b.bct.waiters, b.tickets.map (·.number))

/-- A fold of steps that keep something keeps it. -/
theorem foldl_keeps {α β γ : Type} (g : β → γ) (f : β → α → β) (h : ∀ b x, g (f b x) = g b) (l : List α) (b : β) :
    g (l.foldl f b) = g b := by
  induction l generalizing b with
  | nil => rfl
  | cons x xs ih => rw [List.foldl_cons, ih, h]

/-! ## Updates -/

theorem modTicketsIf_fixed (b : Berth) (p : Ticket → Bool) (f : Ticket → Ticket) (h : ∀ t, (f t).number = t.number) :
    (b.modTicketsIf p f).fixed = b.fixed := by
  simp only [Berth.fixed, Berth.modTicketsIf_numbers b p f h]; rfl

@[simp] theorem setReasons_fixed (b : Berth) (ns : List TicketNo) (r : Reason) : (b.setReasons ns r).fixed = b.fixed :=
  modTicketsIf_fixed _ _ _ fun _ => rfl

@[simp] theorem craneReasons_fixed (b : Berth) (c : Crane) : (b.craneReasons c).fixed = b.fixed :=
  modTicketsIf_fixed _ _ _ fun _ => rfl

@[simp] theorem raise_fixed (b : Berth) (x : BitVec 16) : (b.raise x).fixed = b.fixed := rfl

@[simp] theorem consult_fixed (b : Berth) : b.consult.fixed = b.fixed := rfl

@[simp] theorem modCrane_fixed (b : Berth) (c : Crane) (f : CraneRec → CraneRec) : (b.modCrane c f).fixed = b.fixed := rfl

@[simp] theorem evalLevels_fixed (b : Berth) : b.evalLevels.fixed = b.fixed := rfl

/-! ## The parts of the end of a change -/

@[simp] theorem markLates_fixed (b : Berth) : (markLates b).fixed = b.fixed := by
  unfold markLates; split
  · rw [raise_fixed]; exact modTicketsIf_fixed _ _ _ fun _ => rfl
  · rfl

@[simp] theorem starveCheck_fixed (b : Berth) (c : Crane) : (starveCheck b c).fixed = b.fixed := by
  unfold starveCheck; split <;> rfl

@[simp] theorem starveSweep_fixed (b : Berth) : (starveSweep b).fixed = b.fixed := foldl_keeps _ _ starveCheck_fixed ..

@[simp] theorem assignPass_fixed (b : Berth) : (assignPass b).fixed = b.fixed :=
  foldl_keeps _ _ (fun b t => by unfold assignTask; split <;> rfl) ..

@[simp] theorem dispatchGang_fixed (b : Berth) (g : Gang) : (dispatchGang b g).fixed = b.fixed := by
  unfold dispatchGang
  simp only
  split
  · split <;> rfl
  · rfl

@[simp] theorem gangWork_fixed (b : Berth) : (gangWork b).fixed = b.fixed := by
  unfold gangWork; rw [foldl_keeps _ _ dispatchGang_fixed, assignPass_fixed]

theorem promoteInto_fixed (c : Crane) (fuel : Nat) (b : Berth) : (promoteInto c fuel b).fixed = b.fixed := by
  induction fuel generalizing b with
  | zero => rfl
  | succ n ih =>
    unfold promoteInto
    split
    · split
      · rw [ih]; rfl
      · rfl
    · rfl

@[simp] theorem promotionCheck_fixed (b : Berth) : (promotionCheck b).fixed = b.fixed := by
  unfold promotionCheck; split
  · exact foldl_keeps _ _ (fun b c => by split <;> [exact promoteInto_fixed ..; rfl]) ..
  · rfl

@[simp] theorem promoteDue_fixed (b : Berth) : (promoteDue b).fixed = b.fixed := by
  unfold promoteDue; split
  · rw [promotionCheck_fixed]; rfl
  · rfl

/-- A grant writes tickets, one crane's record, its stand, its claim, a reservation and its order slot. -/
@[simp] theorem makeGrant_fixed (b : Berth) (c : Crane) (k : Candidate) (truck : Option Truck) (pick : Bool) :
    (makeGrant b c k truck pick).fixed = b.fixed := by
  have h0 : (b.modTickets k.numbers (grantTicketPart b.now.secs truck)).fixed = b.fixed :=
    modTicketsIf_fixed _ _ _ fun _ => rfl
  unfold makeGrant
  simp only
  rw [craneReasons_fixed]
  refine Eq.trans ?_ h0
  cases truck <;> cases pick <;> cases k.lashAfter <;> rfl

@[simp] theorem passStrict_fixed (b : Berth) (c : Crane) : (passStrict b c).fixed = b.fixed := by
  unfold passStrict
  split
  · rfl
  · simp only; split <;> simp

@[simp] theorem passPriority_fixed (b : Berth) (c : Crane) : (passPriority b c).fixed = b.fixed := by
  have hw : ∀ (b : Berth) (k : Candidate), (writeFailures c b k).fixed = b.fixed := by
    intro b k; unfold writeFailures; split <;> simp
  unfold passPriority
  simp only
  split
  · exact foldl_keeps _ _ hw ..
  · split
    · rw [setReasons_fixed]; exact foldl_keeps _ _ hw ..
    · rw [makeGrant_fixed]; exact foldl_keeps _ _ hw ..

@[simp] theorem selectionPass_fixed (b : Berth) (c : Crane) : (selectionPass b c).fixed = b.fixed := by
  unfold selectionPass; split <;> simp

@[simp] theorem passAndCheck_fixed (b : Berth) (c : Crane) : (passAndCheck b c).fixed = b.fixed := by
  simp [passAndCheck]

@[simp] theorem scanPasses_fixed (cs : List Crane) (b : Berth) : (scanPasses cs b).1.fixed = b.fixed := by
  induction cs generalizing b with
  | nil => rfl
  | cons c cs ih =>
    unfold scanPasses
    simp only
    split
    · rw [ih, passAndCheck_fixed]
    · exact passAndCheck_fixed b c

@[simp] theorem orderTaken_fixed (b : Berth) : b.orderTaken.fixed = b.fixed := by
  unfold Berth.orderTaken; split <;> rfl

@[simp] theorem passRounds_fixed (fuel : Nat) (b : Berth) : (passRounds fuel b).fixed = b.fixed := by
  induction fuel generalizing b with
  | zero => rfl
  | succ n ih =>
    unfold passRounds
    simp only
    split
    · rw [ih, scanPasses_fixed, orderTaken_fixed]
    · rw [scanPasses_fixed, orderTaken_fixed]

@[simp] theorem runWork_fixed (b : Berth) : (runWork b).fixed = b.fixed := by
  unfold runWork runPasses
  simp only
  split
  · simp
  · rw [passRounds_fixed, promoteDue_fixed]; split <;> simp

end Sys2Proof.Machine
end

