-- ==== Sys2Proof/Laws/Cranes.lean ====
section
/-! SUPPORT. What the shared operations of withdrawals and lifts leave alone: the waiter examination, the release of a claim,
the truck and the lash task of a lift. -/

namespace Sys2Proof.Machine

/-- One entry of an examination writes a gang claim, the waiter list and a gang's order slot, and nothing else. -/
theorem examineWaiter_cases (b : Berth) (w : Gang × Bay) :
    examineWaiter b w = b ∨ ∃ x y z, examineWaiter b w =
      { b with bct := { b.bct with gangClaims := x, waiters := y }, qlc := { b.qlc with gangSlots := z } } := by
  unfold examineWaiter
  split
  · refine Or.inr ?_
    simp only
    split
    · exact ⟨_, _, _, rfl⟩
    · exact ⟨_, _, b.qlc.gangSlots, rfl⟩
  · exact Or.inl rfl

/-- An examination keeps whatever does not read gang claims, waiters and gang slots. -/
theorem examineWaiters_keeps {α : Type} (f : Berth → α)
    (h : ∀ (b : Berth) x y z,
      f { b with bct := { b.bct with gangClaims := x, waiters := y }, qlc := { b.qlc with gangSlots := z } } = f b) (b : Berth) : f (examineWaiters b) = f b := by
  refine foldl_keeps f _ (fun b w => ?_) _ _
  rcases examineWaiter_cases b w with e | ⟨x, y, z, e⟩
  · rw [e]
  · rw [e, h]

@[simp] theorem examineWaiters_mode (b : Berth) : (examineWaiters b).mode = b.mode :=
  examineWaiters_keeps (fun b => b.mode) (fun _ _ _ _ => rfl) b

@[simp] theorem examineWaiters_params (b : Berth) : (examineWaiters b).params = b.params :=
  examineWaiters_keeps (fun b => b.params) (fun _ _ _ _ => rfl) b

@[simp] theorem examineWaiters_sizes (b : Berth) : (examineWaiters b).sizes = b.sizes :=
  examineWaiters_keeps (fun b => b.sizes) (fun _ _ _ _ => rfl) b

@[simp] theorem examineWaiters_clock (b : Berth) : (examineWaiters b).clock = b.clock :=
  examineWaiters_keeps (fun b => b.clock) (fun _ _ _ _ => rfl) b

@[simp] theorem examineWaiters_tickets (b : Berth) : (examineWaiters b).tickets = b.tickets :=
  examineWaiters_keeps (fun b => b.tickets) (fun _ _ _ _ => rfl) b

@[simp] theorem examineWaiters_cranes (b : Berth) : (examineWaiters b).cranes = b.cranes :=
  examineWaiters_keeps (fun b => b.cranes) (fun _ _ _ _ => rfl) b

@[simp] theorem examineWaiters_shu (b : Berth) : (examineWaiters b).shu = b.shu :=
  examineWaiters_keeps (fun b => b.shu) (fun _ _ _ _ => rfl) b

@[simp] theorem examineWaiters_ltu (b : Berth) : (examineWaiters b).ltu = b.ltu :=
  examineWaiters_keeps (fun b => b.ltu) (fun _ _ _ _ => rfl) b

@[simp] theorem examineWaiters_nu (b : Berth) : (examineWaiters b).nu = b.nu :=
  examineWaiters_keeps (fun b => b.nu) (fun _ _ _ _ => rfl) b

@[simp] theorem examineWaiters_grants (b : Berth) : (examineWaiters b).grants = b.grants :=
  examineWaiters_keeps (fun b => b.grants) (fun _ _ _ _ => rfl) b

@[simp] theorem examineWaiters_free (b : Berth) : (examineWaiters b).free = b.free :=
  examineWaiters_keeps (fun b => b.free) (fun _ _ _ _ => rfl) b

@[simp] theorem examineWaiters_bct_craneClaims (b : Berth) : (examineWaiters b).bct.craneClaims = b.bct.craneClaims :=
  examineWaiters_keeps (fun b => b.bct.craneClaims) (fun _ _ _ _ => rfl) b

@[simp] theorem examineWaiters_qlc_stations (b : Berth) : (examineWaiters b).qlc.stations = b.qlc.stations :=
  examineWaiters_keeps (fun b => b.qlc.stations) (fun _ _ _ _ => rfl) b

@[simp] theorem examineWaiters_qlc_craneSlots (b : Berth) : (examineWaiters b).qlc.craneSlots = b.qlc.craneSlots :=
  examineWaiters_keeps (fun b => b.qlc.craneSlots) (fun _ _ _ _ => rfl) b

@[simp] theorem examineWaiters_qlc_promotes (b : Berth) : (examineWaiters b).qlc.promotes = b.qlc.promotes :=
  examineWaiters_keeps (fun b => b.qlc.promotes) (fun _ _ _ _ => rfl) b

@[simp] theorem examineWaiters_qlc_window (b : Berth) : (examineWaiters b).qlc.window = b.qlc.window :=
  examineWaiters_keeps (fun b => b.qlc.window) (fun _ _ _ _ => rfl) b

@[simp] theorem examineWaiters_qlc_sent (b : Berth) : (examineWaiters b).qlc.sent = b.qlc.sent :=
  examineWaiters_keeps (fun b => b.qlc.sent) (fun _ _ _ _ => rfl) b

@[simp] theorem releaseCraneClaim_mode (b : Berth) (c : Crane) : (releaseCraneClaim b c).mode = b.mode :=
  examineWaiters_mode _

@[simp] theorem releaseCraneClaim_params (b : Berth) (c : Crane) : (releaseCraneClaim b c).params = b.params :=
  examineWaiters_params _

@[simp] theorem releaseCraneClaim_sizes (b : Berth) (c : Crane) : (releaseCraneClaim b c).sizes = b.sizes :=
  examineWaiters_sizes _

@[simp] theorem releaseCraneClaim_clock (b : Berth) (c : Crane) : (releaseCraneClaim b c).clock = b.clock :=
  examineWaiters_clock _

@[simp] theorem releaseCraneClaim_tickets (b : Berth) (c : Crane) : (releaseCraneClaim b c).tickets = b.tickets :=
  examineWaiters_tickets _

@[simp] theorem releaseCraneClaim_cranes (b : Berth) (c : Crane) : (releaseCraneClaim b c).cranes = b.cranes :=
  examineWaiters_cranes _

@[simp] theorem releaseCraneClaim_shu (b : Berth) (c : Crane) : (releaseCraneClaim b c).shu = b.shu :=
  examineWaiters_shu _

@[simp] theorem releaseCraneClaim_ltu (b : Berth) (c : Crane) : (releaseCraneClaim b c).ltu = b.ltu :=
  examineWaiters_ltu _

@[simp] theorem releaseCraneClaim_nu (b : Berth) (c : Crane) : (releaseCraneClaim b c).nu = b.nu :=
  examineWaiters_nu _

@[simp] theorem releaseCraneClaim_grants (b : Berth) (c : Crane) : (releaseCraneClaim b c).grants = b.grants :=
  examineWaiters_grants _

@[simp] theorem releaseCraneClaim_free (b : Berth) (c : Crane) : (releaseCraneClaim b c).free = b.free :=
  examineWaiters_free _

@[simp] theorem releaseCraneClaim_qlc_stations (b : Berth) (c : Crane) : (releaseCraneClaim b c).qlc.stations = b.qlc.stations :=
  examineWaiters_qlc_stations _

@[simp] theorem releaseCraneClaim_qlc_craneSlots (b : Berth) (c : Crane) : (releaseCraneClaim b c).qlc.craneSlots = b.qlc.craneSlots :=
  examineWaiters_qlc_craneSlots _

@[simp] theorem releaseCraneClaim_qlc_promotes (b : Berth) (c : Crane) : (releaseCraneClaim b c).qlc.promotes = b.qlc.promotes :=
  examineWaiters_qlc_promotes _

@[simp] theorem releaseCraneClaim_qlc_window (b : Berth) (c : Crane) : (releaseCraneClaim b c).qlc.window = b.qlc.window :=
  examineWaiters_qlc_window _

@[simp] theorem releaseCraneClaim_qlc_sent (b : Berth) (c : Crane) : (releaseCraneClaim b c).qlc.sent = b.qlc.sent :=
  examineWaiters_qlc_sent _

@[simp] theorem releaseGangClaim_mode (b : Berth) (g : Gang) : (releaseGangClaim b g).mode = b.mode :=
  examineWaiters_mode _

@[simp] theorem releaseGangClaim_params (b : Berth) (g : Gang) : (releaseGangClaim b g).params = b.params :=
  examineWaiters_params _

@[simp] theorem releaseGangClaim_sizes (b : Berth) (g : Gang) : (releaseGangClaim b g).sizes = b.sizes :=
  examineWaiters_sizes _

@[simp] theorem releaseGangClaim_clock (b : Berth) (g : Gang) : (releaseGangClaim b g).clock = b.clock :=
  examineWaiters_clock _

@[simp] theorem releaseGangClaim_tickets (b : Berth) (g : Gang) : (releaseGangClaim b g).tickets = b.tickets :=
  examineWaiters_tickets _

@[simp] theorem releaseGangClaim_cranes (b : Berth) (g : Gang) : (releaseGangClaim b g).cranes = b.cranes :=
  examineWaiters_cranes _

@[simp] theorem releaseGangClaim_shu (b : Berth) (g : Gang) : (releaseGangClaim b g).shu = b.shu :=
  examineWaiters_shu _

@[simp] theorem releaseGangClaim_ltu (b : Berth) (g : Gang) : (releaseGangClaim b g).ltu = b.ltu :=
  examineWaiters_ltu _

@[simp] theorem releaseGangClaim_nu (b : Berth) (g : Gang) : (releaseGangClaim b g).nu = b.nu :=
  examineWaiters_nu _

@[simp] theorem releaseGangClaim_grants (b : Berth) (g : Gang) : (releaseGangClaim b g).grants = b.grants :=
  examineWaiters_grants _

@[simp] theorem releaseGangClaim_free (b : Berth) (g : Gang) : (releaseGangClaim b g).free = b.free :=
  examineWaiters_free _

@[simp] theorem releaseGangClaim_bct_craneClaims (b : Berth) (g : Gang) : (releaseGangClaim b g).bct.craneClaims = b.bct.craneClaims :=
  examineWaiters_bct_craneClaims _

@[simp] theorem releaseGangClaim_qlc_stations (b : Berth) (g : Gang) : (releaseGangClaim b g).qlc.stations = b.qlc.stations :=
  examineWaiters_qlc_stations _

@[simp] theorem releaseGangClaim_qlc_craneSlots (b : Berth) (g : Gang) : (releaseGangClaim b g).qlc.craneSlots = b.qlc.craneSlots :=
  examineWaiters_qlc_craneSlots _

@[simp] theorem releaseGangClaim_qlc_promotes (b : Berth) (g : Gang) : (releaseGangClaim b g).qlc.promotes = b.qlc.promotes :=
  examineWaiters_qlc_promotes _

@[simp] theorem releaseGangClaim_qlc_window (b : Berth) (g : Gang) : (releaseGangClaim b g).qlc.window = b.qlc.window :=
  examineWaiters_qlc_window _

@[simp] theorem releaseGangClaim_qlc_sent (b : Berth) (g : Gang) : (releaseGangClaim b g).qlc.sent = b.qlc.sent :=
  examineWaiters_qlc_sent _

/-- R46, R49: a released claim is gone, and the other cranes' claims stand. -/
@[simp] theorem releaseCraneClaim_same (b : Berth) (c : Crane) : (releaseCraneClaim b c).craneClaim c = none := by
  show (examineWaiters (b.setCraneClaim c none)).bct.craneClaims[c] = none
  rw [examineWaiters_bct_craneClaims]
  exact Berth.craneClaim_setCraneClaim b c none

theorem releaseCraneClaim_other (b : Berth) (c d : Crane) (h : d ≠ c) :
    (releaseCraneClaim b c).craneClaim d = b.craneClaim d := by
  show (examineWaiters (b.setCraneClaim c none)).bct.craneClaims[d] = b.craneClaim d
  rw [examineWaiters_bct_craneClaims]
  exact Berth.craneClaim_setCraneClaim_other b c d none h

/-- R39: the checks read the candidate's own tickets, and of the table none. -/
@[simp] theorem checkCandidate_modTicketsIf (b : Berth) (p : Ticket → Bool) (f : Ticket → Ticket) (c : Crane) (k : Candidate)
    (pin : Option Tag) : checkCandidate (b.modTicketsIf p f) c k pin = checkCandidate b c k pin := rfl

@[simp] theorem checkCandidate_setReasons (b : Berth) (ns : List TicketNo) (r : Reason) (c : Crane) (k : Candidate)
    (pin : Option Tag) : checkCandidate (b.setReasons ns r) c k pin = checkCandidate b c k pin := rfl

/-- Writing the reasons of candidates that fail changes no later check. -/
@[simp] theorem checkCandidate_writeFailures (b : Berth) (c d : Crane) (k x : Candidate) (pin : Option Tag) :
    checkCandidate (writeFailures d b k) c x pin = checkCandidate b c x pin := by
  unfold writeFailures; split <;> rfl

/-- R49: the tickets after a withdrawal. -/
theorem withdraw_tickets (b : Berth) (c : Crane) (cause : Cause) :
    (withdraw b c cause).tickets = (b.tickets.map fun t =>
      if (b.crane c).lift.contains t.number then cause.ticket (cause.counted && b.lastAttempt c) b.nowSecs t else t).map
        fun t => if t.crane == c && t.state == .pending then { t with reason := .crane } else t := by
  have hu : ((unbindTruck b c).giveBackSlot c).tickets = b.tickets := by
    have h1 : (unbindTruck b c).tickets = b.tickets := by unfold unbindTruck; split <;> rfl
    unfold Berth.giveBackSlot
    split
    · exact h1
    · exact h1
  have hraise : ∀ (x : Berth) (p q : Bool) (m n : BitVec 16),
      (if p then x.raise m else if q then x.raise n else x).tickets = x.tickets := by
    intro x p q m n; cases p <;> cases q <;> rfl
  unfold withdraw
  simp only
  rw [hraise]
  refine congrArg (List.map _) ?_
  split <;>
  · show (releaseCraneClaim _ c).tickets = _
    rw [releaseCraneClaim_tickets]
    show List.map _ ((unbindTruck b c).giveBackSlot c).tickets = _
    rw [hu]
    rfl

/-- A truck unbound is in its own crane's stand. -/
theorem unbindTruck_frame (b : Berth) (c : Crane) :
    ∃ l, unbindTruck b c = b.modStand c l ∨ unbindTruck b c = b := by
  unfold unbindTruck
  split
  · exact ⟨id, Or.inr rfl⟩
  · exact ⟨_, Or.inl rfl⟩

/-- The landing of a DISCHARGE writes its own crane's stand alone. -/
theorem landOnTruck_frame (b : Berth) (c : Crane) : landOnTruck b c = b ∨ ∃ l, landOnTruck b c = b.modStand c l := by
  unfold landOnTruck
  split
  · exact Or.inr ⟨_, rfl⟩
  · exact Or.inl rfl

/-- R125: a landing's lash link writes the task pool and tickets, whose numbers stay. -/
theorem linkLash_frame (b : Berth) (c : Crane) (bay : Bay) (ns : List TicketNo) :
    ∃ ltu f, (∀ t, (f t).number = t.number) ∧
      linkLash b c bay ns = { b with ltu, tickets := b.tickets.map f } := by
  have hid : ∀ l : List Ticket, l = l.map id := fun l => (List.map_id l).symm
  unfold linkLash
  simp only
  split
  · refine ⟨_, fun t => if ns.contains t.number then { t with lashState := .linked, task := _ } else t, fun t => ?_, rfl⟩
    dsimp only
    split <;> rfl
  · split
    · refine ⟨_, fun t => if ns.contains t.number then { t with lashState := .linked, task := _ } else t, fun t => ?_, rfl⟩
      dsimp only
      split <;> rfl
    · refine ⟨b.unreserve.ltu, id, fun _ => rfl, ?_⟩
      rw [← hid]; rfl

/-- A fold over ticket numbers that frees each leaves none of them in the table. -/
theorem freeTicket_gone (b : Berth) (n : TicketNo) : (freeTicket b n).ticket? n = none := by
  unfold freeTicket
  split
  · assumption
  · exact Berth.ticket?_dropTicket_same _ n

end Sys2Proof.Machine
end

