-- ==== Sys2Proof/Laws/Port.lean ====
section
/-! SUPPORT. What a host command does from a port that is ready, said once for every read and once for every write; and
that no action of the wire touches the queue. -/

namespace Sys2Proof.Machine

/-! ## The queue -/

@[simp] theorem chipFall_pending (s : State) : (chipFall s).pending = s.pending := by
  unfold chipFall; split <;> [rfl; (split <;> rfl)]

@[simp] theorem takeByte_pending (s : State) (x : Byte) : (takeByte s x).pending = s.pending := by
  unfold takeByte; split <;> [rfl; (split <;> rfl)]

@[simp] theorem takeBytes_pending (s : State) (l : List Byte) : (takeBytes s l).pending = s.pending := by
  unfold takeBytes
  induction l generalizing s with
  | nil => rfl
  | cons x xs ih => simp [List.foldl_cons, ih]

@[simp] theorem chipRise_pending (s : State) : (chipRise s).pending = s.pending := by
  unfold chipRise; split <;> [rfl; (split <;> rfl)]

@[simp] theorem openWith_pending (code : Byte) (s : State) : (openWith code s).pending = s.pending := by
  unfold openWith; split <;> simp

@[simp] theorem hostRead_pending (code : Byte) (params : List Byte) (s : State) :
    (hostRead code params s).pending = s.pending := by
  unfold hostRead; split <;> simp

@[simp] theorem hostWrite_pending (code : Byte) (body : List Byte) (s : State) :
    (hostWrite code body s).pending = s.pending := by
  unfold hostWrite; split <;> simp

@[simp] theorem emptyTransactionEvent_pending (s : State) : (emptyTransactionEvent s).pending = s.pending := by
  unfold emptyTransactionEvent; split <;> simp

@[simp] theorem portTimeoutEvent_pending (p : Bool) (s : State) : (portTimeoutEvent p s).pending = s.pending := by
  unfold portTimeoutEvent; split <;> rfl

@[simp] theorem berthEvent_pending (f : Berth → Berth) (s : State) : (berthEvent f s).pending = s.pending := by
  unfold berthEvent; split <;> rfl

@[simp] theorem berthEvent_port (f : Berth → Berth) (s : State) : (berthEvent f s).port = s.port := by
  unfold berthEvent; split <;> rfl

/-- R220: outside reset an event reaches the berth. -/
theorem berthEvent_taken (f : Berth → Berth) (s : State) (h : s.port.inReset = false) :
    berthEvent f s = { s with berth := f s.berth } := by simp [berthEvent, h]

/-- R220: in reset no event reaches the berth. -/
theorem berthEvent_inReset (f : Berth → Berth) (s : State) (h : s.port.inReset = true) : berthEvent f s = s := by
  simp [berthEvent, h]

/-! ## A command byte -/

/-- The state after the command byte of a write, from a ready port. -/
theorem openWith_write {code : Byte} {s : State} (h : PortReady s) (hr : readParams? code = none)
    (hw : (writeLengths? code).isSome = true) :
    openWith code s = { s with port := { s.port with
      selected := true, state := .staging, command := code, params := [], staged := [], snapshot := none, position := 0,
      timer := true, modeAtFall := s.berth.mode, miso := some s.berth.mode.code, misoHeld := none } } := by
  obtain ⟨h1, h2, h3⟩ := h
  simp [openWith, h2, h3, chipFall, h1, takeByte, takeCommand, hr, hw]

/-- Body bytes up to the maximum are staged. -/
theorem takeBytes_staging (body : List Byte) {s : State} {lo hi : Nat} (hr : s.port.inReset = false)
    (hs : s.port.state = .staging) (hl : writeLengths? s.port.command = some (lo, hi))
    (hn : s.port.staged.length + body.length ≤ hi) (hne : body ≠ []) :
    takeBytes s body = { s with port := { s.port with miso := some 0, staged := s.port.staged ++ body } } := by
  induction body generalizing s with
  | nil => exact absurd rfl hne
  | cons x xs ih =>
    have hlt : s.port.staged.length < hi := by simp only [List.length_cons] at hn; omega
    have h1 : takeByte s x = { s with port := { s.port with miso := some 0, staged := s.port.staged ++ [x] } } := by
      simp [takeByte, hr, hs, takeBody, hl, hlt]
    by_cases hx : xs = []
    · subst hx; simpa [takeBytes] using h1
    · have : takeBytes s (x :: xs) = takeBytes (takeByte s x) xs := rfl
      rw [this, h1, ih]
      · simp
      · exact hr
      · exact hs
      · exact hl
      · simp only [List.length_append, List.length_cons, List.length_nil] at hn ⊢; omega
      · exact hx

/-- A write from a ready port: its owner takes the body, the result is written, and the port is IDLE (R181, R187). -/
theorem hostWrite_ready {code : Byte} {s : State} {body : List Byte} {lo hi : Nat} (h : PortReady s)
    (hr : readParams? code = none) (hl : writeLengths? code = some (lo, hi)) (hn : body.length ≤ hi) :
    hostWrite code body s = applied code (applyWrite code body s.berth).1 (applyWrite code body s.berth).2 s := by
  have ho := openWith_write h hr (by rw [hl]; rfl)
  obtain ⟨h1, h2, h3⟩ := h
  have hst : ¬ (s.port.state = .staging ∧ s.port.command = code) := by simp [h2]
  simp only [hostWrite, hst, if_false, ho]
  by_cases hb : body = []
  · subst hb
    simp [takeBytes, chipRise, h1, applied, Port.ended]
  · rw [takeBytes_staging body (lo := lo) (hi := hi) ?_ ?_ ?_ ?_ hb]
    · simp [chipRise, h1, applied, Port.ended]
    · exact h1
    · rfl
    · exact hl
    · simpa using hn

/-- A read without parameters from a ready port. -/
theorem hostRead_ready_nil {code : Byte} {s : State} (h : PortReady s) (hr : readParams? code = some 0) :
    hostRead code [] s = readDone code [] (snapshotOf code [] s.port.result s.berth) s := by
  obtain ⟨h1, h2, h3⟩ := h
  simp [hostRead, h2, openWith, h3, chipFall, h1, takeByte, takeCommand, hr, takeBytes, readDone]

/-- Parameter bytes, from the state PARAMETER: the last of them takes the snapshot (R183). -/
theorem takeBytes_params (xs : List Byte) {s : State} {n : Nat} (hr : s.port.inReset = false)
    (hs : s.port.state = .parameter) (hp : readParams? s.port.command = some n)
    (hn : s.port.params.length + xs.length = n) (hne : xs ≠ []) :
    takeBytes s xs = { s with port := { s.port with
      miso := some 0, params := s.port.params ++ xs, state := .window, position := 0,
      snapshot := some (snapshotOf s.port.command (s.port.params ++ xs) s.port.result s.berth) } } := by
  induction xs generalizing s with
  | nil => exact absurd rfl hne
  | cons x xs ih =>
    have hstep : takeBytes s (x :: xs) = takeBytes (takeByte s x) xs := rfl
    by_cases hx : xs = []
    · subst hx
      have hl : (s.port.params ++ [x]).length = n := by simpa using hn
      rw [hstep]
      simp [takeBytes, takeByte, hr, hs, takeParam, hp, hl]
    · have hlt : ¬ (s.port.params ++ [x]).length = n := by
        have : 0 < xs.length := List.length_pos_iff.2 hx
        simp only [List.length_append, List.length_cons, List.length_nil] at hn ⊢; omega
      have h1 : takeByte s x = { s with port := { s.port with miso := some 0, params := s.port.params ++ [x] } } := by
        simp only [takeByte, hr, hs, takeParam, hp, Option.getD_some, hlt, if_false]
        simp
      rw [hstep, h1, ih]
      · simp
      · exact hr
      · exact hs
      · exact hp
      · simp only [List.length_append, List.length_cons, List.length_nil] at hn ⊢; omega
      · exact hx

/-- A read with parameters from a ready port. -/
theorem hostRead_ready {code : Byte} {s : State} {params : List Byte} (h : PortReady s)
    (hr : readParams? code = some params.length) (hne : params ≠ []) :
    hostRead code params s = readDone code params (snapshotOf code params s.port.result s.berth) s := by
  obtain ⟨h1, h2, h3⟩ := h
  have hz : readParams? code ≠ some 0 := by
    rw [hr]; simpa using hne
  have hst : ¬ (s.port.state = .parameter ∧ s.port.command = code) := by simp [h2]
  have ho : openWith code s = { s with port := { s.port with
      selected := true, state := .parameter, command := code, params := [], staged := [], snapshot := none, position := 0,
      timer := true, modeAtFall := s.berth.mode, miso := some s.berth.mode.code, misoHeld := none } } := by
    cases hp : params with
    | nil => exact absurd hp hne
    | cons x xs =>
      rw [hp] at hr
      simp [openWith, h2, h3, chipFall, h1, takeByte, takeCommand, hr]
  simp only [hostRead, hst, if_false, ho]
  rw [takeBytes_params params (n := params.length) ?_ ?_ ?_ ?_ hne]
  · simp [readDone, hne]
  · exact h1
  · rfl
  · exact hr
  · simp

end Sys2Proof.Machine
end

