-- ==== Sys2Proof/Laws/Link.lean ====
section
/-! SUPPORT. What a station's frame does in RUN, said once for every kind: a frame that passes the link's checks is its
owner's report, settled where it changed a record, and answered. -/

namespace Sys2Proof.Machine

/-! ## Stations and roles -/

@[simp] theorem roleOf_craneStation (c : Crane) : roleOf (craneStation c) = .crane c := by revert c; decide

@[simp] theorem roleOf_gangStation (g : Gang) : roleOf (gangStation g) = .gang g := by revert g; decide

@[simp] theorem roleOf_gateIn : roleOf gateIn = .gateIn := by decide

@[simp] theorem roleOf_gateOut : roleOf gateOut = .gateOut := by decide

theorem craneStation_lt (c : Crane) : (craneStation c).val < 14 := by revert c; decide

theorem gangStation_lt (g : Gang) : (gangStation g).val < 14 := by revert g; decide

/-! ## The station heard -/

@[simp] theorem heardFrom_mode (b : Berth) (st : Station) : (heardFrom b st).mode = b.mode := rfl

@[simp] theorem heardFrom_window (b : Berth) (st : Station) : (heardFrom b st).qlc.window = b.qlc.window := rfl

@[simp] theorem heardFrom_crane (b : Berth) (st : Station) (c : Crane) : (heardFrom b st).crane c = b.crane c := rfl

@[simp] theorem heardFrom_tickets (b : Berth) (st : Station) : (heardFrom b st).tickets = b.tickets := rfl

@[simp] theorem heardFrom_clock (b : Berth) (st : Station) : (heardFrom b st).clock = b.clock := rfl

/-- R162: being heard changes no station's link state. -/
@[simp] theorem heardFrom_online (b : Berth) (st t : Station) : (heardFrom b st).online t = b.online t := by
  show ((modAt b.qlc.stations st fun r => { r with heard := true })[t]).online = (b.qlc.stations[t]).online
  rw [modAt_get]
  split
  · next h => subst h; rfl
  · rfl

/-- R162: an ONLINE station stays as it is. -/
theorem makeOnline_online {b : Berth} {st : Station} (h : b.online st = true) : makeOnline b st = b := by
  simp [makeOnline, h]

/-! ## Frames in RUN -/

/-- A frame that passes R157, R163 and R164, from an ONLINE station in RUN, is its owner's report (R166). -/
theorem frameEvent_run {s : State} {st : Station} {kind : Byte} {cls : BitVec 2} {body : List Byte}
    (h : StationSpeaks s st) (hst : st.val < 14) (hk : kind ≠ kindReply) (hr : (roleOf st).kinds.contains kind = true)
    (hc : cls = classOf kind) (hl : lengthAllowed kind body = true) (hb : body.length ≤ maxFrameBody) :
    berthEvent (frameEvent kind (frameOf st cls body)) s =
      replied s st (ownReport (heardFrom s.berth st) (roleOf st) kind body).1
        (ownReport (heardFrom s.berth st) (roleOf st) kind body).2 := by
  obtain ⟨⟨hres, hw⟩, hm, ho⟩ := h
  have hno : ¬ (14 ≤ st.val ∨ kind = kindReply) := by
    rintro (h | h)
    · omega
    · exact hk h
  have hon : makeOnline (heardFrom s.berth st) st = heardFrom s.berth st :=
    makeOnline_online (by rw [heardFrom_online]; exact ho)
  rw [berthEvent_taken _ _ hres]
  have hg : frameEvent kind (frameOf st cls body) s.berth = takeFrame (heardFrom s.berth st) st cls kind body := by
    have hw' : (heardFrom s.berth st).qlc.window = none := hw
    show (if body.length ≤ maxFrameBody then goodFrame s.berth st cls kind body else _) = _
    rw [if_pos hb]
    show (match (heardFrom s.berth st).qlc.window with
      | some a => _
      | none => takeFrame (heardFrom s.berth st) st cls kind body) = _
    rw [hw']
  rw [hg]
  have hm' : (heardFrom s.berth st).mode = .run := hm
  have hcls : (cls != classOf kind) = false := by simp [hc]
  simp only [takeFrame, hno, if_false, hr, hcls, hl, Bool.not_true, Bool.false_or, Bool.false_eq_true, handFrame, hm', hon,
    replied]

end Sys2Proof.Machine
end

