-- ==== Sys2Proof/Tests/Slice0.lean ====
section
/-! SUPPORT. The model's own tests: ill-formed terms that the check refuses, figures that the spec works out, and for every
statement a state and operands that meet its hypotheses. -/

namespace Sys2Proof.Tests

open Sys2Proof Sys2Proof.Machine

set_option Elab.async false

/-! ## Well-formedness: one refused term for each check -/

theorem test_wf_find : (Instr.find 0 0xFF 0xFF (zeros 10)).wf = false := by decide

theorem test_wf_find_ok : (Instr.find 0 0xFF 0xFF (zeros 11)).wf = true := by decide

theorem test_wf_frame : (Instr.ask { station := 0, cls := 1, body := zeros 25 }).wf = false := by decide

theorem test_wf_frame_ok : (Instr.ask { station := 0, cls := 1, body := zeros 24 }).wf = true := by decide

theorem test_wf_lookup : (Instr.lookupTag { station := 0, cls := 3, body := zeros 24 }).wf = false := by decide

theorem test_wf_lookup_ok : (Instr.lookupTag { station := 0, cls := 3, body := zeros 23 }).wf = true := by decide

theorem test_wf_assigned_code : (Instr.unassignedCommand 0x20 []).wf = false := by decide

theorem test_wf_unassigned_code : (Instr.unassignedCommand 0x21 []).wf = false ∧ (Instr.unassignedCommand 0x1F []).wf = true
    ∧ (Instr.unassignedCommand 0x00 []).wf = true ∧ (Instr.unassignedCommand 0x63 []).wf = false
    ∧ (Instr.unassignedCommand 0x64 []).wf = true := by decide

/-! ## Helpers -/

def onlineStations : Vector StationRec 16 := Vector.replicate 16 { online := true, fails := 0, heard := false }

/-- The berth after reset, in RUN, with every station ONLINE. -/
def running : Berth := { Berth.reset with mode := .run, qlc := { Berth.reset.qlc with stations := onlineStations } }

def stateOf (b : Berth) : State := { State.reset with berth := b }

/-- The port in a state of its transaction. -/
def portIn (st : PortState) (code : Byte) : State :=
  { State.reset with port := { Port.reset with selected := true, timer := true, state := st, command := code } }

/-- ABCU1234560, in the planning port's form. -/
def box : List Byte := [0x41, 0x42, 0x43, 0x55, 0x31, 0x32, 0x33, 0x34, 0x35, 0x36, 0x30]

/-- 1.18's first LOAD: ticket 501, crane 3, seq 40, DISCHARGE, bay 14, row 2, tier 82, DECK, size 20. -/
def loadBody (release lash : Byte) : List Byte :=
  [0x01, 0xF5, 3, release, 0, 40, 0, 20, 14, 2, 82, 0, 0, 0, lash, 0, 0] ++ box ++ [0xFF, 0xFF, 0xFF, 0xFF]

def heldTicket : Ticket := loadedTicket (loadBody 0 0)

def ticketIn (st : TicketState) : Ticket := { heldTicket with state := st }

def withTicket (t : Ticket) (b : Berth) : Berth := { b with tickets := [t] }

def craneIn (w : WorkState) (b : Berth) : Berth := b.modCrane 3 fun r => { r with work := w }

/-- Crane 3 with ticket 501 as its lift. -/
def liftIn (w : WorkState) (st : TicketState) (b : Berth) : Berth :=
  (withTicket { ticketIn st with truck := some 7 } b).modCrane 3 fun r => { r with work := w, grantTicket := some 501 }

/-- A truck with tag 7, waiting in lane L0 of crane 3. -/
def truck : Truck :=
  { tag := 7, lane := some 0, chassis := .s20, cargo := [], unverified := false, priority := false, state := .waiting,
    joinedAt := 0, arrivedAt := 0, targets := 0xFF, arrival := 0, stay := 0 }

def withTruck (b : Berth) : Berth := b.modStand 3 fun _ => [truck]

def unlashTask (st : TaskState) : Task :=
  { number := 0, kind := .unlash, bay := 14, crane := 3, linked := 1, state := st, created := 0 }

/-- Gang 1 with one task, in an activity. -/
def gangWith (a : Activity) (st : TaskState) (b : Berth) : Berth :=
  ({ b with ltu := { b.ltu with tasks := [unlashTask st] } }).modGang 1 fun r =>
    { r with onDuty := true, activity := a, tasks := [0] }

def clockRuns (b : Berth) : Berth := b.setRunning true

/-- Ticket 501 is PENDING and a truck for it waits. -/
def grantable : Berth := withTruck (withTicket (ticketIn .pending) running)

/-! ## Figures of the spec -/

/-- R34, R41: ASK grants the ticket that passes every check, in the same change. -/
theorem test_ask_grants : ∃ t, exec (.ask { station := 3, cls := 1, body := [] }) (stateOf grantable) = .next t
    ∧ (t.berth.crane 3).work = .granted ∧ t.berth.craneClaim 3 = some 14
    ∧ (t.berth.ticket? 501).map (·.state) = some .granted ∧ t.berth.qlc.sent = some ((accept).frame 3) := by
  refine ⟨_, rfl, ?_⟩; decide +kernel

/-- R39: without a truck the ticket waits with reason TRUCK. -/
theorem test_ask_waits : ∃ t, exec (.ask { station := 3, cls := 1, body := [] })
      (stateOf (withTicket (ticketIn .pending) running)) = .next t
    ∧ (t.berth.crane 3).work = .waiting ∧ (t.berth.ticket? 501).map (·.reason) = some .truck := by
  refine ⟨_, rfl, ?_⟩; decide +kernel

/-- R46: SET_DOWN ends the lift: DONE, TICKET_DONE, the crane IDLE. -/
theorem test_set_down : ∃ t, exec (.setDown { station := 3, cls := 1, body := [0x01, 0xF5, 0] })
      (stateOf (liftIn .lifting .lifting running)) = .next t
    ∧ (t.berth.crane 3).work = .idle ∧ (t.berth.ticket? 501).map (·.state) = some .done
    ∧ t.berth.nu.raw = ticketDone := by
  refine ⟨_, rfl, ?_⟩; decide +kernel

/-- R89 to R92: a truck that arrives stands at the lowest crane with a free lane. -/
theorem test_arrive : ∃ t, exec (.arrive { station := 8, cls := 2, body := [0, 0, 7, 0x80] }) (stateOf running) = .next t
    ∧ t.berth.qlc.sent = some ((accept [0, 0]).frame 8) ∧ (t.berth.stand 0).map (·.tag) = [7] := by
  refine ⟨_, rfl, ?_⟩; decide +kernel

/-- 11.3: the ticket window of the first LOAD of 1.18 begins with its number, crane, state and kind. -/
theorem test_ticket_window : (ticketWindow (withTicket heldTicket Berth.reset) 501).take 4 = [0x01, 0xF5, 3, 1] := by
  decide +kernel

/-- 1.18: LOAD takes one of the 1024 free slots of reset. -/
theorem test_load_from_reset : ∃ t, exec (.load (loadBody 0 1)) State.reset = .next t ∧ t.port.result.code = .ok
    ∧ t.port.result.entity = 501 ∧ t.port.result.free = 1023 := by
  refine ⟨_, rfl, ?_⟩; decide +kernel

/-- R12: the same LOAD again is DUPLICATE_NUMBER. -/
theorem test_load_twice :
    (ownLoad (withTicket heldTicket Berth.reset) (loadBody 0 0)).2 = ticketRes .duplicateNumber 501 0 := by decide +kernel

/-- R142: the seconds carry at the sixteenth sixteenth, and wrap. -/
theorem test_clock_carry : QTime.next { secs := 0xFFFFFFFF, six := 15 } = { secs := 0, six := 0 } := by decide

/-- R208: MODE_SET to RUN from reset. -/
theorem test_run_from_reset : ∃ t, exec .modeSetRun State.reset = .next t ∧ t.berth.mode = .run
    ∧ t.port.result.code = .ok ∧ t.port.result.detail = 1 := by
  refine ⟨_, rfl, ?_⟩; decide +kernel

/-- R159: the link form of a container ID. -/
theorem test_link_container : linkContainer? [0x41, 0x42, 0x43, 0x55, 0x12, 0x34, 0x56, 0x0F] = some box := by decide +kernel

/-- R97: a letter after padding is refused, another byte there is not (log 39), and the prefix kept ends at the padding. -/
theorem test_owner_prefix : ownerValid [0x41, 0, 0x42, 0] = false ∧ ownerValid [0x41, 0, 0x31, 0] = true
    ∧ ownerValid [0x31, 0, 0, 0] = false
    ∧ (ruleOf [0, 1, 0, 0, 1, 0, 0, 2, 15, 1, 0x41, 0, 0x31, 0, 3, 0]).owner = [0x41] := by decide +kernel

/-- R9, log 36: a container on two trucks is reported at the lowest crane. -/
theorem test_carrier : let b := (Berth.reset.modStand 3 fun _ => [{ truck with cargo := [box] }]).modStand 5 fun _ =>
      [{ truck with cargo := [box] }]
    b.carrier box = some 3 := by decide +kernel

/-- R220: no event reaches the berth in reset. -/
theorem test_reset_holds_clock : exec .timeBaseStep { State.reset with port := { Port.reset with inReset := true } } =
    .next { State.reset with port := { Port.reset with inReset := true } } := by rfl

/-! ## The hypotheses of the statements are met -/

theorem ready_stateOf (b : Berth) : PortReady (stateOf b) := ⟨rfl, rfl, rfl⟩

theorem link_running {b : Berth} (h : b.qlc.window = none) : LinkReady (stateOf b) := ⟨rfl, h⟩

theorem wit_StepRunsFront : ∃ s : State, s.pending = [] := ⟨State.reset, rfl⟩

theorem wit_ResetEvents : ∃ s : State, s.port.inReset = true :=
  ⟨{ State.reset with port := { Port.reset with inReset := true } }, rfl⟩

theorem wit_ReadsSnapshotTheirRecord : PortReady State.reset ∧ (zeros 11).length = 11 := ⟨ready_stateOf _, rfl⟩

theorem wit_WindowContents : (Berth.reset.ticket? 501 = none)
    ∧ (withTicket heldTicket Berth.reset).ticket? 501 = some heldTicket
    ∧ ∀ id, heldTicket.container = some id → id.length = 11 := by
  refine ⟨rfl, by decide +kernel, fun id h => ?_⟩
  have : heldTicket.container = some box := by decide +kernel
  rw [this] at h; cases h; rfl

def recallAt (q : QTime) : Order := freshOrder (.recall 0) q

/-- A berth with a record for each window: a due time, a truck with cargo in a lane and in holding, a listed task, a waiter,
orders and a rule. -/
def shownBerth : Berth :=
  let b := (gangWith .idle .queued (withTicket heldTicket running)).postGang 1 (.recall 0)
  let laden := { truck with cargo := [box] }
  { (b.modStand 3 fun _ => [laden]).modCrane 3 fun r => { r with due := some b.now, starveStart := some b.now } with
    bct := { b.bct with waiters := [(1, 14)] }
    qlc := { b.qlc with promotes := [freshOrder (.promote 7 3 0 0) b.now] }
    shu := { (b.modStand 3 fun _ => [laden]).shu with holding := [{ laden with lane := none }] } }

theorem wit_WindowContents_records : (shownBerth.crane 3).due = some shownBerth.now ∧ (shownBerth.crane 2).due = none
    ∧ (shownBerth.crane 3).starveStart = some shownBerth.now ∧ (shownBerth.crane 2).starveStart = none
    ∧ (∀ u ∈ shownBerth.stand 3, ∀ id ∈ u.cargo, id.length = 11) ∧ (∀ u ∈ shownBerth.stand 3, u.lane ≠ some 1)
    ∧ ((shownBerth.stand 3).find? fun u => u.lane == some 0) = some { truck with cargo := [box] }
    ∧ shownBerth.shu.holding[(1 : Byte).toNat - 1]? = some { truck with cargo := [box], lane := none }
    ∧ shownBerth.shu.holding.length < (2 : Byte).toNat
    ∧ ((shownBerth.gang 1).tasks[0]? = some 0 ∧ shownBerth.task? 0 = some (unlashTask .queued)
      ∧ (shownBerth.gang 1).tasks[1]? = none ∧ shownBerth.gangClaim 1 = none)
    ∧ ((∀ g, g < 1 → (0 : TaskNo) ∉ (shownBerth.gang g).tasks) ∧ (shownBerth.gang 1).tasks = [] ++ 0 :: []
      ∧ shownBerth.task? 1 = none ∧ ∀ g, (1 : TaskNo) ∉ (shownBerth.gang g).tasks)
    ∧ shownBerth.sizes.taskSlots ≤ (128 : TaskNo).toNat ∧ (127 : TaskNo).toNat < shownBerth.sizes.taskSlots
    ∧ shownBerth.bct.waiters[0]? = some (1, 14) ∧ shownBerth.bct.waiters[1]? = none
    ∧ shownBerth.qlc.gangSlots[(1 : Gang)].current = some (recallAt shownBerth.now)
    ∧ shownBerth.qlc.craneSlots[(1 : Crane)].current = none ∧ shownBerth.qlc.gangSlots[(1 : Gang)].upcoming = none
    ∧ shownBerth.qlc.promotes.head? = some (freshOrder (.promote 7 3 0 0) shownBerth.now)
    ∧ Berth.reset.qlc.promotes = []
    ∧ (31 : Byte).toNat < shownBerth.sizes.ruleSlots ∧ shownBerth.shu.rules[31]? = some Rule.cleared
    ∧ shownBerth.sizes.ruleSlots ≤ (32 : Byte).toNat := by decide +kernel

theorem wit_FindLowest : TicketsKept (stateOf (withTicket heldTicket Berth.reset))
    ∧ (∃ t ∈ (stateOf (withTicket heldTicket Berth.reset)).berth.tickets,
        (0 : TicketNo).toNat < t.number.toNat ∧ inSet (0xFF : Byte) (t.state.code.toNat - 1) = true
          ∧ inSet (0xFF : Byte) t.crane.val = true)
    ∧ TicketsKept State.reset ∧ ∀ t ∈ State.reset.berth.tickets, ¬ (0 : TicketNo).toNat < t.number.toNat := by
  refine ⟨⟨by decide +kernel, by decide +kernel⟩, ⟨heldTicket, by decide +kernel, by decide +kernel⟩,
    ⟨by decide, by decide⟩, ?_⟩
  intro t h; exact absurd h (List.not_mem_nil)

theorem wit_FramingEvents : PortReady State.reset
    ∧ (∃ (s : State) (w : List Byte), s.port.inReset = false ∧ s.port.state = .window ∧ s.port.snapshot = some w)
    ∧ (∃ (s : State) (lo hi : Nat), s.port.inReset = false ∧ s.port.state = .staging
        ∧ writeLengths? s.port.command = some (lo, hi) ∧ s.port.staged.length < hi)
    ∧ ∀ st ∈ [PortState.command, .parameter, .window, .abandoned],
        ∃ s : State, s.port.inReset = false ∧ s.port.selected = true ∧ s.port.state = st := by
  refine ⟨ready_stateOf _, ?_, ⟨portIn .staging 0x22, 2, 3, rfl, rfl, by decide, by decide⟩,
    fun st _ => ⟨portIn st 0, rfl, rfl, rfl⟩⟩
  exact ⟨{ (portIn .window 0x0D) with port := { (portIn .window 0x0D).port with snapshot := some (zeros 8) } }, zeros 8,
    rfl, rfl, rfl⟩

theorem wit_FramingEvents_rise : ∀ code ∈ [(0x20 : Byte), 0x22, 0x30, 0x50],
    (∃ s : State, s.port.inReset = false ∧ s.port.selected = true ∧ s.port.state = .staging ∧ s.port.command = code
      ∧ ∃ b r, applyWrite s.port.command s.port.staged s.berth = (b, r))
    ∧ ∃ s : State, s.port.inReset = false ∧ s.port.selected = true ∧ s.port.state = .discard := fun code _ =>
  ⟨⟨portIn .staging code, rfl, rfl, rfl, rfl, _, _, rfl⟩, ⟨portIn .discard 0xFF, rfl, rfl, rfl⟩⟩

theorem wit_FramingFailures_timeout : ∀ st ∈ [PortState.command, .parameter, .window, .staging, .discard],
    ∃ s : State, s.port.state = st := fun st _ => ⟨portIn st 0, rfl⟩

theorem wit_FramingFailures : (writeLengths? 0x22 = some (2, 3) ∧ ([0] : List Byte).length < 2)
    ∧ running.mode ≠ .config ∧ Berth.reset.mode ≠ .run ∧ (zeros 6).length = 6 ∧ (zeros 5).length = 5 ∧ (zeros 2).length = 2
    ∧ (Instr.unassignedCommand 0xFF []).wf = true ∧ PortReady State.reset :=
  ⟨by decide, by decide, by decide, rfl, rfl, rfl, rfl, ready_stateOf _⟩

theorem wit_LoadCreates : PortReady State.reset ∧ ∀ release ∈ [(0 : Byte), 1],
    (loadBody release 0).length = 32 ∧ loadInvalid (loadBody release 0) = none
    ∧ comboInvalid (loadedTicket (loadBody release 0)) = none
    ∧ loadRefusal State.reset.berth (loadedTicket (loadBody release 0)) = none
    ∧ byteAt (loadBody release 0) 3 = release
    ∧ (releaseTicket (createTicket State.reset.berth (loadedTicket (loadBody release 0)))
        (loadedTicket (loadBody release 0))).toOption.isSome = true := by
  refine ⟨ready_stateOf _, ?_⟩
  intro r h
  simp only [List.mem_cons, List.not_mem_nil, or_false] at h
  rcases h with rfl | rfl <;> decide +kernel

/-- A LOAD that names FREE, one with a partner in the table, and one whose release a halted crane refuses. -/
theorem wit_LoadCreates_more : ((loadBody 0 0 ++ [0]).length = 33 ∧ byteAt (loadBody 0 0 ++ [0]) 32 = 0
      ∧ loadInvalid (loadBody 0 0 ++ [0]) = none ∧ loadRefusal Berth.reset (loadedTicket (loadBody 0 0 ++ [0])) = none)
    ∧ (let body := ((loadBody 0 0).set 15 0).set 16 9; let p := { heldTicket with number := 9, container := none };
      (loadedTicket body).partner = some 9 ∧ (withTicket p Berth.reset).ticket? 9 = some p
      ∧ loadRefusal (withTicket p Berth.reset) (loadedTicket body) = none)
    ∧ (let b := Berth.reset.modCrane 3 fun r => { r with halt := true }; let t := loadedTicket (loadBody 1 0);
      loadRefusal b t = none ∧ (releaseTicket (createTicket b t) t).toOption = none) := by decide +kernel

theorem wit_TicketRefusals : (∃ body o, loadInvalid body = some o)
    ∧ (∃ body o, loadInvalid body = none ∧ comboInvalid (loadedTicket body) = some o)
    ∧ (∃ (b : Berth) (body : List Byte) (t : Ticket), loadInvalid body = none ∧ comboInvalid (loadedTicket body) = none
        ∧ body.length = 33 ∧ byteAt body 32 = 0 ∧ b.ticket? (word16At body 0) = some t)
    ∧ (∃ (b : Berth) (body : List Byte) (t : Ticket), loadInvalid body = none ∧ comboInvalid (loadedTicket body) = none
        ∧ body.length = 32 ∧ b.ticket? (word16At body 0) = some t)
    ∧ (∃ (b : Berth) (n : TicketNo) (t : Ticket), b.ticket? n = some t ∧ t.state = .held ∧ (b.crane t.crane).halt = true)
    ∧ ∃ (b : Berth) (n : TicketNo) (t : Ticket) (e : Byte), b.ticket? n = some t ∧ e.toNat ≤ 7 ∧ e ≠ t.state.code := by
  refine ⟨⟨zeros 32, 0, by decide +kernel⟩, ⟨(loadBody 0 0).set 6 3, 18, by decide +kernel⟩,
    ⟨withTicket heldTicket Berth.reset, loadBody 0 0 ++ [0], heldTicket, by decide +kernel⟩,
    ⟨withTicket heldTicket Berth.reset, loadBody 0 0, heldTicket, by decide +kernel⟩,
    ⟨withTicket heldTicket (Berth.reset.modCrane 3 fun r => { r with halt := true }), 501, heldTicket, by decide +kernel⟩,
    ⟨withTicket heldTicket Berth.reset, 501, heldTicket, 7, by decide +kernel⟩⟩

/-- LOAD of ticket 501 with partner 9. -/
def twinBody : List Byte := ((loadBody 0 0).set 15 0).set 16 9

/-- Ticket 9, as a partner of 501 would be. -/
def partner9 : Ticket := { heldTicket with number := 9, container := none }

theorem wit_TicketRefusals_load :
    (let b := { Berth.reset with sizes := { Berth.reset.sizes with ticketSlots := 0 } };
      b.ticket? 501 = none ∧ b.freeTickets = 0)
    ∧ (let b := withTicket { heldTicket with number := 7 } Berth.reset;
      b.ticket? 501 = none ∧ b.freeTickets ≠ 0 ∧ (heldTicket.container.any fun id => (b.indexed? id).isSome) = true)
    ∧ (loadInvalid twinBody = none ∧ comboInvalid (loadedTicket twinBody) = none ∧ twinBody.length = 32
      ∧ (loadedTicket twinBody).partner = some 9
      ∧ (Berth.reset.indexed? box = none ∧ partnerCause Berth.reset (loadedTicket twinBody) 9 = some 1))
    ∧ (let cause (x : Ticket) := partnerCause (withTicket x Berth.reset) (loadedTicket twinBody) x.number;
      cause { partner9 with state := .done } = some 2 ∧ cause { partner9 with partner := some 8 } = some 3
      ∧ cause { partner9 with bay := 15 } = some 4 ∧ cause { partner9 with size := .s40 } = some 5 ∧ cause partner9 = none
      ∧ cause heldTicket = some 1) := by decide +kernel

theorem wit_TicketRefusals_states : Berth.reset.ticket? 501 = none
    ∧ (∀ st ∈ [TicketState.pending, .granted, .lifting, .done, .cancelled, .failed],
        (withTicket (ticketIn st) Berth.reset).ticket? 501 = some (ticketIn st) ∧ (ticketIn st).state ≠ .held)
    ∧ (ticketIn .lifting).state.live = true ∧ (ticketIn .pending).state ≠ .lifting
    ∧ (running.online (craneStation 3) = true ∧ (running.crane 3).control = .auto) := by decide +kernel

/-- Expect bytes: of an AMEND and of a LOAD, of the state in use, of another and of none. -/
theorem wit_TicketRefusals_expect : let b := withTicket heldTicket Berth.reset
    (∀ e ∈ [(7 : Byte), 8], let m := [0x01, 0xF5] ++ zeros 28 ++ [e];
      m.length = 31 ∧ word16At m 0 = 501 ∧ byteAt m 30 = e ∧ e ≠ heldTicket.state.code)
    ∧ (∀ e ∈ [(0 : Byte), 1, 7, 8], let m := loadBody 0 0 ++ [e]; m.length = 33 ∧ byteAt m 32 = e ∧ word16At m 0 = 501
        ∧ loadInvalid m = none ∧ comboInvalid (loadedTicket m) = none)
    ∧ b.ticket? 501 = some heldTicket ∧ heldTicket.state.code = 1 ∧ Berth.reset.ticket? 501 = none
    ∧ (7 : Byte).toNat ≤ 7 ∧ 7 < (8 : Byte).toNat := by decide +kernel

/-- An AMEND of ticket 501 that names the fields of a set, with values of a crane, a bay and a partner. -/
def amendOf (set : BitVec 16) (crane bay : Byte) (partner : TicketNo) : List Byte :=
  [0x01, 0xF5] ++ bytes16 set ++ [crane, 0, 0, bay, 0, 0, 0, 0, 0, 0, 0, 0, 0] ++ zeros 11 ++ bytes16 partner

theorem wit_TicketRefusals_amend :
    (amendInvalid 1 (amendOf 1 8 0 0) = some 2 ∧ (amendOf 1 8 0 0).length = 30)
    ∧ (let t := { heldTicket with kind := .load }; let m := amendOf 0x200 0 0 0;
      amendInvalid 0x200 m = none ∧ comboInvalid (amendFields 0x200 m t) = some 18)
    ∧ (let u := { heldTicket with crane := 2 }; let b := Berth.reset.modStand 3 fun _ => [{ truck with cargo := [box] }];
      u.crane ≠ heldTicket.crane ∧ (heldTicket.container.bind b.carrier) = some 3)
    ∧ (let t := { heldTicket with partner := some 9 }; let u := { t with bay := 15 };
      (∀ id ∈ t.container, Berth.reset.carrier id = none) ∧ u.bay ≠ t.bay ∧ t.partner ≠ none ∧ u.partner ≠ none)
    ∧ (let t := { heldTicket with partner := some 8 }; let u := { t with partner := some 9 };
      u.crane = t.crane ∧ u.bay = t.bay ∧ partnerCause Berth.reset u 9 = some 1
      ∧ partnerCause (withTicket partner9 Berth.reset) u 9 = none)
    ∧ (let b := withTicket { heldTicket with number := 7 } Berth.reset;
      (b.indexed? box).isSome = true ∧ ({ heldTicket with container := none } : Ticket).container ≠ some box) := by
  decide +kernel

theorem wit_ReleaseMovesToPending :
    (∃ (s : State) (n : TicketNo) (t : Ticket), PortReady s ∧ s.berth.ticket? n = some t ∧ t.state = .held
      ∧ (s.berth.crane t.crane).halt = false ∧ t.lash ≠ .unlashBefore
      ∧ (releaseTicket s.berth t).toOption.isSome = true)
    ∧ (∃ (s : State) (n : TicketNo) (t : Ticket), PortReady s ∧ s.berth.ticket? n = some t ∧ t.state = .held
      ∧ (releaseTicket s.berth t).toOption.isSome = false)
    ∧ (∃ (b : Berth) (t : Ticket) (k : Task), b.ticket? t.number = some t ∧ t.lash = .unlashBefore
      ∧ t.lashState = .notNeeded ∧ (b.crane t.crane).halt = false ∧ b.unlashTaskAt t.bay = some k)
    ∧ (let t := loadedTicket (loadBody 0 1); let b := withTicket t Berth.reset;
      b.ticket? t.number = some t ∧ t.lash = .unlashBefore ∧ t.lashState = .notNeeded ∧ (b.crane t.crane).halt = false
      ∧ b.unlashTaskAt t.bay = none ∧ b.freeTasks ≠ 0 ∧ b.freeTaskSlot = some 0)
    ∧ (let b := { Berth.reset with sizes := { Berth.reset.sizes with taskSlots := 0 } };
      b.unlashTaskAt 14 = none ∧ b.freeTasks = 0) :=
  ⟨⟨stateOf (withTicket heldTicket Berth.reset), 501, heldTicket, ready_stateOf _, by decide +kernel⟩,
    ⟨stateOf (withTicket heldTicket (Berth.reset.modCrane 3 fun r => { r with halt := true })), 501, heldTicket,
      ready_stateOf _, by decide +kernel⟩,
    ⟨withTicket (loadedTicket (loadBody 0 1)) (gangWith .idle .opened Berth.reset), loadedTicket (loadBody 0 1),
      unlashTask .opened, by decide +kernel⟩, by decide +kernel, by decide +kernel⟩

/-- HoldAndRetireByState, CancelByState: every state of a ticket is met. -/
theorem wit_TicketStates : ∀ st : TicketState, ∃ (s : State) (n : TicketNo) (t : Ticket), PortReady s
    ∧ s.berth.ticket? n = some t ∧ t.state = st ∧ t.partner = none ∧ t.lashState ≠ .awaiting := by
  intro st
  refine ⟨stateOf (withTicket (ticketIn st) Berth.reset), 501, ticketIn st, ready_stateOf _, ?_⟩
  cases st <;> decide +kernel

/-- Ticket 501 AWAITING with a partner, linked to task 0 of gang 1, in a state and with a linked count. -/
def awaitingTicket : Ticket :=
  { ticketIn .pending with lash := .unlashBefore, lashState := .awaiting, task := some 0, partner := some 9 }

def linkedTask (st : TaskState) (linked : Nat) : Machine.Task := { unlashTask st with linked }

def unlashLinked (a : Activity) (st : TaskState) (linked : Nat) : Berth :=
  let b := gangWith a st running
  { b with tickets := [partner9, awaitingTicket], ltu := { b.ltu with tasks := [linkedTask st linked] } }

theorem wit_CancelByState : ∀ st ∈ [TaskState.opened, .queued, .dispatched, .active], ∀ n ∈ [1, 2],
    let b := unlashLinked .assigned st n
    b.ticket? awaitingTicket.number = some awaitingTicket ∧ awaitingTicket.lashState = .awaiting
    ∧ awaitingTicket.partner = some 9 ∧ (9 : TicketNo) ≠ awaitingTicket.number ∧ b.ticket? 9 = some partner9
    ∧ awaitingTicket.task = some (linkedTask st n).number ∧ b.task? 0 = some (linkedTask st n)
    ∧ (linkedTask st n).state = st ∧ (linkedTask st n).linked = n
    ∧ ∀ h : Gang, (0 : TaskNo) ∈ (b.gang h).tasks ↔ h = 1 := by decide +kernel

/-- CANCEL of a GRANTED ticket: the ticket after the withdrawal is another than before it. -/
theorem wit_CancelByState_granted : let b := withdraw (liftIn .granted .granted running) 3 (.cancel 501)
    let t := { ticketIn .granted with truck := some 7 }
    (b.ticket? t.number).isSome = true ∧ t.lashState ≠ .awaiting := by decide +kernel

/-- An AMEND that names row alone. -/
def amendRow : List Byte := [0x01, 0xF5, 0, 8, 0, 0, 0, 0, 9] ++ zeros 21

theorem wit_AmendChanges : PortReady (stateOf (withTicket heldTicket Berth.reset)) ∧ amendRow.length = 30
    ∧ (withTicket heldTicket Berth.reset).ticket? (word16At amendRow 0) = some heldTicket ∧ heldTicket.state = .held
    ∧ amendInvalid (word16At amendRow 2) amendRow = none
    ∧ comboInvalid (amendFields (word16At amendRow 2) amendRow heldTicket) = none
    ∧ amendRefusal (withTicket heldTicket Berth.reset) heldTicket (amendFields (word16At amendRow 2) amendRow heldTicket) =
        none := ⟨ready_stateOf _, by decide +kernel⟩

/-- Partners taken and given up, and an AWAITING ticket whose bay changes under a task of two tickets. -/
theorem wit_AmendChanges_others :
    (let b := { withTicket heldTicket Berth.reset with tickets := [partner9, heldTicket] };
      let u := amendFields 0x400 (amendOf 0x400 0 0 9) heldTicket;
      u.partner = some 9 ∧ heldTicket.partner = none ∧ (9 : TicketNo) ≠ heldTicket.number ∧ b.ticket? 9 = some partner9
      ∧ b.ticket? heldTicket.number = some heldTicket)
    ∧ (let t := { heldTicket with partner := some 9 }; let u := amendFields 0x400 (amendOf 0x400 0 0 0) t;
      t.partner = some 9 ∧ u.partner = none)
    ∧ (let t := { heldTicket with lash := .unlashBefore, lashState := .awaiting, task := some 0 };
      let u := amendFields 4 (amendOf 4 0 15 0) t;
      let b := { withTicket t Berth.reset with ltu := { Berth.reset.ltu with
        tasks := [{ unlashTask .opened with linked := 2 }] } };
      t.lashState = .awaiting ∧ u.bay ≠ t.bay ∧ t.task = some 0
      ∧ b.task? 0 = some { unlashTask .opened with linked := 2 } ∧ b.ticket? t.number = some t) := by decide +kernel

theorem wit_ForceEndsLift : ∃ (s : State) (n : TicketNo) (t : Ticket), PortReady s ∧ s.berth.ticket? n = some t
    ∧ t.state = .lifting ∧ s.berth.forceable t.crane = true :=
  ⟨stateOf (liftIn .lifting .lifting Berth.reset), 501, { ticketIn .lifting with truck := some 7 }, ready_stateOf _,
    by decide +kernel⟩

theorem wit_HaltAndResume : PortReady State.reset ∧ ∃ (b : Berth) (c : Crane) (t : Ticket), (b.crane c).work ≠ .granted
    ∧ t ∈ b.tickets ∧ t.crane = c ∧ t.state = .pending :=
  ⟨ready_stateOf _, withTicket (ticketIn .pending) Berth.reset, 3, ticketIn .pending, by decide +kernel⟩

theorem wit_HaltAndResume_granted :
    let b := (liftIn .granted .granted running).modCrane 3 fun r => { r with grantId := some 0 }
    let c := { b with tickets := b.tickets ++ [{ ticketIn .pending with number := 502 }] }
    (c.crane 3).work = .granted ∧ (c.crane 3).grantTicket = some 501 ∧ (c.crane 3).grantId = some 0
    ∧ (∃ t ∈ c.tickets, (c.crane 3).lift.contains t.number = true)
    ∧ ∃ t ∈ c.tickets, (c.crane 3).lift.contains t.number = false ∧ t.crane = 3 ∧ t.state = .pending := by decide +kernel

theorem wit_CraneModeAndLaneWrites : PortReady (stateOf running) ∧ running.mode = .run
    ∧ inSet running.shu.openLanes (0 : Lane).val = true
    ∧ inSet ({ running with shu := { running.shu with openLanes := 0 } } : Berth).shu.openLanes (5 : Lane).val = false :=
  ⟨ready_stateOf _, by decide +kernel⟩

theorem wit_TruckWrites : PortReady (stateOf (withTruck running)) ∧ (∃ p, (withTruck running).findTruck 7 = some p)
    ∧ (withTruck running).findTruck 8 = none := ⟨ready_stateOf _, ⟨.stand 3 truck, by decide +kernel⟩, by decide +kernel⟩

theorem wit_TruckWrites_states : truck.state ≠ .bound
    ∧ (∀ w ∈ [WorkState.granted, .lifting], let b := (liftIn w .granted (withTruck running)).modCrane 3 fun r =>
          { r with grantTruck := some 7 };
        ({ truck with state := .bound } : Truck).state = .bound ∧ (b.crane 3).grantTruck = some truck.tag
        ∧ (b.crane 3).work = w) := by decide +kernel

/-- R97: slot 31, every chassis, ANY, action REJECT, tags 1 to 0xFFFFFE. -/
def ruleBody : List Byte := [31, 1, 0, 0, 1, 0xFF, 0xFF, 0xFE, 0x0F, 1, 0, 0, 0, 0, 3, 0]

theorem wit_RuleWriteReplacesSlot : PortReady State.reset ∧ ruleBody.length = 16
    ∧ (byteAt ruleBody 0).toNat < State.reset.berth.sizes.ruleSlots ∧ ruleInvalid ruleBody = none :=
  ⟨ready_stateOf _, by decide +kernel⟩

/-- A RULE_WRITE body for each offset that R97 names, and two that are valid. -/
theorem wit_RuleWriteReplacesSlot_refusals : (ruleBody.set 0 32).length = 16
    ∧ State.reset.berth.sizes.ruleSlots ≤ (byteAt (ruleBody.set 0 32) 0).toNat
    ∧ byteAt (ruleBody.set 1 2) 1 ∉ [(0 : Byte), 1] ∧ validTag (word24At (ruleBody.set 4 0) 2) = false
    ∧ (let m := ruleBody.set 7 0xFF; validTag (word24At m 2) = true ∧ validTag (word24At m 5) = false)
    ∧ (let m := ((ruleBody.set 5 0).set 6 0).set 7 1; let m' := m.set 4 2;
      validTag (word24At m' 2) = true ∧ validTag (word24At m' 5) = true
      ∧ (word24At m' 5).toNat < (word24At m' 2).toNat ∧ (word24At m 2).toNat ≤ (word24At m 5).toNat)
    ∧ byteAt (ruleBody.set 9 4) 9 ∉ [(1 : Byte), 2, 3] ∧ ownerValid (slice (ruleBody.set 11 0x41) 10 4) = false
    ∧ byteAt (ruleBody.set 14 5) 14 ∉ [(1 : Byte), 2, 3, 4] ∧ byteAt (ruleBody.set 14 1) 15 = 0
    ∧ ruleInvalid (ruleBody.set 1 2) = some 1 ∧ ruleInvalid ((ruleBody.set 14 2).set 15 7) = none := by decide +kernel

theorem wit_GangWrites : PortReady (stateOf running) ∧ running.mode = .run
    ∧ (running.setGangClaim 1 (some { bay := 14, standing := .confirmed })).gangClaim 1 =
        some { bay := 14, standing := .confirmed }
    ∧ running.gangClaim 1 = none
    ∧ ((running.gang 1).roster &&& running.clock.shiftIndex ≠ 0 ∧ (running.gang 1).onDuty = false)
    ∧ (∀ a : Activity, ((gangWith a .queued running).gang 1).onDuty = true
        ∧ ((gangWith a .queued running).gang 1).activity = a
        ∧ ((gangWith a .queued running).gang 1).roster &&& running.clock.shiftIndex ≠ 0)
    ∧ ∀ a : Activity, let b := (gangWith a .queued running).modGang 1 fun r => { r with roster := 8 };
        (b.gang 1).roster &&& b.clock.shiftIndex = 0 ∧ (b.gang 1).onDuty = true ∧ (b.gang 1).activity = a := by
  refine ⟨ready_stateOf _, by decide +kernel, by decide +kernel, by decide +kernel, by decide +kernel, ?_, ?_⟩ <;>
    intro a <;> cases a <;> decide +kernel

theorem wit_GangWrites_off : let b := running.modGang 1 fun r => { r with roster := 8 }
    (b.gang 1).roster &&& b.clock.shiftIndex = 0 ∧ (b.gang 1).onDuty = false := by decide +kernel

/-- Gang 1 ON_DECK with an ACTIVE UNLASH task that no ticket is linked to, and a QUEUED one behind it. -/
def owedBerth (relief : Bool) : Berth :=
  let b := (gangWith .onDeck .active running).setGangClaim 1 (some { bay := 14, standing := .confirmed })
  ({ b with ltu := { b.ltu with tasks := [linkedTask .active 0, { unlashTask .queued with number := 1 }] } }).modGang 1
    fun r => { r with tasks := [0, 1], reliefDue := relief }

/-- GangWrites and GangReports: such a first task, relief-due or not; and none such. -/
theorem wit_GangWrites_owed : (∀ r : Bool, let b := owedBerth r; b.firstTask 1 = some (linkedTask .active 0)
      ∧ (linkedTask .active 0).state = .active ∧ (linkedTask .active 0).kind = .unlash ∧ (linkedTask .active 0).linked = 0
      ∧ (b.gang 1).reliefDue = r ∧ (1 : TaskNo) ∈ (b.gang 1).tasks ∧ b.task? 1 = some { unlashTask .queued with number := 1 })
    ∧ (let b := gangWith .onDeck .active running; b.firstTask 1 = some (unlashTask .active)
      ∧ (unlashTask .active).state = .active ∧ (unlashTask .active).linked ≠ 0 ∧ (b.gang 1).reliefDue = false)
    ∧ running.firstTask 1 = none := by
  refine ⟨fun r => ?_, by decide +kernel, by decide +kernel⟩
  cases r <;> decide +kernel

/-- The rows of GANG_DUTY and a GANG_SERVE that makes a task OPEN. -/
theorem wit_GangWrites_rows : (∀ a : Activity, let b := gangWith a .dispatched running;
      (b.gang 1).onDuty = true ∧ (b.gang 1).reliefDue = false ∧ (b.gang 1).activity = a
      ∧ (b.gang 1).tasks.head? = some 0 ∧ b.task? 0 = some (unlashTask .dispatched))
    ∧ (running.gang 1).onDuty = false
    ∧ (let b := (gangWith .waitDeck .dispatched running).setGangClaim 1 (some { bay := 14, standing := .clearing });
      b.gangClaim 1 = some { bay := 14, standing := .clearing } ∧ running.gangClaim 1 = none)
    ∧ (let b := gangWith .idle .queued running;
      (b.task? 0).any (fun t => t.state == .queued && !inSet (1 : BitVec 8) t.crane.val) = true) := by
  refine ⟨fun a => ?_, by decide +kernel, by decide +kernel, by decide +kernel⟩
  cases a <;> decide +kernel

theorem wit_ClockCommandsAndSteps : PortReady State.reset ∧ State.reset.berth.clock.running = false
    ∧ PortReady (stateOf (clockRuns Berth.reset)) ∧ (clockRuns Berth.reset).clock.running = true
    ∧ (State.reset.berth.now.adjust 127).secs ≠ State.reset.berth.nowSecs
    ∧ (State.reset.berth.now.adjust 15).secs = State.reset.berth.nowSecs :=
  ⟨ready_stateOf _, rfl, ready_stateOf _, by decide +kernel⟩

theorem wit_ClockCommandsAndSteps_steps : (stateOf (clockRuns running)).port.inReset = false ∧ (clockRuns running).clock.running = true
    ∧ running.clock.running = false := by decide +kernel

/-- Crane 3's grant is due at 0, and the clock runs at 0. -/
def dueBerth : Berth := clockRuns ((liftIn .granted .granted running).modCrane 3 fun r =>
  { r with due := some { secs := 0, six := 0 } })

/-- Crane 3 has waited since 0 for a truck, and it is 120 s. -/
def starvedBerth : Berth :=
  (clockRuns (withTicket { ticketIn .pending with reason := .truck } running)).setTime { secs := 120, six := 0 }
    |>.modCrane 3 fun r => { r with work := .waiting, starveStart := some { secs := 0, six := 0 } }

theorem wit_DueTimeEvents : dueBerth.expiryDue 3 = true ∧ dueBerth.expiryDue 2 = false
    ∧ starvedBerth.starveMet 3 = true ∧ starvedBerth.starveMet 2 = false
    ∧ (∃ (b : Berth) (n : TicketNo) (t : Ticket), b.ticket? n = some t ∧ t ∈ b.tickets ∧ t.late? b.clock = true)
    ∧ (let b := (clockRuns running).setTime { secs := 28800, six := 0 };
        b.clock.running = true ∧ shiftOneHot b.params b.nowSecs ≠ b.clock.shiftIndex)
    ∧ running.clock.running = false := by
  refine ⟨by decide +kernel, by decide +kernel, by decide +kernel, by decide +kernel, ?_, by decide +kernel, rfl⟩
  exact ⟨clockRuns (withTicket { heldTicket with deadline := some 0 } running), 501, { heldTicket with deadline := some 0 },
    by decide +kernel⟩

theorem wit_Shifts : shiftOneHot running.params running.nowSecs = running.clock.shiftIndex
    ∧ (let b := running.setTime { secs := 28800, six := 0 }; shiftOneHot b.params b.nowSecs ≠ b.clock.shiftIndex) := by
  decide +kernel

theorem wit_NoticeClear : PortReady State.reset ∧ ticketDone &&& edgeCauses = ticketDone
    ∧ shiftChange &&& edgeCauses = shiftChange ∧ ticketDone &&& 0xFFFF = ticketDone := ⟨ready_stateOf _, by decide⟩

theorem wit_ModeMoves : PortReady State.reset ∧ State.reset.berth.mode = .config ∧ State.reset.berth.sizes.sum ≤ 1600
    ∧ PortReady (stateOf running) ∧ running.mode = .run ∧ running.lifting = false
    ∧ PortReady (stateOf (Berth.reset.setMode .monitor)) ∧ (Berth.reset.setMode .monitor).mode = .monitor
    ∧ 1600 < ({ ticketSlots := 1536, taskSlots := 256, ruleSlots := 64 } : Sizes).sum
    ∧ (craneIn .granted running).busyCrane = some 3 :=
  ⟨ready_stateOf _, rfl, by decide, ready_stateOf _, rfl, by decide +kernel, ready_stateOf _, rfl, by decide, by decide +kernel⟩

theorem wit_ModeMoves_entering : running.lifting = false := by decide +kernel

theorem wit_ConfigAndPartitionWrites : PortReady State.reset ∧ State.reset.berth.mode = .config
    ∧ (paramInRange 1 8 = true ∧ configGuard State.reset.berth 1 7 8 = none)
    ∧ (paramInRange 3 63 = true ∧ configGuard State.reset.berth 3 7 63 = none)
    ∧ (paramInRange 7 0 = true ∧ configGuard State.reset.berth 7 7 0 = none)
    ∧ (paramInRange 16 4294967295 = true ∧ configGuard State.reset.berth 16 7 0xFFFFFFFF = none) :=
  ⟨ready_stateOf _, rfl, by decide +kernel, by decide +kernel, by decide +kernel, ⟨rfl, rfl⟩⟩

theorem wit_ConfigAndPartitionWrites_partition : ∀ z ∈ [({ ticketSlots := 1024, taskSlots := 128, ruleSlots := 32 } : Sizes),
    { ticketSlots := 1536, taskSlots := 256, ruleSlots := 64 }], partitionInvalidAt z = none ∧ PortReady State.reset
    ∧ State.reset.berth.mode = .config ∧ State.reset.berth.tickets = [] ∧ State.reset.berth.ltu.tasks = []
    ∧ State.reset.berth.ltu.reserved = 0 := by
  intro z h
  simp only [List.mem_cons, List.not_mem_nil, or_false] at h
  rcases h with rfl | rfl <;> exact ⟨by decide, ready_stateOf _, rfl, rfl, rfl, rfl⟩

/-- CONFIG_WRITE and PARTITION refused at each of their checks. -/
theorem wit_ConfigAndPartitionWrites_refusals :
    ((0 : Byte).toNat < 1 ∧ 16 < (17 : Byte).toNat ∧ 7 < (8 : Byte).toNat ∧ paramInRange 15 5 = false)
    ∧ (let b := Berth.reset.modStand 3 fun _ => [truck, { truck with lane := some 4, stay := 1 }];
      paramInRange 3 2 = true ∧ inSet ((2 : BitVec 32).extractLsb' 0 6) (0 : Lane).val = false
      ∧ (∃ t ∈ b.stand 3, t.lane = some 0) ∧ (∀ t ∈ b.stand 3, ∀ m, m < (0 : Lane) → t.lane ≠ some m) ∧ b.mode = .config)
    ∧ (let b := { Berth.reset with shu := { Berth.reset.shu with holding := [truck] } }; (0 : BitVec 32).toNat < b.occupancy)
    ∧ partitionInvalidAt ⟨32, 128, 32⟩ = some 0 ∧ partitionInvalidAt ⟨64, 8, 32⟩ = some 2
    ∧ partitionInvalidAt ⟨64, 16, 65⟩ = some 4 ∧ partitionInvalidAt ⟨64, 16, 0⟩ = none
    ∧ (withTicket heldTicket Berth.reset).tickets ≠ []
    ∧ ((gangWith .idle .opened Berth.reset).tickets = [] ∧ (gangWith .idle .opened Berth.reset).ltu.tasks ≠ []) := by
  decide +kernel

/-- Log 44: with a ticket and a task in the pools, PARTITION answers detail 1. -/
theorem test_partition_both : (ownPartition (withTicket heldTicket (gangWith .idle .opened Berth.reset))
    (bytes16 64 ++ bytes16 16 ++ [0])).2 = { code := .occupied, entity := 0, detail := 1 } := by decide +kernel

theorem wit_ClearTables : PortReady State.reset ∧ State.reset.berth.mode = .config := ⟨ready_stateOf _, rfl⟩

theorem speaks (b : Berth) (hw : b.qlc.window = none) (hm : b.mode = .run) (st : Station) (ho : b.online st = true) :
    StationSpeaks (stateOf b) st := ⟨⟨rfl, hw⟩, hm, ho⟩

/-- CraneReports, Lookups: every station speaks in `running`. -/
theorem wit_CraneReports : (∀ st : Station, StationSpeaks (stateOf running) st)
    ∧ CraneSpeaks (stateOf (craneIn .waiting running)) 3 ∧ ((craneIn .waiting running).crane 3).work = .waiting
    ∧ ((heardFrom running (craneStation 3)).crane 3).work = .idle
    ∧ ((heardFrom running (craneStation 3)).crane 3).halt = false
    ∧ ((heardFrom running (craneStation 3)).crane 3).control = .auto := by
  refine ⟨fun st => speaks _ rfl rfl st ?_, ⟨⟨rfl, rfl⟩, rfl, ?_⟩, by decide +kernel⟩
  · revert st; decide +kernel
  · decide +kernel

theorem wit_CraneReports_control : ∀ k ∈ [Control.auto, .manual], ∀ w ∈ [WorkState.idle, .waiting, .granted, .lifting],
    let b := (craneIn w running).modCrane 3 fun r => { r with control := k };
    (b.crane 3).control = k ∧ (b.crane 3).work = w := by decide +kernel

/-- Every station OFFLINE, in a mode. -/
def silent (m : Mode) : Berth := { Berth.reset with mode := m }

theorem wit_StationsReturn : (∀ m : Mode, LinkReady (stateOf (silent m))) ∧ (∀ st, (silent .run).online st = false)
    ∧ (∀ st, running.online st = true) ∧ (silent .run).qlc.window = none ∧ (silent .run).mode ≠ .monitor
    ∧ (roleOf 11).kinds.contains kindOffDeck = true ∧ kindOffDeck ≠ kindReply ∧ (1 : BitVec 2) = classOf kindOffDeck
    ∧ lengthAllowed kindOffDeck [] = true := by
  refine ⟨fun m => ⟨rfl, rfl⟩, ?_, ?_, by decide +kernel⟩ <;> decide +kernel

theorem wit_ReportRefusals :
    (∃ (b : Berth) (c : Crane), (b.crane c).halt = true)
    ∧ (∃ (b : Berth) (c : Crane), (b.crane c).halt = false ∧ (b.crane c).control = .manual)
    ∧ (∃ (b : Berth) (c : Crane), (b.crane c).halt = false ∧ (b.crane c).control = .auto ∧ (b.crane c).work.lifted = true)
    ∧ ((running.crane 3).work.lifted = false ∧ 127 < (128 : Bay).toNat)
    ∧ (∃ (b : Berth) (c : Crane) (n : TicketNo), (b.crane c).control = .auto ∧ (b.crane c).lift.contains n = false
        ∧ (b.crane c).expired n = true)
    ∧ ((running.crane 3).control = .auto ∧ (running.crane 3).lift.contains 501 = false
        ∧ (running.crane 3).expired 501 = false ∧ (running.crane 3).work ≠ .lifting)
    ∧ (let b := liftIn .lifting .lifting running;
        (b.crane 3).work = .lifting ∧ (b.crane 3).lift.contains 501 = true ∧ (b.crane 3).lift.contains 502 = false)
    ∧ (let b := (liftIn .lifting .lifting running).modTicket 501 fun t => { t with truck := none };
        (b.crane 3).work = .lifting ∧ (b.crane 3).lift.contains 501 = true ∧ b.targetGone 3 = true)
    ∧ running.ticket? 501 = none
    ∧ (∃ (b : Berth) (t : Ticket), b.ticket? 501 = some t ∧ (b.crane 3).halt = true)
    ∧ (∃ (b : Berth) (t : Ticket), b.ticket? 501 = some t ∧ (b.crane 3).halt = false ∧ t.state ≠ .pending)
    ∧ ∃ (b : Berth) (t : Ticket) (e : Reason), b.ticket? 501 = some t ∧ (b.crane 3).halt = false ∧ t.crane = 3
        ∧ t.state = .pending ∧ (checkCandidate b 3 (b.candidateOf t) none).toOption = none
        ∧ checkCandidate b 3 (b.candidateOf t) none = .error e := by
  let halted := withTicket heldTicket (running.modCrane 3 fun r => { r with halt := true })
  refine ⟨⟨halted, 3, by decide +kernel⟩,
    ⟨running.modCrane 3 fun r => { r with control := .manual }, 3, by decide +kernel⟩,
    ⟨craneIn .granted running, 3, by decide +kernel⟩, by decide +kernel,
    ⟨running.modCrane 3 fun r => { r with lastExpired := some (501, none) }, 3, 501, by decide +kernel⟩,
    by decide +kernel, by decide +kernel, by decide +kernel, by decide +kernel,
    ⟨halted, heldTicket, by decide +kernel⟩, ⟨withTicket heldTicket running, heldTicket, by decide +kernel⟩,
    ⟨withTicket (ticketIn .pending) running, ticketIn .pending, .truck, by decide +kernel, by decide +kernel,
      by decide +kernel, by decide +kernel, rfl, rfl⟩⟩

theorem wit_LiftReports : (let b := liftIn .granted .granted running;
      CraneSpeaks (stateOf b) 3 ∧ (b.crane 3).lift.contains 501 = true ∧ (b.crane 3).work = .granted)
    ∧ (let b := liftIn .lifting .lifting running;
      CraneSpeaks (stateOf b) 3 ∧ (b.crane 3).lift.contains 501 = true ∧ (b.crane 3).work = .lifting
        ∧ b.targetGone 3 = false)
    ∧ (let b := running.modCrane 3 fun r => { r with control := .manual };
      CraneSpeaks (stateOf b) 3 ∧ (b.crane 3).work = .idle ∧ (b.crane 3).control = .manual) := by
  refine ⟨⟨⟨⟨rfl, rfl⟩, rfl, ?_⟩, ?_⟩, ⟨⟨⟨rfl, rfl⟩, rfl, ?_⟩, ?_⟩, ⟨⟨rfl, rfl⟩, rfl, ?_⟩, ?_⟩ <;> decide +kernel

/-- ABCU1234560, as it travels on the link. -/
def linkBox : List Byte := [0x41, 0x42, 0x43, 0x55, 0x12, 0x34, 0x56, 0x0F]

theorem wit_GateReports : StationSpeaks (stateOf running) gateIn ∧ StationSpeaks (stateOf (withTruck running)) gateOut
    ∧ (∀ x ∈ [((0x80 : Byte), ([] : List Byte), ([] : List ContainerId)), (0x81, linkBox, [box])],
        x.2.1.length = 8 * (x.1.extractLsb' 0 2).toNat ∧ (x.1.extractLsb' 0 2).toNat ≤ 2
        ∧ cargoOf? (bytes24 7 ++ [x.1] ++ x.2.1) (x.1.extractLsb' 0 2).toNat = some x.2.2 ∧ x.1.msb = true)
    ∧ (validTag 7 = true ∧ (heardFrom running gateIn).findTruck 7 = none)
    ∧ (cargoOf? (bytes24 7 ++ [0x81] ++ zeros 8) 1 = none ∧ (zeros 8).length = 8 * ((0x81 : Byte).extractLsb' 0 2).toNat)
    ∧ validTag 0 = false ∧ cargoOf? (bytes24 7 ++ [0] ++ []) 0 ≠ none
    ∧ (∃ p, (withTruck running).findTruck 7 = some p) ∧ (heardFrom (withTruck running) gateOut).findTruck 8 = none
    ∧ ((0 : Byte).msb = false ∧ running.params.lenient = false
      ∧ ({ running with params := { running.params with lenient := true } } : Berth).params.lenient = true)
    ∧ (let b := { running with params := { running.params with holdDepth := 0 } }; b.params.holdDepth ≤ b.occupancy) := by
  refine ⟨⟨⟨rfl, rfl⟩, rfl, ?_⟩, ⟨⟨rfl, rfl⟩, rfl, ?_⟩, ?_, ?_, ?_, ?_, ?_, ⟨.stand 3 truck, ?_⟩, ?_⟩ <;> decide +kernel

/-- A routing rule for every truck. -/
def ruleFor (a : RuleAction) : Rule :=
  { enabled := true, tagLo := 1, tagHi := 0xFFFFFE, chassis := 0xF, cond := some .any, owner := [], action := some a,
    mask := 0x08 }

theorem wit_ArrivalRouting : (withTicket heldTicket running).indexTargets [box] ≠ 0 ∧ running.indexTargets [box] = 0
    ∧ (∀ a ∈ [RuleAction.cranes, .hold, .reject, .priority], (ruleFor a).enabled = true
        ∧ (ruleFor a).matches 7 .s20 [] = true ∧ (ruleFor a).action = some a)
    ∧ Rule.cleared.enabled = false
    ∧ (∀ a ∈ [RuleAction.cranes, .hold, .reject], let b := { running with shu := { running.shu with rules := [ruleFor a] } };
        (b.route 7 .s20 []).1 = match a with | .cranes => .stand 0x08 | .hold => .hold 0x08 | _ => .reject)
    ∧ running.standFor 0x08 = some 3 ∧ running.lowestLane 3 = some 0 ∧ (silent .run).standFor 0x08 = none
    ∧ running.occupancy < running.params.holdDepth := by decide +kernel

theorem wit_GangReports : (∀ b ∈ [running, gangWith .assigned .dispatched running], StationSpeaks (stateOf b) (gangStation 1))
    ∧ (let b := gangWith .assigned .dispatched running;
      b.firstTask 1 = some (unlashTask .dispatched) ∧ (b.gang 1).activity = .assigned ∧ b.gangClaim 1 = none
        ∧ b.isWaiter 1 = false ∧ b.gangMayClaim 14 = true)
    ∧ (let b := gangWith .onDeck .active running;
      b.firstTask 1 = some (unlashTask .active) ∧ (b.gang 1).activity = .onDeck
        ∧ (completeTask b 1 (unlashTask .active)).firstTask 1 = none)
    ∧ (running.setGangClaim 1 (some { bay := 14, standing := .confirmed })).gangClaim 1 =
        some { bay := 14, standing := .confirmed }
    ∧ (let b := (gangWith .waitDeck .dispatched running).setGangClaim 1 (some { bay := 14, standing := .clearing });
      b.firstTask 1 = some (unlashTask .dispatched) ∧ (b.gang 1).activity = .waitDeck
        ∧ b.gangClaim 1 = some { bay := 14, standing := .clearing })
    ∧ (let b := { (gangWith .waitDeck .dispatched running) with bct := { running.bct with waiters := [(1, 14)] } };
      b.gangClaim 1 = none ∧ b.isWaiter 1 = true)
    ∧ (let b := (gangWith .assigned .dispatched running).setCraneClaim 0 (some 14);
      b.gangClaim 1 = none ∧ b.isWaiter 1 = false ∧ b.gangMayClaim 14 = false) := by
  refine ⟨?_, by decide +kernel, by decide +kernel, by decide +kernel, by decide +kernel, by decide +kernel,
    by decide +kernel⟩
  intro b h
  simp only [List.mem_cons, List.not_mem_nil, or_false] at h
  rcases h with rfl | rfl <;> exact ⟨⟨rfl, rfl⟩, rfl, by decide +kernel⟩

/-- Gang 1 ON_DECK at bay 14 with an ACTIVE task and another QUEUED at a bay behind it. -/
def twoTasks (bay : Bay) : Berth :=
  let b := gangWith .onDeck .active running
  ({ b with ltu := { b.ltu with tasks := [unlashTask .active, { unlashTask .queued with number := 1, bay }] } }).modGang 1
    fun r => { r with tasks := [0, 1] }

theorem wit_GangReports_more :
    (∀ bay ∈ [(14 : Bay), 15], let b := twoTasks bay;
      b.firstTask 1 = some (unlashTask .active) ∧ (b.gang 1).activity = .onDeck ∧ (b.gang 1).reliefDue = false
      ∧ (completeTask b 1 (unlashTask .active)).firstTask 1 = some { unlashTask .queued with number := 1, bay })
    ∧ (let b := (gangWith .onDeck .active running).setGangClaim 1 (some { bay := 14, standing := .confirmed });
      b.gangClaim 1 = some { bay := (unlashTask .active).bay, standing := .confirmed })
    ∧ (let b := gangWith .idle .queued running; b.firstTask 1 = some (unlashTask .queued)
      ∧ (unlashTask .queued).state ≠ .dispatched ∧ (unlashTask .queued).state ≠ .active)
    ∧ running.gangClaim 1 = none := by decide +kernel

theorem wit_GangAssignment :
    (let b := (gangWith .idle .opened running).modGang 1 fun r => { r with tasks := [] };
      b.eligible (unlashTask .opened) 1 = true ∧ (∀ h, b.eligible (unlashTask .opened) h = true → h = 1))
    ∧ (∀ g, running.eligible (unlashTask .opened) g = false)
    ∧ ((gangWith .idle .queued running).task? 0 = some (unlashTask .queued) ∧ (unlashTask .queued).kind = .unlash)
    ∧ (let b := { running with ltu := { running.ltu with tasks := [{ unlashTask .queued with kind := .lash }] } };
      b.task? 0 = some { unlashTask .queued with kind := .lash } ∧ b.task? 5 = none)
    ∧ (let b := gangWith .idle .queued running; (b.gang 1).activity = .idle ∧ (b.gang 1).onDuty = true
      ∧ b.online (gangStation 1) = true ∧ b.firstTask 1 = some (unlashTask .queued))
    ∧ running.mode = .run := by decide +kernel

theorem wit_LinkRefusals : running.qlc.window = none ∧ running.mode ≠ .monitor
    ∧ (Berth.reset.setMode .monitor).mode = .monitor ∧ (Berth.reset.setMode .monitor).qlc.window = none
    ∧ 14 ≤ (15 : Station).val ∧ (13 : Station).val < 14
    ∧ ((roleOf 13).kinds.contains kindAsk = false ∧ kindAsk ≠ kindReply)
    ∧ ((roleOf 0).kinds.contains kindAsk = true ∧ (1 : BitVec 2) = classOf kindAsk
        ∧ (2 : BitVec 2) ≠ classOf kindAsk ∧ lengthAllowed kindAsk [0] = false) := by decide +kernel

theorem wit_DiscardedFrames : LinkReady State.reset ∧ parseFrame [] = none ∧ parseFrame (zeros 5) = none
    ∧ (zeros 24).length ≤ 24 := ⟨⟨rfl, rfl⟩, by decide +kernel⟩

def recallOrder (inFlight : Bool) (n : Nat) : Order :=
  { body := .recall 0, attempts := n, inFlight, queueTime := { secs := 0, six := 0 } }

def dispatchOrder (inFlight : Bool) (n : Nat) : Order := { recallOrder inFlight n with body := .dispatch 0 .unlash 14 3 }

theorem wit_OrderSlotRows : (dispatchOrder false 0).inFlight = false ∧ (dispatchOrder true 0).inFlight = true
    ∧ (OrderBody.recall 0).cancels (dispatchOrder false 0).body = true
    ∧ (OrderBody.recall 1).cancels (dispatchOrder false 0).body = false
    ∧ (dispatchOrder true 3).attempts = 3 ∧ (dispatchOrder true 2).attempts < 3
    ∧ (recallOrder false 0).body.cancels (dispatchOrder true 0).body = true
    ∧ (dispatchOrder false 0).body.cancels (recallOrder true 0).body = false
    ∧ AttemptEnd.refused ≠ .accepted ∧ AttemptEnd.noReply ≠ .accepted := by decide +kernel

def promoteOrder (tag : Tag) (inFlight : Bool) (n : Nat) : Order :=
  { recallOrder inFlight n with body := .promote tag 3 0 tag.toNat }

/-- The promote queue: a removed tag at the head, behind it, and at a head in flight; and the ends of the head's attempt. -/
theorem wit_OrderSlotRows_promotes : let o := promoteOrder 7 false 0; let n := promoteOrder 8 false 0
    let stays (x : Order) : Bool := x.inFlight || x.body.promoteTag != some 7
    stays o = false ∧ stays n = true ∧ stays (promoteOrder 7 true 0) = true ∧ [n].filter stays = n :: []
    ∧ ([] : List Order).filter stays = [] ∧ (promoteOrder 7 true 3).inFlight = true ∧ (∀ x ∈ [n], x.inFlight = false)
    ∧ (promoteOrder 7 true 3).attempts = 3 ∧ (promoteOrder 7 true 2).attempts < 3
    ∧ 8 ≤ (List.replicate 8 n).length := by decide +kernel

/-- A DISPATCH waits for gang 1. -/
def posted : Berth := running.postGang 1 (.dispatch 0 .unlash 14 3)

theorem wit_OrderTraffic : LinkReady (stateOf posted) ∧ posted.mode = .run
    ∧ (∃ o, (posted.setSent none).nextOrder = some (gangStation 1, o))
    ∧ (stateOf (running.setWindow (some 11))).berth.qlc.window = some 11 ∧ (stateOf running).berth.qlc.window = none
    ∧ ∃ (b : Berth) (c : Crane), (b.station (craneStation c)).fails = 2 ∧ (b.crane c).work = .idle := by
  refine ⟨⟨rfl, rfl⟩, rfl, ⟨dispatchOrder false 0, by decide +kernel⟩, rfl, rfl,
    running.modStation 3 fun r => { r with fails := 2 }, 3, by decide +kernel⟩


/-- R174: two crane orders of one queue time, where the lower station's is sent; two gang orders, where the earlier is; and a
PROMOTE where no slot has an order to send. -/
theorem wit_OrderTraffic_next :
    (let b := (running.postCrane 5 (.withdraw 1 none 0)).postCrane 2 (.withdraw 2 none 1);
      b.nextOrder.map (·.1) = some (craneStation 2))
    ∧ (let b := ((clockRuns running).postGang 1 (.recall 0)).setTime { secs := 1, six := 0 } |>.postGang 0 (.recall 1);
      b.nextOrder.map (·.1) = some (gangStation 1))
    ∧ (let b := running.postPromote (.promote 7 3 0 0);
      b.nextOrder.map (·.1) = some gateIn ∧ (∀ c : Crane, b.qlc.craneSlots[c].current = none)
      ∧ ∀ g : Gang, b.qlc.gangSlots[g].current = none)
    ∧ running.nextOrder = none ∧ (frameOf 5 0 (zeros 24)).body.length ≤ 24 ∧ (11 : Station) ≠ 12 := by decide +kernel

/-- A DECK_CLEAR, a DISPATCH and a GRANT that still stand when they are reported. -/
theorem wit_StationsGoOffline_reports :
    (let b := (gangWith .waitDeck .dispatched running).setGangClaim 1 (some { bay := 14, standing := .clearing });
      (b.gang 1).activity = .waitDeck ∧ (b.gang 1).tasks.head? = some 0
      ∧ b.gangClaim 1 = some { bay := 14, standing := .clearing } ∧ b.isWaiter 1 = false)
    ∧ (running.gang 1).activity ≠ .waitDeck
    ∧ (let b := gangWith .assigned .dispatched running; b.firstTask 1 = some (unlashTask .dispatched)
      ∧ (unlashTask .dispatched).number = 0 ∧ (unlashTask .dispatched).state = .dispatched ∧ (b.gang 1).activity = .assigned)
    ∧ running.firstTask 1 = none
    ∧ (let b := (liftIn .granted .granted running).modCrane 3 fun r => { r with grantId := some 0 };
      (b.crane 3).work = .granted ∧ (b.crane 3).grantId = some 0 ∧ (running.crane 3).work ≠ .granted) := by decide +kernel

theorem wit_StationsGoOffline : (∀ n : Fin 4, ((running.modStation 3 fun r => { r with fails := n }).station 3).fails = n)
    ∧ (∀ w ∈ [WorkState.idle, .waiting, .granted, .lifting], ((liftIn w .lifting running).crane 3).work = w)
    ∧ ((running.setGangClaim 1 (some { bay := 14, standing := .confirmed })).gangClaim 1 =
        some { bay := 14, standing := .confirmed } ∧ running.gangClaim 1 = none)
    ∧ (∀ a ∈ [Activity.idle, .onDeck], ((gangWith a .active running).gang 1).activity = a
        ∧ (gangWith a .active running).task? 0 = some (unlashTask .active)) := by decide +kernel

theorem wit_GrantReserves :
    (checkCandidate grantable 3 { lead := ticketIn .pending, other := none } none).toOption = some (some truck)
    ∧ (ticketIn .pending ∈ grantable.tickets ∧ (ticketIn .pending).number ∈
        ({ lead := ticketIn .pending, other := none } : Candidate).numbers)
    ∧ (grantable.ticket? (ticketIn .pending).number = some (ticketIn .pending) ∧ (grantable.crane 3).halt = false
      ∧ (ticketIn .pending).crane = 3 ∧ (ticketIn .pending).state = .pending
      ∧ grantable.candidateOf (ticketIn .pending) = { lead := ticketIn .pending, other := none }) := by decide +kernel

/-- The truck match: a single and a pair of DISCHARGE, the first of two entries that carry it; a LOAD whose entries are none,
unverified and verified. -/
theorem wit_GrantReserves_match :
    let single : Candidate := { lead := ticketIn .pending, other := none }
    let pair : Candidate := { lead := ticketIn .pending, other := some partner9 }
    let lone : Candidate := { lead := { ticketIn .pending with kind := .load }, other := none }
    let laden (unverified : Bool) : Truck := { truck with tag := 8, stay := 1, cargo := [box], unverified }
    let stand (l : List Truck) : Berth := running.modStand 3 fun _ => l
    let ok (b : Berth) (k : Candidate) (pin : Option Tag) : Option (Option Truck) := (truckMatch b 3 k pin).toOption
    let twin : Truck := { truck with chassis := .twin, tag := 9, stay := 2 }
    ok (stand [laden false, truck, twin]) single none = some (some truck)
    ∧ ok (stand [truck, twin]) pair none = some (some twin) ∧ ok (stand [truck]) pair none = none
    ∧ ok (stand [truck, twin]) single (some 9) = some (some twin) ∧ ok (stand []) single none = none
    ∧ ok (stand [truck, laden true, laden false]) lone none = some (some (laden false))
    ∧ ok (stand [laden true]) lone none = none ∧ ok (stand [truck]) lone none = none
    ∧ (ticketIn .pending).kind = .discharge ∧ lone.lead.kind = .load
    ∧ (∀ k ∈ [Kind.restow, .hatch], ok running { lead := { ticketIn .pending with kind := k }, other := none } none = some none)
    := by decide +kernel

/-- A LASH_AFTER lift of crane 3 that landed: with a LASH task at its bay, and with none. -/
theorem wit_LiftRecords_lash : let lash : Machine.Task := { unlashTask .queued with kind := .lash }
    let b := ((liftIn .lifting .lifting running).modTicket 501 fun t => { t with lashState := .reserved }).modCrane 3
      fun r => { r with grantBay := some 14 }
    let c := { b with ltu := { b.ltu with tasks := [lash] } }
    b.params.autoRetire = false ∧ (b.crane 3).grantBay = some 14
    ∧ ((b.crane 3).lift.filter fun n => (b.ticket? n).any fun t => t.lashState == .reserved) = [501]
    ∧ (∃ t ∈ b.tickets, [(501 : TicketNo)].contains t.number = true)
    ∧ b.joinableLash 14 = none ∧ b.freeTaskSlot = some 0 ∧ c.joinableLash 14 = some lash
    ∧ (running.crane 3).grantBay = none := by decide +kernel

theorem wit_LiftRecords : (let b := liftIn .lifting .lifting running;
      b.params.autoRetire = false ∧ 501 ∈ (b.crane 3).lift
        ∧ ∃ t ∈ b.tickets, (b.crane 3).lift.contains t.number = true)
    ∧ (let b := liftIn .lifting .lifting { running with params := { running.params with autoRetire := true } };
      b.params.autoRetire = true ∧ 501 ∈ (b.crane 3).lift) := by decide +kernel

theorem wit_EndOfChange : Quiet Berth.reset ∧ (running.crane 3).work ≠ .waiting := by
  refine ⟨⟨by decide, rfl⟩, by decide +kernel⟩

/-- Every cause of withdrawal, counted or not, and with and without a GRANT's identity. -/
theorem wit_WithdrawalUndoes : (let b := (liftIn .granted .granted running).modCrane 3 fun r => { r with grantId := some 0 };
      (b.crane 3).grantTicket = some 501 ∧ (b.crane 3).grantId = some 0 ∧ (∃ t ∈ b.tickets, (b.crane 3).lift.contains t.number)
      ∧ Cause.expiry ≠ .offline)
    ∧ (∃ t ∈ (withTicket heldTicket running).tickets, (running.crane 3).lift.contains t.number = false) := by decide +kernel

/-- Two candidates of crane 3, the second of higher priority. -/
def twoPending (m : SeqMode) (b : Berth) : Berth :=
  ({ b with tickets := [ticketIn .pending, { ticketIn .pending with number := 502, priority := 2 }] }).modCrane 3
    fun r => { r with seqMode := m, work := .waiting }

theorem wit_PassChoices : TicketsKept (stateOf (twoPending .strict (withTruck running)))
    ∧ ((twoPending .strict running).headCandidate 3 = some { lead := ticketIn .pending, other := none }
      ∧ (running.headCandidate 3 = none ∧ running.pendingOf 3 = []))
    ∧ (∀ m ∈ [SeqMode.strict, .priority],
      let good := twoPending m (withTruck running); let bad := twoPending m running;
      (good.crane 3).seqMode = m ∧ (bad.crane 3).seqMode = m ∧ good.waitingCranes = [3]
      ∧ (good.candidates 3).all (fun k => (checkCandidate good 3 k none).toOption.isSome) = true
      ∧ (bad.candidates 3).all (fun k => (checkCandidate bad 3 k none).toOption.isNone) = true
      ∧ (good.candidates 3).length = 2)
    ∧ (((settle (twoPending .strict running)).crane 3).work = .waiting
      ∧ ((settle (twoPending .priority running)).crane 3).work = .waiting) := by
  refine ⟨⟨by decide +kernel, by decide +kernel⟩, by decide +kernel⟩

/-- Crane 3 waits past its starve time with a ticket whose reason its next pass will rewrite. -/
def hungryBerth : Berth := starvedBerth.setReasons [501] .none

/-- R61: the pass that writes TRUCK is followed by the starve check; a pass that grants or that nothing starves is not. -/
theorem wit_PassChoices_starve : hungryBerth.waitingCranes = [3] ∧ hungryBerth.starveMet 3 = false
    ∧ (selectionPass hungryBerth 3).starveMet 3 = true
    ∧ (runPasses hungryBerth).nu.raw = craneStarvedCause ∧ ((runPasses hungryBerth).crane 3).starveReported = true
    ∧ ((selectionPass (twoPending .strict (withTruck running)) 3).crane 3).work ≠ .waiting
    ∧ (selectionPass (twoPending .strict running) 3).starveMet 3 = false := by
  decide +kernel

theorem wit_DueTimeEvents_starve : ((settle hungryBerth).crane 3).starveReported = true
    ∧ (starvedBerth.crane 3).seqMode = .strict
    ∧ (starvedBerth.modCrane 3 fun r => { r with seqMode := .priority }).starveMet 3 = true := by
  decide +kernel

theorem wit_Promotions :
    (let b := { running with shu := { running.shu with holding := [truck, { truck with tag := 8, arrival := 1, priority := true }] } };
      b.shu.holding = [truck] ++ { truck with tag := 8, arrival := 1, priority := true } :: []
      ∧ inSet truck.targets (3 : Crane).val = true ∧ truck.priority = false
      ∧ b.mode = .run ∧ b.online gateIn = true ∧ b.takesTrucks 0 = true ∧ b.qlc.promotes.length < 8
      ∧ b.lowestLane 0 = some 0 ∧ (b.nextHeld 0).isSome = true)
    ∧ (let b := { running with shu := { running.shu with holding := [truck] } };
      b.shu.holding = [] ++ truck :: [] ∧ truck.priority = false)
    ∧ Berth.reset.mode ≠ .run ∧ (silent .run).online gateIn = false
    ∧ (∀ st : TruckState, let b := running.modStand 3 fun _ => [{ truck with state := st }];
      (b.stand 3).find? (fun u => u.tag == 7 && u.stay == 0) = some { truck with state := st }) := by
  refine ⟨by decide +kernel, by decide +kernel, by decide, by decide +kernel, ?_⟩
  intro st; cases st <;> decide +kernel

theorem exists_of_any {α : Type} {o : Option α} {p : α → Bool} (h : o.any p = true) : ∃ t, o = some t ∧ p t = true := by
  cases o with
  | none => cases h
  | some t => exact ⟨t, rfl, h⟩

/-- Gang 1 waits for bay 14 with its first task DISPATCHED there. -/
def waitingGang : Berth :=
  { gangWith .waitDeck .dispatched running with bct := { running.bct with waiters := [(1, 14)] } }

/-- A waiter in a state that meets the invariant: its bay may be claimed, or a crane claim at it forbids that. -/
theorem wit_WaiterExamination : ∀ x ∈ [none, some (14 : Bay)], let b := waitingGang.setCraneClaim 0 x
    GangsKept (stateOf b) ∧ b.bct.waiters = [] ++ (1, 14) :: [] ∧ b.gangMayClaim 14 = x.isNone := by
  intro x hx
  simp only [List.mem_cons, List.not_mem_nil, or_false] at hx
  have lists : ∀ (x : Option Bay), ∀ g : Gang, ((waitingGang.setCraneClaim 0 x).gang g).tasks = if g = 1 then [0] else [] := by
    intro x g; show (waitingGang.gang g).tasks = _; revert g; decide +kernel
  have first : ∀ (x : Option Bay), ∀ g : Gang, (waitingGang.setCraneClaim 0 x).firstTask g =
      if g = 1 then some (unlashTask .dispatched) else none := by
    intro x g; show waitingGang.firstTask g = _; revert g; decide +kernel
  have acts : ∀ (x : Option Bay), ((waitingGang.setCraneClaim 0 x).gang 1).activity = .waitDeck := by
    intro x; show (waitingGang.gang 1).activity = _; decide +kernel
  have claims : ∀ (x : Option Bay), ∀ g : Gang, (waitingGang.setCraneClaim 0 x).gangClaim g = none := by
    intro x g; show waitingGang.gangClaim g = _; revert g; decide +kernel
  refine ⟨⟨?_, ?_, ?_, ?_, ?_, ?_, ?_, ?_⟩, ?_, ?_⟩
  · show (waitingGang.ltu.tasks.map fun t => t.number.toNat).Pairwise (· < ·)
    decide +kernel
  · intro g
    refine ⟨?_, ?_, ?_, ?_⟩
    · show (((waitingGang.setCraneClaim 0 x).gang g).tasks).Nodup
      rw [lists]; split <;> simp
    · intro n hn
      change n ∈ ((waitingGang.setCraneClaim 0 x).gang g).tasks at hn
      rw [lists] at hn
      split at hn
      · simp only [List.mem_singleton] at hn; subst hn
        exact ⟨unlashTask .dispatched, by show waitingGang.task? 0 = _; decide +kernel, by decide⟩
      · exact absurd hn List.not_mem_nil
    · intro n hn
      change n ∈ ((waitingGang.setCraneClaim 0 x).gang g).tasks.tail at hn
      rw [lists] at hn
      split at hn <;> exact absurd hn List.not_mem_nil
    · intro h hh n hn hm
      change n ∈ ((waitingGang.setCraneClaim 0 x).gang g).tasks at hn
      change n ∈ ((waitingGang.setCraneClaim 0 x).gang h).tasks at hm
      rw [lists] at hn hm
      split at hn
      · next e => subst e; rw [if_neg hh] at hm; exact absurd hm List.not_mem_nil
      · exact absurd hn List.not_mem_nil
  · intro g t ht
    change (waitingGang.setCraneClaim 0 x).firstTask g = some t at ht
    rw [first] at ht
    split at ht
    · next e =>
      subst e; cases ht
      exact ⟨fun _ => Or.inr (acts x), fun h => absurd h (by decide)⟩
    · cases ht
  · intro g bay h; cases (claims x g).symm.trans h
  · intro g bay h
    rcases h with h | h
    · cases (claims x g).symm.trans h
    · change (g, bay) ∈ [((1 : Gang), (14 : Bay))] at h
      simp only [List.mem_singleton, Prod.mk.injEq] at h
      obtain ⟨rfl, rfl⟩ := h
      exact ⟨acts x, unlashTask .dispatched, first x 1, rfl, rfl⟩
  · show ([((1 : Gang), (14 : Bay))].map (·.1)).Nodup
    decide
  · intro w _; exact claims x w.1
  · intro g
    show (waitingGang.gang g).onDuty = false → (waitingGang.gang g).activity = .idle ∧ (waitingGang.gang g).tasks = []
    revert g; decide +kernel
  · rfl
  · rcases hx with rfl | rfl <;> decide +kernel

theorem noClaims (c : Crane) : Berth.reset.craneClaim c = none := by revert c; decide +kernel

theorem noGangClaims (g : Gang) : Berth.reset.gangClaim g = none := by revert g; decide +kernel

/-- A berth with no task, no listed task, no deck entry, and every gang IDLE. -/
theorem gangsKept_empty {s : State} (ht : s.berth.ltu.tasks = []) (hl : ∀ g, (s.berth.gang g).tasks = [])
    (hc : ∀ g, s.berth.gangClaim g = none) (hw : s.berth.bct.waiters = []) (ha : ∀ g, (s.berth.gang g).activity = .idle) :
    GangsKept s := by
  have hf : ∀ g, s.berth.firstTask g = none := fun g => by simp [Berth.firstTask, hl g]
  refine ⟨by simp [ht], fun g => ⟨by simp [hl g], by simp [hl g], by simp [hl g], by simp [hl g]⟩,
    fun g t h => ?_, fun g bay h => ?_, fun g bay h => ?_, by simp [hw], by simp [hw], fun g _ => ⟨ha g, hl g⟩⟩
  · cases (hf g).symm.trans h
  · cases (hc g).symm.trans h
  · rcases h with h | h
    · cases (hc g).symm.trans h
    · rw [hw] at h; exact absurd h List.not_mem_nil

/-- The premises of the invariants: a step from a state that meets each. -/
theorem wit_Invariants : ∃ s t : State, LevelsAgree s ∧ ClaimsKept s ∧ TicketsKept s ∧ TasksKept s ∧ GangsKept s ∧ PortKept s
    ∧ s.pending = [.noticeClear [0, 0]] ∧ step s = .next t := by
  refine ⟨{ State.reset with pending := [.noticeClear [0, 0]] }, _, ?_, ?_, ?_, ?_,
    gangsKept_empty rfl (by decide +kernel) noGangClaims rfl (by decide +kernel), ?_, rfl, rfl⟩
  · show (0 : BitVec 16) &&& levelCauses = Berth.reset.levels
    decide +kernel
  · refine ⟨?_, ?_, ?_, ?_, ?_⟩
    · intro i j _ x y h; cases (noClaims i).symm.trans h
    · intro g h _ x y e; cases (noGangClaims g).symm.trans e
    · intro c g x y e; cases (noClaims c).symm.trans e
    · intro c h; exact absurd ((congrArg Option.isSome (noClaims c)).symm.trans h) (by decide)
    · intro _ c; exact noClaims c
  · exact ⟨by decide, by decide⟩
  · exact ⟨by decide, fun t h => absurd h List.not_mem_nil, by decide⟩
  · refine ⟨by decide, by decide, by decide, by decide, ?_⟩
    intro h; exact absurd h (by decide)

end Sys2Proof.Tests
end

/-! # The end of a change keeps the fixed records -/

namespace Sys2Proof.Machine

/-- What follows a change writes none of the fixed records (the parts are in the laws of `settle`). -/
@[simp] theorem settle_fixed (b : Berth) : (settle b).fixed = b.fixed := by
  have due : ∀ b : Berth, ({ b with shu := { b.shu with promotionDue := false } } : Berth).fixed = b.fixed := fun _ => rfl
  unfold settle
  simp only [evalLevels_fixed, starveSweep_fixed]
  split
  · simp
  · rw [due, markLates_fixed]

end Sys2Proof.Machine

/-! # Steps on the berth

A step changes the berth by events of the link and of quay time, by writes that owners take, by a port timeout or by a reset.
What all of these keep, every step keeps. -/

namespace Sys2Proof.Machine

/-- Each of the changes that a step can make of the berth keeps a property of it. -/
structure KeptByEvents (P : Berth → Prop) : Prop where
  reset (k : Nat) : P { Berth.reset with free := k }
  timeout {b : Berth} : P b → P (b.raise portTimeout)
  write {b : Berth} (code : Byte) (body : List Byte) : P b → P (ownWrite code body b).1
  frame {b : Berth} (st : Station) (cls : BitVec 2) (kind : Byte) (body : List Byte) :
    P b → P (goodFrame b st cls kind body)
  noFrame {b : Berth} : P b → P (badFrame b)
  close {b : Berth} : P b → P (windowClose b)
  send {b : Berth} (o : SendOutcome) : P b → P (sendOrder o b)
  clock {b : Berth} : P b → P (clockStep b)
  expiry {b : Berth} (c : Crane) : P b → P (expiryEvent c b)
  late {b : Berth} (n : TicketNo) : P b → P (lateEvent n b)
  starved {b : Berth} (c : Crane) : P b → P (starveCheck b c)
  boundary {b : Berth} : P b → P (boundaryEvent b)

/-! ## Bytes on the wire -/

@[simp] theorem chipFall_berth (s : State) : (chipFall s).berth = s.berth := by
  unfold chipFall; split <;> [rfl; (split <;> rfl)]

@[simp] theorem takeByte_berth (s : State) (x : Byte) : (takeByte s x).berth = s.berth := by
  unfold takeByte; split <;> [rfl; (split <;> rfl)]

@[simp] theorem takeBytes_berth (s : State) (l : List Byte) : (takeBytes s l).berth = s.berth :=
  foldl_keeps (·.berth) takeByte takeByte_berth l s

namespace KeptByEvents

variable {P : Berth → Prop} (K : KeptByEvents P) {s : State}
include K

theorem applyWrite (code : Byte) (body : List Byte) {b : Berth} (h : P b) : P (applyWrite code body b).1 := by
  unfold Machine.applyWrite
  split
  · exact h
  · split
    · exact h
    · exact K.write code body h

/-- The rise of chip select applies at most the staged write. -/
theorem chipRise (h : P s.berth) : P (chipRise s).berth := by
  unfold Machine.chipRise
  split
  · exact h
  · split
    case h_1 => exact K.applyWrite s.port.command s.port.staged h
    all_goals exact h

theorem openWith (code : Byte) (h : P s.berth) : P (openWith code s).berth := by
  unfold Machine.openWith
  split
  · simpa using h
  · simpa using h
  · simpa using K.chipRise h

theorem hostRead (code : Byte) (params : List Byte) (h : P s.berth) : P (hostRead code params s).berth := by
  unfold Machine.hostRead
  split
  · simpa using h
  · simpa using K.openWith code h

theorem openAndRise (code : Byte) (body : List Byte) (h : P s.berth) :
    P (Machine.chipRise (takeBytes (Machine.openWith code s) body)).berth :=
  K.chipRise (by simpa using K.openWith code h)

theorem hostWrite (code : Byte) (body : List Byte) (h : P s.berth) : P (hostWrite code body s).berth := by
  unfold Machine.hostWrite
  split
  · exact K.chipRise h
  · exact K.openAndRise code body h

theorem emptyTransactionEvent (h : P s.berth) : P (emptyTransactionEvent s).berth := by
  unfold Machine.emptyTransactionEvent
  split
  · exact K.chipRise (by simpa using h)
  · exact K.chipRise h
  · exact K.chipRise (by simpa using K.chipRise h)

theorem portTimeoutEvent (p : Bool) (h : P s.berth) : P (portTimeoutEvent p s).berth := by
  unfold Machine.portTimeoutEvent
  split
  case h_1 | h_2 => exact h
  all_goals exact K.timeout h

/-! ## Events of the berth -/

omit K in
theorem berthEvent {f : Berth → Berth} (hf : P s.berth → P (f s.berth)) (h : P s.berth) :
    P (berthEvent f s).berth := by
  unfold Machine.berthEvent
  split
  · exact h
  · exact hf h

theorem frameEvent (kind : Byte) (f : Frame) (h : P s.berth) :
    P (Machine.berthEvent (frameEvent kind f) s).berth :=
  berthEvent (fun h => by
    unfold Machine.frameEvent
    split
    · exact K.frame _ _ _ _ h
    · exact K.noFrame h) h

theorem rawFrame (raw : List Byte) (h : P s.berth) : P (Machine.berthEvent (rawFrame raw) s).berth :=
  berthEvent (fun h => by
    unfold Machine.rawFrame
    split
    · exact K.frame _ _ _ _ h
    · exact K.noFrame h) h

/-- What the changes of the berth keep, every command and event keeps. -/
theorem exec (i : Instr) {t : State} (h : P s.berth) (e : exec i s = .next t) : P t.berth := by
  cases i <;> cases e
  case powerOn | pinReset => exact K.reset _
  case chipSelectFall => simpa using h
  case emptyTransaction => exact K.emptyTransactionEvent h
  case unassignedCommand => exact K.openAndRise _ _ h
  case transactionTimeout => exact K.portTimeoutEvent _ h
  case status | readTicket | find | readCrane | readStand | readHolding | readGang | readTask | readClaims | readStation
    | readRule | readClock | readNotices | readConfig => exact K.hostRead _ _ h
  case load | amend | release | hold | cancel | retire | forceDone | forceBack | craneHalt | craneResume | craneMode
    | laneSet | truckVerify | truckRemove | gangDuty | gangServe | gangRoster | gangClear | ruleWrite | clockSet
    | clockAdjust | clockRun | clockStop | noticeClear | noticeEnable | modeSetRun | modeSetConfig | modeSetMonitor
    | configWrite | partition | clearTables => exact K.hostWrite _ _ h
  case hello | ask | standby | position | lockOn | setDown | abandon | manual | auto | arrive | depart | deckRequest
    | taskDone | offDeck | lookupTicket | lookupContainer | lookupTag | reply => exact K.frameEvent _ _ h
  case discardedFrame => exact K.rawFrame _ h
  case replyWindowClose => exact berthEvent K.close h
  case orderSend => exact berthEvent (K.send _) h
  case timeBaseStep => exact berthEvent K.clock h
  case grantExpiry => exact berthEvent (K.expiry _) h
  case ticketLate => exact berthEvent (K.late _) h
  case craneStarved => exact berthEvent (K.starved _) h
  case shiftBoundary => exact berthEvent K.boundary h
  case byteTaken => simpa using h
  case chipSelectRise => exact K.chipRise h
  case resetEnd => exact h

theorem step {t : State} (h : P s.berth) (e : step s = .next t) : P t.berth := by
  unfold Machine.step at e
  split at e
  · cases e; exact h
  · exact K.exec _ (by exact h) e

end KeptByEvents

end Sys2Proof.Machine


/-! # Ticket numbers (R3, R27)

The roll of a berth is the size of its ticket section and the numbers of its tickets, in slot order.  Every operation but LOAD,
a freed slot, PARTITION and CLEAR_TABLES leaves the roll as it was. -/

namespace Sys2Proof.Machine

/-- The size of the ticket section and the numbers in use. -/
def Berth.roll (b : Berth) : Sizes × List TicketNo := (b.sizes, b.tickets.map (·.number))

theorem roll_of_fixed {b b' : Berth} (h : b'.fixed = b.fixed) : b'.roll = b.roll := by
  simp only [Berth.fixed, Prod.mk.injEq] at h
  obtain ⟨-, -, hs, -, -, -, -, -, -, -, -, hn⟩ := h
  simp [Berth.roll, hs, hn]

theorem roll_of_tickets {b b' : Berth} (hs : b'.sizes = b.sizes) (ht : b'.tickets = b.tickets) : b'.roll = b.roll := by
  simp [Berth.roll, hs, ht]

/-! ## Changes of one ticket keep its number -/

@[simp] theorem Ticket.mark_number (t : Ticket) (f : Marks → Marks) : (t.mark f).number = t.number := by rfl
@[simp] theorem Ticket.markLate_number (t : Ticket) : t.markLate.number = t.number := by rfl
@[simp] theorem Ticket.count_number (t : Ticket) : t.count.number = t.number := by rfl
@[simp] theorem Ticket.leave_number (t : Ticket) (st : TicketState) (now : Secs) : (t.leave st now).number = t.number := by rfl
@[simp] theorem Ticket.haltHeld_number (t : Ticket) : t.haltHeld.number = t.number := by rfl
@[simp] theorem Ticket.released_number (now : Secs) (t : Ticket) : (t.released now).number = t.number := by rfl
@[simp] theorem landTicketPart_number (now : Secs) (t : Ticket) : (landTicketPart now t).number = t.number := by rfl
@[simp] theorem amendFields_number (set : BitVec 16) (body : List Byte) (t : Ticket) :
    (amendFields set body t).number = t.number := by rfl

@[simp] theorem Cause.ticket_number (cause : Cause) (fails : Bool) (now : Secs) (t : Ticket) :
    (cause.ticket fails now t).number = t.number := by
  cases cause <;> rfl

namespace Berth

/-! ## The named updates -/

@[simp] theorem modCrane_roll (b : Berth) (c : Crane) (f : CraneRec → CraneRec) : (b.modCrane c f).roll = b.roll := rfl
@[simp] theorem modGang_roll (b : Berth) (g : Gang) (f : GangRec → GangRec) : (b.modGang g f).roll = b.roll := rfl
@[simp] theorem modTask_roll (b : Berth) (n : TaskNo) (f : Task → Task) : (b.modTask n f).roll = b.roll := rfl
@[simp] theorem dropTask_roll (b : Berth) (n : TaskNo) : (b.dropTask n).roll = b.roll := rfl
@[simp] theorem createTask_roll (b : Berth) (n : TaskNo) (k : TaskKind) (x : Bay) (c : Crane) (l : Nat) : (b.createTask n k x c l).roll = b.roll := rfl
@[simp] theorem reserve_roll (b : Berth) : b.reserve.roll = b.roll := rfl
@[simp] theorem unreserve_roll (b : Berth) : b.unreserve.roll = b.roll := rfl
@[simp] theorem unlist_roll (b : Berth) (g : Gang) (n : TaskNo) : (b.unlist g n).roll = b.roll := rfl
@[simp] theorem modStation_roll (b : Berth) (s : Station) (f : StationRec → StationRec) : (b.modStation s f).roll = b.roll := rfl
@[simp] theorem postCrane_roll (b : Berth) (c : Crane) (o : OrderBody) : (b.postCrane c o).roll = b.roll := rfl
@[simp] theorem postGang_roll (b : Berth) (g : Gang) (o : OrderBody) : (b.postGang g o).roll = b.roll := rfl
@[simp] theorem postPromote_roll (b : Berth) (o : OrderBody) : (b.postPromote o).roll = b.roll := rfl
@[simp] theorem setPromotes_roll (b : Berth) (l : List Order) : (b.setPromotes l).roll = b.roll := rfl
@[simp] theorem setSent_roll (b : Berth) (x : Option (List Byte)) : (b.setSent x).roll = b.roll := rfl
@[simp] theorem setWindow_roll (b : Berth) (x : Option Station) : (b.setWindow x).roll = b.roll := rfl
@[simp] theorem emptyBoard_roll (b : Berth) : b.emptyBoard.roll = b.roll := rfl
@[simp] theorem modStand_roll (b : Berth) (c : Crane) (f : List Truck → List Truck) : (b.modStand c f).roll = b.roll := rfl
@[simp] theorem modEntries_roll (b : Berth) (c : Crane) (p : Truck → Bool) (f : Truck → Truck) : (b.modEntries c p f).roll = b.roll := rfl
@[simp] theorem owePromotion_roll (b : Berth) : b.owePromotion.roll = b.roll := rfl
@[simp] theorem setCraneClaim_roll (b : Berth) (c : Crane) (x : Option Bay) : (b.setCraneClaim c x).roll = b.roll := rfl
@[simp] theorem setGangClaim_roll (b : Berth) (g : Gang) (x : Option GangClaim) : (b.setGangClaim g x).roll = b.roll := rfl
@[simp] theorem removeWaiter_roll (b : Berth) (g : Gang) : (b.removeWaiter g).roll = b.roll := rfl
@[simp] theorem raise_roll (b : Berth) (x : BitVec 16) : (b.raise x).roll = b.roll := rfl
@[simp] theorem evalLevels_roll (b : Berth) : b.evalLevels.roll = b.roll := rfl
@[simp] theorem consult_roll (b : Berth) : b.consult.roll = b.roll := rfl
@[simp] theorem setTime_roll (b : Berth) (q : QTime) : (b.setTime q).roll = b.roll := rfl
@[simp] theorem setRunning_roll (b : Berth) (r : Bool) : (b.setRunning r).roll = b.roll := rfl
@[simp] theorem setMode_roll (b : Berth) (m : Mode) : (b.setMode m).roll = b.roll := rfl
@[simp] theorem setTaskState_roll (b : Berth) (n : TaskNo) (x : TaskState) : (b.setTaskState n x).roll = b.roll := rfl

@[simp] theorem modTicketsIf_roll (b : Berth) (p : Ticket → Bool) (f : Ticket → Ticket) (h : ∀ t, (f t).number = t.number) :
    (b.modTicketsIf p f).roll = b.roll := by
  simp only [roll, modTicketsIf_numbers b p f h, modTicketsIf_sizes]

@[simp] theorem modTicket_roll (b : Berth) (n : TicketNo) (f : Ticket → Ticket) (h : ∀ t, (f t).number = t.number) :
    (b.modTicket n f).roll = b.roll := modTicketsIf_roll b _ f h

@[simp] theorem modTickets_roll (b : Berth) (ns : List TicketNo) (f : Ticket → Ticket) (h : ∀ t, (f t).number = t.number) :
    (b.modTickets ns f).roll = b.roll := modTicketsIf_roll b _ f h

@[simp] theorem craneReasons_roll (b : Berth) (c : Crane) : (b.craneReasons c).roll = b.roll :=
  roll_of_fixed (craneReasons_fixed b c)

end Berth

/-! ## What follows a change -/

@[simp] theorem settle_roll (b : Berth) : (settle b).roll = b.roll := roll_of_fixed (settle_fixed b)

@[simp] theorem makeGrant_roll (b : Berth) (c : Crane) (k : Candidate) (truck : Option Truck) (pick : Bool) :
    (makeGrant b c k truck pick).roll = b.roll := roll_of_fixed (makeGrant_fixed ..)

@[simp] theorem starveCheck_roll (b : Berth) (c : Crane) : (starveCheck b c).roll = b.roll :=
  roll_of_fixed (starveCheck_fixed b c)

@[simp] theorem starveSweep_roll (b : Berth) : (starveSweep b).roll = b.roll := roll_of_fixed (starveSweep_fixed b)

@[simp] theorem settleIf_roll {b b' : Berth} : (settleIf b b').roll = b'.roll := by
  unfold settleIf
  split
  · next h => rw [h]
  · simp

/-! ## Gangs and tasks -/

@[simp] theorem releaseCraneClaim_roll (b : Berth) (c : Crane) : (releaseCraneClaim b c).roll = b.roll :=
  roll_of_tickets (by simp) (by simp)

@[simp] theorem releaseGangClaim_roll (b : Berth) (g : Gang) : (releaseGangClaim b g).roll = b.roll :=
  roll_of_tickets (by simp) (by simp)

@[simp] theorem leaveDeckRequest_roll (b : Berth) (g : Gang) : (leaveDeckRequest b g).roll = b.roll := by
  unfold leaveDeckRequest; dsimp only; split <;> simp

@[simp] theorem giveUpTasks_roll (b : Berth) (g : Gang) : (b.giveUpTasks g).roll = b.roll := by
  unfold Berth.giveUpTasks
  rw [Berth.modGang_roll, foldl_keeps Berth.roll _ fun b n => Berth.setTaskState_roll b n .opened]

@[simp] theorem dropUnlinked_roll (b : Berth) (t : Task) : (dropUnlinked b t).roll = b.roll := by
  unfold dropUnlinked; split <;> [simp; (split <;> simp); (split <;> simp); rfl]

@[simp] theorem unlinkUnlash_roll (b : Berth) (n : TicketNo) : (unlinkUnlash b n).roll = b.roll := by
  unfold unlinkUnlash
  dsimp only
  split
  · rfl
  · split <;> [(split <;> simp); simp]

@[simp] theorem unlinkLash_roll (b : Berth) (t : Ticket) : (unlinkLash b t).roll = b.roll := by
  unfold unlinkLash; split <;> simp

@[simp] theorem linkLash_roll (b : Berth) (c : Crane) (bay : Bay) (ns : List TicketNo) :
    (linkLash b c bay ns).roll = b.roll := by
  obtain ⟨ltu, f, hf, e⟩ := linkLash_frame b c bay ns
  rw [e]
  simp [Berth.roll, Function.comp_def, hf]

@[simp] theorem completeTask_roll (b : Berth) (g : Gang) (t : Task) : (completeTask b g t).roll = b.roll := by
  unfold completeTask
  simp

@[simp] theorem deckRequest_roll (b : Berth) (g : Gang) (n : TaskNo) : (deckRequest b g n).1.roll = b.roll := by
  unfold deckRequest
  dsimp only
  split
  · rfl
  · repeat' split
    all_goals rfl

@[simp] theorem taskDoneReport_roll (b : Berth) (g : Gang) (n : TaskNo) : (taskDoneReport b g n).1.roll = b.roll := by
  unfold taskDoneReport
  dsimp only
  split
  · rfl
  · split
    · split
      · split <;> simp
      · simp
    · rfl

@[simp] theorem dropIfOwedToNobody_roll (b : Berth) (g : Gang) : (dropIfOwedToNobody b g).roll = b.roll := by
  unfold dropIfOwedToNobody; split <;> [(split <;> simp); rfl]

@[simp] theorem comeOffDeck_roll (b : Berth) (g : Gang) (giveUp : Bool) : (comeOffDeck b g giveUp).roll = b.roll := by
  unfold comeOffDeck
  dsimp only
  split
  · simp
  · split
    · simp
    · split
      · split <;> simp
      · simp

@[simp] theorem offDeckReport_roll (b : Berth) (g : Gang) : (offDeckReport b g).1.roll = b.roll := by
  unfold offDeckReport; split <;> simp

@[simp] theorem dutyOn_roll (b : Berth) (g : Gang) : (dutyOn b g).roll = b.roll := rfl

@[simp] theorem dutyOff_roll (b : Berth) (g : Gang) : (dutyOff b g).roll = b.roll := by
  unfold dutyOff
  dsimp only
  split
  · split
    · simp
    · simp
    all_goals split <;> simp
  · rfl

@[simp] theorem applyRoster_roll (b : Berth) (g : Gang) : (applyRoster b g).roll = b.roll := by
  unfold applyRoster; split <;> simp

@[simp] theorem applyRosters_roll (b : Berth) : (applyRosters b).roll = b.roll :=
  foldl_keeps Berth.roll _ applyRoster_roll ..

/-- Tasks of a list that become OPEN and leave it. -/
theorem openTasksOf_roll (b : Berth) (g : Gang) (l : List TaskNo) :
    (l.foldl (fun b n => (b.unlist g n).setTaskState n .opened) b).roll = b.roll :=
  foldl_keeps Berth.roll _ (by intros; rfl) l b

@[simp] theorem serve_roll (b : Berth) (g : Gang) (set : BitVec 8) : (serve b g set).roll = b.roll :=
  openTasksOf_roll b g _

@[simp] theorem keepActive_roll (b : Berth) (g : Gang) : (keepActive b g).roll = b.roll := openTasksOf_roll b g _

@[simp] theorem gangDelivered_roll (b : Berth) (g : Gang) (body : OrderBody) : (gangDelivered b g body).roll = b.roll := by
  unfold gangDelivered; split <;> [(split <;> simp); rfl]

@[simp] theorem gangUndelivered_roll (b : Berth) (g : Gang) (body : OrderBody) :
    (gangUndelivered b g body).roll = b.roll := by
  unfold gangUndelivered
  split
  · split <;> simp
  · split <;> [(split <;> simp); rfl]
  · rfl

@[simp] theorem gangOffline_roll (b : Berth) (g : Gang) : (gangOffline b g).roll = b.roll := by
  unfold gangOffline; dsimp only; split <;> simp

@[simp] theorem gangEnterConfig_roll (b : Berth) (g : Gang) : (gangEnterConfig b g).roll = b.roll := by
  unfold gangEnterConfig
  split
  case h_1 | h_2 => dsimp only; split <;> [(split <;> simp); simp]
  all_goals rfl

@[simp] theorem claimsEnterConfig_roll (b : Berth) : (claimsEnterConfig b).roll = b.roll :=
  foldl_keeps Berth.roll _ (fun b g => by split <;> simp) ..

/-! ## Trucks -/

@[simp] theorem returnToHolding_roll (b : Berth) (c : Crane) (t : Truck) : (returnToHolding b c t).roll = b.roll := rfl

@[simp] theorem standsEnterConfig_roll (b : Berth) : (standsEnterConfig b).roll = b.roll :=
  foldl_keeps Berth.roll _ (fun b c => foldl_keeps Berth.roll _ (fun b t => returnToHolding_roll b c t) _ b) ..

@[simp] theorem admitToHolding_roll (b : Berth) (t : Truck) : (admitToHolding b t).1.roll = b.roll := by
  unfold admitToHolding; split <;> [(dsimp only; split <;> rfl); rfl]

@[simp] theorem admitToStand_roll (b : Berth) (t : Truck) (c : Crane) (l : Lane) :
    (admitToStand b t c l).1.roll = b.roll := by
  unfold admitToStand; dsimp only; split <;> rfl

@[simp] theorem takeIn_roll (b : Berth) (tag : Tag) (chassis : Chassis) (cargo : List ContainerId) (u : Bool) :
    (takeIn b tag chassis cargo u).1.roll = b.roll := by
  unfold takeIn
  dsimp only
  split
  · rfl
  · simp
  · split <;> [simp; (split <;> simp)]

@[simp] theorem arriveReport_roll (b : Berth) (body : List Byte) : (arriveReport b body).1.roll = b.roll := by
  unfold arriveReport
  dsimp only
  split
  · rfl
  · split <;> [rfl; (split <;> [rfl; (split <;> [rfl; simp])])]

/-! ## Grants and lifts -/

@[simp] theorem unbindTruck_roll (b : Berth) (c : Crane) : (unbindTruck b c).roll = b.roll := by
  unfold unbindTruck; split <;> rfl

@[simp] theorem giveBackSlot_roll (b : Berth) (c : Crane) : (b.giveBackSlot c).roll = b.roll := by
  unfold Berth.giveBackSlot; split <;> rfl

@[simp] theorem withdraw_roll (b : Berth) (c : Crane) (cause : Cause) : (withdraw b c cause).roll = b.roll := by
  unfold withdraw
  dsimp only
  repeat' split
  all_goals simp

@[simp] theorem lockOn_roll (b : Berth) (c : Crane) : (lockOn b c).roll = b.roll := by
  have truck : ∀ b : Berth, (lockOnTruck b c).roll = b.roll := fun b => by unfold lockOnTruck; split <;> simp
  unfold lockOn
  simp [truck]

@[simp] theorem landOnTruck_roll (b : Berth) (c : Crane) : (landOnTruck b c).roll = b.roll := by
  unfold landOnTruck; split <;> simp

@[simp] theorem abandonTruck_roll (b : Berth) (c : Crane) : (abandonTruck b c).roll = b.roll := by
  unfold abandonTruck putBack; split <;> [simp; (split <;> simp); rfl]

@[simp] theorem abandonLift_roll (b : Berth) (c : Crane) : (abandonLift b c).roll = b.roll := by
  unfold abandonLift
  dsimp only
  split <;> simp

@[simp] theorem truckLeavesLift_roll (b : Berth) (c : Crane) : (truckLeavesLift b c).roll = b.roll := by
  simp [truckLeavesLift]

@[simp] theorem dropEntry_roll (b : Berth) (c : Crane) (t : Truck) : (dropEntry b c t).roll = b.roll := rfl

@[simp] theorem removeTruck_roll (b : Berth) (p : Place) : (removeTruck b p).roll = b.roll := by
  unfold removeTruck
  split
  · rfl
  · split <;> [(split <;> simp); simp]

@[simp] theorem endWaiting_roll (b : Berth) (c : Crane) : (endWaiting b c).roll = b.roll := by simp [endWaiting]

@[simp] theorem setManual_roll (b : Berth) (c : Crane) : (setManual b c).roll = b.roll := by
  unfold setManual; dsimp only; split <;> [rfl; (split <;> simp)]

@[simp] theorem setAuto_roll (b : Berth) (c : Crane) : (setAuto b c).roll = b.roll := by
  unfold setAuto; split <;> simp

@[simp] theorem haltCrane_roll (b : Berth) (c : Crane) : (haltCrane b c).roll = b.roll := by
  unfold haltCrane; dsimp only; split <;> simp

@[simp] theorem craneOffline_roll (b : Berth) (c : Crane) : (craneOffline b c).roll = b.roll := by
  unfold craneOffline; split <;> simp

@[simp] theorem askReport_roll (b : Berth) (c : Crane) : (askReport b c).1.roll = b.roll := by
  unfold askReport; dsimp only; split <;> [rfl; (split <;> [rfl; (split <;> rfl)])]

@[simp] theorem standbyReport_roll (b : Berth) (c : Crane) : (standbyReport b c).1.roll = b.roll := by
  unfold standbyReport; split <;> simp

@[simp] theorem positionReport_roll (b : Berth) (c : Crane) (bay : Bay) : (positionReport b c bay).1.roll = b.roll := by
  unfold positionReport; split <;> first | rfl | (split <;> rfl)

@[simp] theorem manualPick_roll (b : Berth) (c : Crane) (n : TicketNo) (tag : Option Tag) :
    (manualPick b c n tag).1.roll = b.roll := by
  unfold manualPick
  dsimp only
  split <;> [rfl; (split <;> [rfl; (split <;> [rfl; (split <;> simp)])])]

@[simp] theorem lockOnReport_roll (b : Berth) (c : Crane) (n : TicketNo) (tag : Option Tag) :
    (lockOnReport b c n tag).1.roll = b.roll := by
  unfold lockOnReport
  dsimp only
  split
  · simp
  · split
    · rfl
    · split <;> split <;> simp

@[simp] theorem abandonReport_roll (b : Berth) (c : Crane) (n : TicketNo) : (abandonReport b c n).1.roll = b.roll := by
  unfold abandonReport; dsimp only; split <;> [rfl; (split <;> [rfl; simp])]

@[simp] theorem departReport_roll (b : Berth) (tag : Tag) : (departReport b tag).1.roll = b.roll := by
  unfold departReport; split <;> simp

/-! ## Quay time -/

@[simp] theorem deadlineBeforeExpiry_roll (b : Berth) (n : TicketNo) : (deadlineBeforeExpiry b n).roll = b.roll := by
  unfold deadlineBeforeExpiry
  split
  · rfl
  · split
    · split <;> simp
    · rfl

@[simp] theorem expireGrant_roll (b : Berth) (c : Crane) : (expireGrant b c).roll = b.roll := by
  unfold expireGrant
  split
  · rw [withdraw_roll]; exact foldl_keeps Berth.roll _ deadlineBeforeExpiry_roll ..
  · rfl

@[simp] theorem dueTimeEvent_roll (b : Berth) : (dueTimeEvent b).roll = b.roll := by
  unfold dueTimeEvent; rw [foldl_keeps Berth.roll _ expireGrant_roll, starveSweep_roll]

@[simp] theorem evalShift_roll (b : Berth) : (evalShift b).roll = b.roll := by
  unfold evalShift
  dsimp only
  split
  · rfl
  · rw [applyRosters_roll]; rfl

@[simp] theorem clockStep_roll (b : Berth) : (clockStep b).roll = b.roll := by
  unfold clockStep
  dsimp only
  split
  · split <;> simp
  · rfl

@[simp] theorem expiryEvent_roll (c : Crane) (b : Berth) : (expiryEvent c b).roll = b.roll := by
  unfold expiryEvent; split <;> simp

@[simp] theorem lateEvent_roll (n : TicketNo) (b : Berth) : (lateEvent n b).roll = b.roll := by
  unfold lateEvent; split <;> simp

@[simp] theorem boundaryEvent_roll (b : Berth) : (boundaryEvent b).roll = b.roll := by
  unfold boundaryEvent; split <;> simp

end Sys2Proof.Machine

/-! # Unique ticket numbers (O57) -/

namespace Sys2Proof.Machine

/-! ## Slots freed

A landing under AUTO_RETIRE and a RETIRE free slots; the numbers left keep their order. -/

/-- The section has its size, and no number is new. -/
def Berth.Within (b' b : Berth) : Prop := b'.sizes = b.sizes ∧ (b'.tickets.map (·.number)).Sublist (b.tickets.map (·.number))

namespace Berth.Within

theorem of_roll {b' b : Berth} (h : b'.roll = b.roll) : b'.Within b := by
  simp only [Berth.roll, Prod.mk.injEq] at h
  exact ⟨h.1, h.2 ▸ List.Sublist.refl _⟩

theorem refl (b : Berth) : b.Within b := of_roll rfl

theorem trans {x y z : Berth} (h : x.Within y) (k : y.Within z) : x.Within z := ⟨h.1.trans k.1, h.2.trans k.2⟩

theorem foldl {α : Type} {f : Berth → α → Berth} (h : ∀ b x, (f b x).Within b) (l : List α) (b : Berth) :
    (l.foldl f b).Within b := by
  induction l generalizing b with
  | nil => exact refl b
  | cons x xs ih => exact (ih (f b x)).trans (h b x)

end Berth.Within

theorem dropTicket_within (b : Berth) (n : TicketNo) : (b.dropTicket n).Within b := ⟨rfl, List.filter_sublist.map _⟩

theorem freeTicket_within (b : Berth) (n : TicketNo) : (freeTicket b n).Within b := by
  unfold freeTicket
  split
  · exact .refl b
  · dsimp only
    refine (dropTicket_within _ n).trans (.of_roll ?_)
    rw [unlinkLash_roll]
    split
    · exact Berth.modTicket_roll _ _ _ fun x => by split <;> rfl
    · rfl

theorem land_within (b : Berth) (c : Crane) (k : Bool) : (land b c k).Within b := by
  have retire : ∀ x : Berth, x.roll = b.roll →
      (if x.params.autoRetire then (b.crane c).lift.foldl freeTicket x else x).Within b := by
    intro x h
    split
    · exact (Berth.Within.foldl freeTicket_within _ x).trans (.of_roll h)
    · exact .of_roll h
  refine retire _ ?_
  split <;> simp

/-! ## Ticket commands -/

@[simp] theorem setForced_roll (b : Berth) (c : Crane) (n : TicketNo) : (setForced b c n).roll = b.roll := by
  simp [setForced]

@[simp] theorem cancelTicket_roll (b : Berth) (t : Ticket) : (cancelTicket b t).roll = b.roll := by
  unfold cancelTicket
  dsimp only
  repeat' split
  all_goals simp

@[simp] theorem amendTicket_roll (b : Berth) (set : BitVec 16) (body : List Byte) (t : Ticket) :
    (amendTicket b set body t).roll = b.roll := by
  unfold amendTicket
  dsimp only
  repeat' split
  all_goals simp

theorem linkUnlash_roll {b b' : Berth} {t : Ticket} (h : linkUnlash b t = some b') : b'.roll = b.roll := by
  unfold linkUnlash at h
  split at h
  · cases h; simp
  · split at h
    · cases h
    · split at h <;> cases h
      simp

theorem releaseTicket_roll {b b' : Berth} {t : Ticket} (h : releaseTicket b t = .ok b') : b'.roll = b.roll := by
  unfold releaseTicket at h
  dsimp only at h
  split at h
  · cases h
  · split at h
    · split at h <;> cases h
      next e => rw [Berth.modTicket_roll _ _ _ (Ticket.released_number _), linkUnlash_roll e]
    · cases h; simp

/-! ## Other writes -/

@[simp] theorem ownCraneHalt_roll (b : Berth) (body : List Byte) : (ownCraneHalt b body).1.roll = b.roll := by
  unfold ownCraneHalt; split <;> simp

@[simp] theorem ownCraneResume_roll (b : Berth) (body : List Byte) : (ownCraneResume b body).1.roll = b.roll := by
  unfold ownCraneResume; split <;> simp

@[simp] theorem ownCraneMode_roll (b : Berth) (body : List Byte) : (ownCraneMode b body).1.roll = b.roll := by
  unfold ownCraneMode
  dsimp only
  split <;> [(split <;> simp); rfl]

@[simp] theorem ownLaneSet_roll (b : Berth) (body : List Byte) : (ownLaneSet b body).1.roll = b.roll := by
  unfold ownLaneSet
  dsimp only
  split
  · split
    · rfl
    · split <;> (rw [settle_roll]; rfl)
  · rfl

@[simp] theorem ownTruckRemove_roll (b : Berth) (body : List Byte) : (ownTruckRemove b body).1.roll = b.roll := by
  unfold ownTruckRemove; split <;> simp

@[simp] theorem ownTruckVerify_roll (b : Berth) (body : List Byte) : (ownTruckVerify b body).1.roll = b.roll := by
  unfold ownTruckVerify verifyTruck
  split
  · rfl
  · rw [settle_roll]; split <;> rfl

@[simp] theorem ownRuleWrite_roll (b : Berth) (body : List Byte) : (ownRuleWrite b body).1.roll = b.roll := by
  unfold ownRuleWrite
  dsimp only
  split <;> [(split <;> rfl); rfl]

@[simp] theorem ownGangDuty_roll (b : Berth) (body : List Byte) : (ownGangDuty b body).1.roll = b.roll := by
  unfold ownGangDuty
  split
  · rw [settle_roll]; split <;> simp
  · rfl

@[simp] theorem ownGangServe_roll (b : Berth) (body : List Byte) : (ownGangServe b body).1.roll = b.roll := by
  unfold ownGangServe; split <;> simp

@[simp] theorem ownGangRoster_roll (b : Berth) (body : List Byte) : (ownGangRoster b body).1.roll = b.roll := by
  unfold ownGangRoster; split <;> [(split <;> simp); rfl]

@[simp] theorem ownGangClear_roll (b : Berth) (body : List Byte) : (ownGangClear b body).1.roll = b.roll := by
  unfold ownGangClear; split <;> [(split <;> simp); rfl]

@[simp] theorem ownClockSet_roll (b : Berth) (body : List Byte) : (ownClockSet b body).1.roll = b.roll := by
  unfold ownClockSet
  dsimp only
  split <;> split <;> simp

@[simp] theorem ownClockAdjust_roll (b : Berth) (body : List Byte) : (ownClockAdjust b body).1.roll = b.roll := by
  unfold ownClockAdjust
  dsimp only
  split
  · rfl
  · split
    · rfl
    · split <;> simp

@[simp] theorem ownClockRun_roll (b : Berth) : (ownClockRun b).1.roll = b.roll := by
  unfold ownClockRun; dsimp only; split <;> simp

@[simp] theorem enterConfigFromRun_roll (b : Berth) : (enterConfigFromRun b).roll = b.roll := by
  have waiting : ∀ (b : Berth) (c : Crane), (if (b.crane c).work = .waiting then endWaiting b c else b).roll = b.roll := by
    intro b c; split <;> simp
  unfold enterConfigFromRun
  dsimp only
  rw [foldl_keeps Berth.roll _ gangEnterConfig_roll, claimsEnterConfig_roll, foldl_keeps Berth.roll _ waiting]
  simp

@[simp] theorem ownModeSet_roll (b : Berth) (body : List Byte) : (ownModeSet b body).1.roll = b.roll := by
  have enter : (enterRun b).roll = b.roll := by simp [enterRun]
  unfold ownModeSet moveMode
  dsimp only
  split
  · rfl
  · split
    case h_4 | h_6 => split <;> simp [enter]
    all_goals rfl

@[simp] theorem ownConfigWrite_roll (b : Berth) (body : List Byte) : (ownConfigWrite b body).1.roll = b.roll := by
  have apply : ∀ code c value, (applyConfig b code c value).roll = b.roll := by
    intro code c value
    unfold applyConfig
    dsimp only
    split
    · rw [evalShift_roll]; rfl
    · rfl
  unfold ownConfigWrite
  dsimp only
  repeat' split
  all_goals first | rfl | rw [settle_roll, apply]

/-! ## The link -/

@[simp] theorem makeOnline_roll (b : Berth) (s : Station) : (makeOnline b s).roll = b.roll := by
  unfold makeOnline; dsimp only; split <;> [rfl; (split <;> rfl)]

@[simp] theorem emptyOrders_roll (b : Berth) (r : Role) : (emptyOrders b r).roll = b.roll := by
  unfold emptyOrders; split <;> rfl

@[simp] theorem offlineEffects_roll (b : Berth) (r : Role) : (offlineEffects b r).roll = b.roll := by
  unfold offlineEffects; split <;> simp

@[simp] theorem declareOffline_roll (b : Berth) (s : Station) : (declareOffline b s).roll = b.roll := by
  simp [declareOffline]

@[simp] theorem craneUndelivered_roll (b : Berth) (c : Crane) (body : OrderBody) :
    (craneUndelivered b c body).roll = b.roll := by
  unfold craneUndelivered; split <;> [(split <;> simp); rfl]

@[simp] theorem promoteUndelivered_roll (b : Berth) (body : OrderBody) : (promoteUndelivered b body).roll = b.roll := by
  unfold promoteUndelivered; split <;> [(split <;> [rfl; (split <;> simp)]); rfl]

@[simp] theorem ownerReport_roll (b : Berth) (r : Role) (body : OrderBody) (d : Bool) :
    (ownerReport b r body d).roll = b.roll := by
  unfold ownerReport
  split
  case h_1 | h_2 => split <;> simp
  case h_3 => rw [Berth.owePromotion_roll]; split <;> simp
  all_goals rfl

@[simp] theorem reportOrder_roll (b : Berth) (s : Station) (report : Option (OrderBody × Bool)) :
    (reportOrder b s report).roll = b.roll := by
  unfold reportOrder
  dsimp only
  split <;> [rfl; simp; (split <;> simp)]

@[simp] theorem endAttempt_roll (b : Berth) (e : AttemptEnd) : (endAttempt b e).roll = b.roll := by
  unfold endAttempt
  dsimp only
  split
  · rfl
  · split
    case h_1 | h_2 | h_3 => rw [reportOrder_roll]; rfl
    all_goals rfl

/-- R46: a SET_DOWN is the one report that can free a slot. -/
theorem ownReport_within (b : Berth) (r : Role) (kind : Byte) (body : List Byte) : (ownReport b r kind body).1.Within b := by
  unfold ownReport
  split
  · exact .refl b
  · split
    case h_1 =>
      split; · exact .of_roll (by simp)
      split; · exact .of_roll (by simp)
      split; · exact .of_roll (by simp)
      split; · exact .of_roll (by simp)
      split
      · unfold setDownReport
        dsimp only
        split <;> [exact .refl b; (split <;> [exact .refl b; (split <;> [exact .refl b; exact land_within ..])])]
      · repeat' split
        all_goals exact .of_roll (by simp)
    all_goals
      repeat' split
      all_goals exact .of_roll (by simp)

theorem answer_roll (b : Berth) (s : Station) (r : Reply) : (answer b s r).roll = b.roll := by
  unfold answer; split <;> rfl

theorem handFrame_within (b : Berth) (s : Station) (kind : Byte) (body : List Byte) : (handFrame b s kind body).Within b := by
  have sent : ∀ x r, (sendReply (settleIf b x) s r).roll = x.roll := fun x r => by rw [← @settleIf_roll b x]; rfl
  have taken : ∀ x : Berth, x.Within (makeOnline b s) → x.Within b := fun x h => h.trans (.of_roll (makeOnline_roll b s))
  unfold handFrame
  dsimp only
  split
  · exact .refl b
  · refine (Berth.Within.of_roll (sent _ _)).trans (taken _ ?_)
    split
    · exact ownReport_within ..
    · exact .refl _
  · exact (Berth.Within.of_roll (sent _ _)).trans (taken _ (ownReport_within ..))

theorem takeFrame_within (b : Berth) (s : Station) (cls : BitVec 2) (kind : Byte) (body : List Byte) :
    (takeFrame b s cls kind body).Within b := by
  have refused : ∀ r, (answer (b.raise linkError) s r).Within b := fun r => .of_roll (by rw [answer_roll]; rfl)
  unfold takeFrame
  split
  · exact .of_roll rfl
  · split <;> [exact refused _; (split <;> [exact refused _; exact handFrame_within ..])]

theorem goodFrame_within (b : Berth) (s : Station) (cls : BitVec 2) (kind : Byte) (body : List Byte) :
    (goodFrame b s cls kind body).Within b := by
  have heard : ((setHeard b s).setSent none).roll = b.roll := rfl
  unfold goodFrame
  dsimp only
  split
  · refine .of_roll ?_
    split <;> simp [heard]
  · exact (takeFrame_within ..).trans (.of_roll heard)

@[simp] theorem badFrame_roll (b : Berth) : (badFrame b).roll = b.roll := by
  unfold badFrame; dsimp only; split <;> simp

@[simp] theorem windowClose_roll (b : Berth) : (windowClose b).roll = b.roll := by
  unfold windowClose; dsimp only; split <;> simp

@[simp] theorem launch_roll (b : Berth) (s : Station) : (launch b s).roll = b.roll := by
  unfold launch; split <;> rfl

@[simp] theorem sendOrder_roll (o : SendOutcome) (b : Berth) : (sendOrder o b).roll = b.roll := by
  unfold sendOrder
  dsimp only
  split
  · split
    · rfl
    · split <;> simp
  · rfl

/-! ## The roll kept -/

/-- R3, R27, of a roll: the numbers ascend and fit the section. -/
def RollKept (r : Sizes × List TicketNo) : Prop := (r.2.map (·.toNat)).Pairwise (· < ·) ∧ r.2.length ≤ r.1.ticketSlots

theorem ticketsKept_iff (s : State) : TicketsKept s ↔ RollKept s.berth.roll := by
  simp [TicketsKept, RollKept, Berth.roll, Function.comp_def]

theorem RollKept.within {b b' : Berth} (h : RollKept b.roll) (w : b'.Within b) : RollKept b'.roll := by
  obtain ⟨ascend, fit⟩ := h
  obtain ⟨size, sub⟩ := w
  exact ⟨ascend.sublist (sub.map _), show _ ≤ b'.sizes.ticketSlots from size ▸ sub.length_le.trans fit⟩

theorem RollKept.of_roll {b b' : Berth} (h : RollKept b.roll) (e : b'.roll = b.roll) : RollKept b'.roll := e ▸ h

theorem RollKept.of_empty {b : Berth} (h : b.tickets = []) : RollKept b.roll := by
  simp [RollKept, Berth.roll, h]

/-- R13: a new number in a free slot keeps the roll in order. -/
theorem RollKept.createTicket {b : Berth} {t : Ticket} (h : RollKept b.roll) (new : b.ticket? t.number = none)
    (room : b.freeTickets ≠ 0) : RollKept (createTicket b t).roll := by
  have added : RollKept (b.addTicket t).roll := by
    obtain ⟨ascend, fit⟩ := h
    refine ⟨?_, ?_⟩
    · simp only [Berth.roll, List.map_map] at ascend ⊢
      refine insertBy_pairwise (fun x : Ticket => x.number.toNat) t b.tickets ascend fun y hy e => ?_
      have := List.find?_eq_none.1 new y hy
      exact this (by simpa using BitVec.eq_of_toNat_eq e)
    · have : b.sizes.ticketSlots - b.tickets.length ≠ 0 := room
      show ((insertBy _ t b.tickets).map _).length ≤ b.sizes.ticketSlots
      rw [List.length_map, insertBy_length]
      omega
  unfold Machine.createTicket
  dsimp only
  split
  · exact added.of_roll (Berth.modTicket_roll _ _ _ fun _ => by rfl)
  · exact added

/-- A check of LOAD that passes leaves a new number and a free slot. -/
theorem loadRefusal_none {b : Berth} {t : Ticket} (h : loadRefusal b t = none) :
    b.ticket? t.number = none ∧ b.freeTickets ≠ 0 := by
  unfold loadRefusal at h
  split at h
  · cases h
  · next hn =>
    split at h
    · cases h
    · next hf => exact ⟨by simpa using hn, hf⟩

theorem RollKept.ownLoad {b : Berth} (body : List Byte) (h : RollKept b.roll) : RollKept (ownLoad b body).1.roll := by
  unfold Machine.ownLoad
  dsimp only
  split; · exact h
  split; · exact h
  split; · exact h
  split; · exact h
  next passed =>
  obtain ⟨new, room⟩ := loadRefusal_none passed
  have created := h.createTicket new room
  split
  · exact created.of_roll (settle_roll _)
  · split
    · next e => exact created.of_roll ((settle_roll _).trans (releaseTicket_roll e))
    · exact h

theorem RollKept.ownAmend {b : Berth} (body : List Byte) (h : RollKept b.roll) : RollKept (ownAmend b body).1.roll := by
  unfold Machine.ownAmend
  dsimp only
  repeat' split
  all_goals first | exact h | exact h.of_roll (by simp)

theorem RollKept.ownRelease {b : Berth} (body : List Byte) (h : RollKept b.roll) : RollKept (ownRelease b body).1.roll := by
  unfold Machine.ownRelease
  dsimp only
  split; · exact h
  split; · exact h
  split
  · next e => exact h.of_roll ((settle_roll _).trans (releaseTicket_roll e))
  · exact h

theorem RollKept.ownHold {b : Berth} (body : List Byte) (h : RollKept b.roll) : RollKept (ownHold b body).1.roll := by
  unfold Machine.ownHold
  dsimp only
  split
  · exact h
  · split <;> exact h.of_roll (by simp)

theorem RollKept.ownCancel {b : Berth} (body : List Byte) (h : RollKept b.roll) : RollKept (ownCancel b body).1.roll := by
  unfold Machine.ownCancel
  dsimp only
  split
  · exact h
  · split <;> exact h.of_roll (by simp)

theorem RollKept.ownRetire {b : Berth} (body : List Byte) (h : RollKept b.roll) : RollKept (ownRetire b body).1.roll := by
  unfold Machine.ownRetire
  dsimp only
  split
  · exact h
  · split
    · exact h
    · exact (h.within (freeTicket_within b _)).of_roll (settle_roll _)

theorem RollKept.ownForce {b : Berth} (body : List Byte) (h : RollKept b.roll) : RollKept (ownForce b body).1.roll := by
  have forced : ∀ c n, RollKept (setForced b c n).roll := fun c n => h.of_roll (setForced_roll b c n)
  unfold Machine.ownForce
  dsimp only
  split; · exact h
  split; · exact h
  split; · exact h
  split
  · exact ((forced _ _).within (land_within ..)).of_roll (settle_roll _)
  · exact h.of_roll (by simp)

theorem RollKept.ownPartition {b : Berth} (body : List Byte) (h : RollKept b.roll) :
    RollKept (ownPartition b body).1.roll := by
  unfold Machine.ownPartition
  dsimp only
  split; · exact h
  split; · exact h
  next empty =>
  split; · exact h
  refine RollKept.of_roll (RollKept.of_empty ?_) (settle_roll _)
  show b.tickets = []
  simpa using empty

theorem RollKept.ownWrite {b : Berth} (code : Byte) (body : List Byte) (h : RollKept b.roll) :
    RollKept (ownWrite code body b).1.roll := by
  unfold Machine.ownWrite
  split
  case h_1 => exact h.ownLoad body
  case h_2 => exact h.ownAmend body
  case h_3 => exact h.ownRelease body
  case h_4 => exact h.ownHold body
  case h_5 => exact h.ownCancel body
  case h_6 => exact h.ownRetire body
  case h_7 => exact h.ownForce body
  case h_27 => exact h.ownPartition body
  case h_28 => exact RollKept.of_roll (RollKept.of_empty rfl) (settle_roll (clearAll b))
  all_goals exact h.of_roll (by first | rfl | simp)

/-- R3, R27: no change of the berth gives two tickets one number or more tickets than slots. -/
theorem rollKept_events : KeptByEvents fun b => RollKept b.roll where
  reset _ := RollKept.of_empty rfl
  timeout h := h.of_roll rfl
  write code body h := h.ownWrite code body
  frame _ _ _ _ h := h.within (goodFrame_within ..)
  noFrame h := h.of_roll (badFrame_roll _)
  close h := h.of_roll (windowClose_roll _)
  send o h := h.of_roll (sendOrder_roll o _)
  clock h := h.of_roll (clockStep_roll _)
  expiry c h := h.of_roll (expiryEvent_roll c _)
  late n h := h.of_roll (lateEvent_roll n _)
  starved c h := h.of_roll (starveCheck_roll _ c)
  boundary h := h.of_roll (boundaryEvent_roll _)

/-- Settles O57: each change of the berth keeps the roll in order and within its section, and so every step does. -/
theorem ticketsStayUnique : Obligations.TicketsStayUnique := by
  intro s t h e
  rw [ticketsKept_iff] at h ⊢
  exact rollKept_events.step h e

end Sys2Proof.Machine

/-! # Bytes of a body

What the byte accessors read of the bytes that the byte orders write. -/

namespace Sys2Proof.Machine

/-- Two adjacent pieces of a word, joined, are the piece of both. -/
theorem extract_join {w : Nat} (x : BitVec w) (k m n : Nat) :
    x.extractLsb' (k + n) m ++ x.extractLsb' k n = x.extractLsb' k (m + n) := by
  refine BitVec.eq_of_getLsbD_eq fun i hi => ?_
  simp only [BitVec.getLsbD_append, BitVec.getLsbD_extractLsb']
  by_cases h : i < n
  · simp [h, hi]
  · have e : k + n + (i - n) = k + i := by omega
    have hm : i - n < m := by omega
    simp [h, hi, e, hm]

@[simp] theorem bytes16_join (x : BitVec 16) : x.extractLsb' 8 8 ++ x.extractLsb' 0 8 = x :=
  (extract_join x 0 8 8).trans (BitVec.extractLsb'_eq_self)

@[simp] theorem bytes24_join (x : BitVec 24) :
    (x.extractLsb' 16 8 ++ x.extractLsb' 8 8 : BitVec 16) ++ x.extractLsb' 0 8 = x :=
  (congrArg (· ++ x.extractLsb' 0 8) (extract_join x 8 8 8)).trans
    ((extract_join x 0 16 8).trans (BitVec.extractLsb'_eq_self))

@[simp] theorem bytes32_join (x : BitVec 32) :
    (x.extractLsb' 24 8 ++ x.extractLsb' 16 8 : BitVec 16) ++ (x.extractLsb' 8 8 ++ x.extractLsb' 0 8 : BitVec 16) = x :=
  (congrArg₂ (· ++ ·) (extract_join x 16 8 8) (extract_join x 0 8 8)).trans
    ((extract_join x 0 16 16).trans (BitVec.extractLsb'_eq_self))

@[simp] theorem bytes16_length (n : BitVec 16) : (bytes16 n).length = 2 := rfl

@[simp] theorem bytes24_length (n : BitVec 24) : (bytes24 n).length = 3 := rfl

@[simp] theorem word16At_bytes16 (n : BitVec 16) (l : List Byte) : word16At (bytes16 n ++ l) 0 = n := bytes16_join n

@[simp] theorem word16At_bytes16_nil (n : BitVec 16) : word16At (bytes16 n) 0 = n := bytes16_join n

@[simp] theorem word24At_bytes24_nil (n : BitVec 24) : word24At (bytes24 n) 0 = n := bytes24_join n

end Sys2Proof.Machine

/-! # Ticket commands from a ready port -/

namespace Sys2Proof.Machine

/-- A write whose body has an allowed length and that the mode does not refuse is its owner's (R187). -/
theorem hostWrite_owned {code : Byte} {s : State} {body : List Byte} {lo hi : Nat} {b : Berth} {r : Res}
    (ready : PortReady s) (notRead : readParams? code = none) (lengths : writeLengths? code = some (lo, hi))
    (long : lo ≤ body.length) (short : body.length ≤ hi) (mode : modeRefusal code s.berth.mode = none)
    (own : ownWrite code body s.berth = (b, r)) : hostWrite code body s = applied code b r s := by
  have applies : applyWrite code body s.berth = (b, r) := by
    simp [applyWrite, lengths, Nat.not_lt.2 long, mode, own]
  rw [hostWrite_ready ready notRead lengths short, applies]

section

variable {s : State} {body : List Byte} {b : Berth} {r : Res} (ready : PortReady s)
include ready

theorem exec_load (long : 32 ≤ body.length) (short : body.length ≤ 33) (own : ownLoad s.berth body = (b, r)) :
    exec (.load body) s = .next (applied 0x20 b r s) :=
  congrArg _ (hostWrite_owned (code := 0x20) ready rfl rfl long short (by cases s.berth.mode <;> rfl) own)

theorem exec_amend (long : 30 ≤ body.length) (short : body.length ≤ 31) (own : ownAmend s.berth body = (b, r)) :
    exec (.amend body) s = .next (applied 0x21 b r s) :=
  congrArg _ (hostWrite_owned (code := 0x21) ready rfl rfl long short (by cases s.berth.mode <;> rfl) own)

theorem exec_release (n : TicketNo) (own : ownRelease s.berth (bytes16 n) = (b, r)) :
    exec (.release (bytes16 n)) s = .next (applied 0x22 b r s) :=
  congrArg _ (hostWrite_owned (code := 0x22) ready rfl rfl (by simp) (by simp) (by cases s.berth.mode <;> rfl) own)

theorem exec_hold (n : TicketNo) (own : ownHold s.berth (bytes16 n) = (b, r)) :
    exec (.hold (bytes16 n)) s = .next (applied 0x23 b r s) :=
  congrArg _ (hostWrite_owned (code := 0x23) ready rfl rfl (by simp) (by simp) (by cases s.berth.mode <;> rfl) own)

theorem exec_cancel (n : TicketNo) (own : ownCancel s.berth (bytes16 n) = (b, r)) :
    exec (.cancel (bytes16 n)) s = .next (applied 0x24 b r s) :=
  congrArg _ (hostWrite_owned (code := 0x24) ready rfl rfl (by simp) (by simp) (by cases s.berth.mode <;> rfl) own)

theorem exec_retire (n : TicketNo) (own : ownRetire s.berth (bytes16 n) = (b, r)) :
    exec (.retire (bytes16 n)) s = .next (applied 0x25 b r s) :=
  congrArg _ (hostWrite_owned (code := 0x25) ready rfl rfl (by simp) (by simp) (by cases s.berth.mode <;> rfl) own)

theorem exec_forceDone (n : TicketNo) (own : ownForce s.berth (bytes16 n ++ [1]) = (b, r)) :
    exec (.forceDone n none) s = .next (applied 0x26 b r s) :=
  congrArg _ (hostWrite_owned (code := 0x26) ready rfl rfl (by simp) (by simp) (by cases s.berth.mode <;> rfl) own)

theorem exec_forceBack (n : TicketNo) (own : ownForce s.berth (bytes16 n ++ [2]) = (b, r)) :
    exec (.forceBack n none) s = .next (applied 0x26 b r s) :=
  congrArg _ (hostWrite_owned (code := 0x26) ready rfl rfl (by simp) (by simp) (by cases s.berth.mode <;> rfl) own)

end

/-! ## The ticket that a body names -/

theorem namedTicket_found {b : Berth} {n : TicketNo} {t : Ticket} (h : b.ticket? n = some t) :
    namedTicket b n none = .ok t := by
  simp [namedTicket, h, expectRefusal]

theorem namedTicket_unknown {b : Berth} {n : TicketNo} (h : b.ticket? n = none) (e : Option Byte) :
    namedTicket b n e = .error (ticketRes .unknown n 0) := by
  simp [namedTicket, h]

theorem expectOf_short {max : Nat} {body : List Byte} (h : body.length ≠ max) : expectOf max body = none := by
  simp [expectOf, h]

@[simp] theorem expectOf_number (n : TicketNo) : expectOf 3 (bytes16 n) = none := expectOf_short (by simp)

/-! ## HOLD and RETIRE (O14) -/

/-- Settles O14. -/
theorem holdAndRetireByState : Obligations.HoldAndRetireByState := by
  refine ⟨fun s n t ready named => ?_, fun s n t ready named dead => ⟨exec_retire ready n ?_, freeTicket_gone s.berth n, ?_⟩⟩
  · refine ⟨fun st => exec_hold ready n ?_, fun st => exec_hold ready n ?_, fun st => exec_hold ready n ?_,
      fun st => exec_hold ready n ?_⟩
    · simp [ownHold, namedTicket_found named, st]
    · simp [ownHold, namedTicket_found named, st]
    · simp [ownHold, namedTicket_found named, st]
    · simp only [List.mem_cons, List.not_mem_nil, or_false] at st
      obtain st | st | st | st := st <;> simp [ownHold, namedTicket_found named, st]
  · simp [ownRetire, namedTicket_found named, dead]
  · simp [ticketWindow, freeTicket_gone]

/-! ## FORCE (O17) -/

/-- R22: FORCE of a LIFTING ticket, by its action. -/
theorem ownForce_lifting {b : Berth} {n : TicketNo} {t : Ticket} (named : b.ticket? n = some t) (lifting : t.state = .lifting)
    (force : b.forceable t.crane = true) (action : Byte) (known : action = 1 ∨ action = 2) :
    ownForce b (bytes16 n ++ [action]) =
      (settle (if action = 1 then land (setForced b t.crane n) t.crane false else abandonLift (setForced b t.crane n) t.crane),
        ticketRes .ok n 0) := by
  have number : word16At (bytes16 n ++ [action]) 0 = n := word16At_bytes16 n _
  have third : byteAt (bytes16 n ++ [action]) 2 = action := rfl
  have noExpect : expectOf 4 (bytes16 n ++ [action]) = none := expectOf_short (by simp)
  simp only [ownForce, number, third, noExpect, namedTicket_found named, lifting, force]
  obtain rfl | rfl := known <;> simp

/-- Settles O17. -/
theorem forceEndsLift : Obligations.ForceEndsLift := by
  intro s n t ready named lifting force
  have forced := ownForce_lifting named lifting force
  exact ⟨exec_forceDone ready n (forced 1 (Or.inl rfl)), exec_forceBack ready n (forced 2 (Or.inr rfl))⟩

/-! ## RELEASE (O13) -/

/-- R16: RELEASE of a HELD ticket makes the release or answers with its refusal. -/
theorem ownRelease_held {b : Berth} {n : TicketNo} {t : Ticket} (named : b.ticket? n = some t) (held : t.state = .held) :
    (∀ b', releaseTicket b t = .ok b' → ownRelease b (bytes16 n) = (settle b', ticketRes .ok n 0))
    ∧ ∀ res, releaseTicket b t = .error res → ownRelease b (bytes16 n) = (b, res) := by
  constructor <;>
  · intro x e
    simp [ownRelease, namedTicket_found named, held, e]

/-- R11: a release that is not refused and needs no unlash link. -/
theorem releaseTicket_unlinked {b : Berth} {t : Ticket} (going : (b.crane t.crane).halt = false)
    (noLink : t.lash ≠ .unlashBefore ∨ t.lashState ≠ .notNeeded) :
    releaseTicket b t = .ok (b.modTicket t.number (Ticket.released b.nowSecs)) := by
  have : ¬ (t.lash = .unlashBefore ∧ t.lashState = .notNeeded) := by tauto
  simp [releaseTicket, going, this]

/-- R11: a release that needs an unlash link makes it first. -/
theorem releaseTicket_linking {b : Berth} {t : Ticket} (going : (b.crane t.crane).halt = false)
    (lash : t.lash = .unlashBefore) (new : t.lashState = .notNeeded) :
    (∀ x, linkUnlash b t = some x → releaseTicket b t = .ok (x.modTicket t.number (Ticket.released x.nowSecs)))
    ∧ (linkUnlash b t = none → releaseTicket b t = .error (ticketRes .taskPoolFull t.number 0)) := by
  constructor
  · intro x e
    simp [releaseTicket, going, lash, new, e]
  · intro e
    simp [releaseTicket, going, lash, new, e]

end Sys2Proof.Machine

/-! # What a number names after an update -/

namespace Sys2Proof.Machine

/-! ## A place found in an ordered list -/

/-- An insertion that fails a test leaves what the test finds. -/
theorem find?_insertBy_of_not {α : Type} {p : α → Bool} (le : α → α → Bool) {x : α} (l : List α) (h : p x = false) :
    (insertBy le x l).find? p = l.find? p := by
  induction l with
  | nil => simp [insertBy, h]
  | cons y ys ih =>
    simp only [insertBy]
    split
    · simp [List.find?_cons, h]
    · simp only [List.find?_cons, ih]

/-- An insertion that alone meets a test is what the test finds. -/
theorem find?_insertBy_self {α : Type} {p : α → Bool} (le : α → α → Bool) {x : α} {l : List α} (h : p x = true)
    (none : l.find? p = none) : (insertBy le x l).find? p = some x := by
  induction l with
  | nil => simp [insertBy, h]
  | cons y ys ih =>
    have hy : p y = false := by simpa using List.find?_eq_none.1 none y List.mem_cons_self
    have hys : ys.find? p = Option.none := by simpa [List.find?_cons, hy] using none
    simp only [insertBy]
    split
    · simp [h]
    · simp [hy, ih hys]

namespace Berth

/-! ## Tickets -/

theorem ticket?_addTicket_same {b : Berth} {t : Ticket} (new : b.ticket? t.number = none) :
    (b.addTicket t).ticket? t.number = some t := find?_insertBy_self _ (by simp) new

theorem ticket?_addTicket_other {b : Berth} {t : Ticket} {n : TicketNo} (h : n ≠ t.number) :
    (b.addTicket t).ticket? n = b.ticket? n := find?_insertBy_of_not _ _ (by simpa using h.symm)

/-- The one ticket that a number names is the one in the table, where numbers are unique. -/
theorem ticket?_modTicket (b : Berth) (n m : TicketNo) (f : Ticket → Ticket) (h : ∀ t, (f t).number = t.number) :
    (b.modTicket n f).ticket? m = if m = n then (b.ticket? m).map f else b.ticket? m := by
  split
  · next e => rw [e, ticket?_modTicket_same b n f h]
  · next e => exact ticket?_modTicket_other b n m f h e

/-! ## Tasks -/

theorem task?_number {b : Berth} {n : TaskNo} {t : Task} (h : b.task? n = some t) : t.number = n := by
  simpa using List.find?_some h

@[simp] theorem task?_modTask_same (b : Berth) (n : TaskNo) (f : Task → Task) (h : ∀ t, (f t).number = t.number) :
    (b.modTask n f).task? n = (b.task? n).map f := by
  simp only [task?, modTask, List.find?_map, Function.comp_def]
  have same : (fun t : Task => (if t.number == n then f t else t).number == n) = fun t => t.number == n := by
    funext t; split <;> simp_all
  rw [same]
  cases e : b.ltu.tasks.find? fun t => t.number == n with
  | none => rfl
  | some t => simp [show t.number = n by simpa using List.find?_some e]

theorem task?_modTask_other (b : Berth) {n m : TaskNo} (f : Task → Task) (h : ∀ t, (f t).number = t.number) (e : m ≠ n) :
    (b.modTask n f).task? m = b.task? m := by
  simp only [task?, modTask, List.find?_map, Function.comp_def]
  have same : (fun t : Task => (if t.number == n then f t else t).number == m) = fun t => t.number == m := by
    funext t; split <;> simp_all
  rw [same]
  cases k : b.ltu.tasks.find? fun t => t.number == m with
  | none => rfl
  | some t =>
    have : t.number = m := by simpa using List.find?_some k
    simp [this, e]

@[simp] theorem task?_dropTask_same (b : Berth) (n : TaskNo) : (b.dropTask n).task? n = none := by
  simp [dropTask, task?]

theorem task?_dropTask_other (b : Berth) {n m : TaskNo} (e : m ≠ n) : (b.dropTask n).task? m = b.task? m := by
  simp only [dropTask, task?, List.find?_filter]
  congr 1
  funext t
  by_cases h : t.number = m <;> simp [h, e]

theorem task?_createTask_same {b : Berth} {n : TaskNo} (k : TaskKind) (bay : Bay) (c : Crane) (l : Nat)
    (new : b.task? n = none) : (b.createTask n k bay c l).task? n =
      some { number := n, kind := k, bay, crane := c, linked := l, state := .opened, created := b.ltu.creation } :=
  find?_insertBy_self _ (by simp) new

theorem task?_createTask_other (b : Berth) {n m : TaskNo} (k : TaskKind) (bay : Bay) (c : Crane) (l : Nat) (h : m ≠ n) :
    (b.createTask n k bay c l).task? m = b.task? m := find?_insertBy_of_not _ _ (by simpa using h.symm)

@[simp] theorem createTask_tasks_length (b : Berth) (n : TaskNo) (k : TaskKind) (bay : Bay) (c : Crane) (l : Nat) :
    (b.createTask n k bay c l).ltu.tasks.length = b.ltu.tasks.length + 1 := insertBy_length ..

@[simp] theorem modTask_tasks_length (b : Berth) (n : TaskNo) (f : Task → Task) :
    (b.modTask n f).ltu.tasks.length = b.ltu.tasks.length := List.length_map _

/-- R117, R217: the free slot that a new task takes names no task. -/
theorem freeTaskSlot_new {b : Berth} {k : TaskNo} (h : b.freeTaskSlot = some k) : b.task? k = none := by
  have bound : 0 + b.sizes.taskSlotsWithin ≤ 2 ^ 16 := by
    have : b.sizes.taskSlotsWithin ≤ 1600 - b.sizes.ticketSlots - b.sizes.ruleSlots := Nat.min_le_right ..
    omega
  obtain ⟨-, -, new⟩ := lowestFree_spec _ _ _ _ bound h
  exact List.find?_eq_none.2 fun t ht => by simpa using new t ht

end Berth

/-! # RELEASE (O13) -/

/-- R11: the link made where an UNLASH task stands at the bay. -/
theorem linkUnlash_join {b : Berth} {t : Ticket} {k : Task} (at_ : b.unlashTaskAt t.bay = some k) :
    linkUnlash b t = some ((b.modTask k.number fun x => { x with linked := x.linked + 1 }).modTicket t.number
      fun x => { x with lashState := .awaiting, task := some k.number }) := by
  simp [linkUnlash, at_]

/-- R11, R120: the link made to a new task. -/
theorem linkUnlash_create {b : Berth} {t : Ticket} {k : TaskNo} (at_ : b.unlashTaskAt t.bay = none)
    (room : b.freeTasks ≠ 0) (slot : b.freeTaskSlot = some k) :
    linkUnlash b t = some ((b.createTask k .unlash t.bay t.crane 1).modTicket t.number
      fun x => { x with lashState := .awaiting, task := some k }) := by
  simp [linkUnlash, at_, room, slot]

theorem linkUnlash_full {b : Berth} {t : Ticket} (at_ : b.unlashTaskAt t.bay = none) (full : b.freeTasks = 0) :
    linkUnlash b t = none := by
  simp [linkUnlash, at_, full]

/-- A ticket linked and released, where what was made of the task pool left its record. -/
theorem ticket?_linked_released {b x : Berth} {t : Ticket} (k : TaskNo) (now : Secs) (named : b.ticket? t.number = some t)
    (same : x.tickets = b.tickets) :
    ((x.modTicket t.number fun y => { y with lashState := .awaiting, task := some k }).modTicket t.number
      (Ticket.released now)).ticket? t.number =
      some (Ticket.released now { t with lashState := .awaiting, task := some k }) := by
  have found : x.ticket? t.number = some t := by rw [← named]; simp only [Berth.ticket?, same]
  rw [Berth.ticket?_modTicket_same _ _ _ (Ticket.released_number now), Berth.ticket?_modTicket_same _ _ _ fun _ => by rfl, found]
  rfl

/-- Settles O13. -/
theorem releaseMovesToPending : Obligations.ReleaseMovesToPending := by
  refine ⟨fun s n t ready named held => ?_, fun b t named lash new going => ?_, fun b t => rfl⟩
  · obtain ⟨made, refused⟩ := ownRelease_held named held
    refine ⟨fun b' e => exec_release ready n (made b' e), fun res e => exec_release ready n (refused res e),
      fun going noLink => exec_release ready n (made _ ?_)⟩
    rw [releaseTicket_unlinked going noLink, Berth.ticket?_number named]
  · obtain ⟨made, refused⟩ := releaseTicket_linking going lash new
    refine ⟨fun k at_ => ⟨_, made _ (linkUnlash_join at_), ?_, ?_, ?_⟩, fun at_ full => refused (linkUnlash_full at_ full),
      fun k at_ room slot => ⟨_, made _ (linkUnlash_create at_ room slot), ?_, ?_, Berth.freeTaskSlot_new slot, ?_⟩⟩
    · exact ticket?_linked_released k.number _ named rfl
    · exact Berth.modTask_tasks_length ..
    · exact Berth.task?_modTask_same _ _ _ fun _ => rfl
    · exact ticket?_linked_released k _ named rfl
    · exact Berth.createTask_tasks_length ..
    · exact Berth.task?_createTask_same _ _ _ _ (Berth.freeTaskSlot_new slot)

end Sys2Proof.Machine

/-! # LOAD (O11) -/

namespace Sys2Proof.Machine

/-! ## The fields of a body -/

theorem firstInvalid_none {l : List (Bool × Byte)} (h : firstInvalid l = none) : ∀ x ∈ l, x.1 = true := by
  induction l with
  | nil => simp
  | cons x xs ih =>
    obtain ⟨ok, o⟩ := x
    cases ok
    · simp [firstInvalid] at h
    · simpa using ih (by simpa [firstInvalid] using h)

/-- A number below a bound, read back from the byte it came from. -/
theorem finByte_toNat {n : Nat} {x : Byte} (i : Fin n) (h : i.val = x.toNat) : finByte i = x := by
  simp [finByte, natByte, h]

theorem finByte_crane {x : Byte} (h : (craneOf? x).isSome = true) : finByte ((craneOf? x).getD 0) = x := by
  unfold craneOf? at h ⊢
  split at h
  · next lt => simp only [lt, dite_true, Option.getD_some]; exact finByte_toNat _ rfl
  · cases h

theorem finByte_priority {x : Byte} (h : x.toNat ≤ 3) : finByte (priorityOf x) = x := by
  have lt : x.toNat < 4 := by omega
  simp only [priorityOf, lt, dite_true]
  exact finByte_toNat _ rfl

theorem kind_code {x : Byte} (h : (kindOf? x).isSome = true) : ((kindOf? x).getD .discharge).code = x := by
  unfold kindOf? at h ⊢; split_ifs at h ⊢ <;> simp_all [Kind.code]

theorem size_code {x : Byte} (h : (sizeOf? x).isSome = true) : ((sizeOf? x).getD .s20).code = x := by
  unfold sizeOf? at h ⊢; split_ifs at h ⊢ <;> simp_all [Size.code]

theorem level_code {x : Byte} (h : (levelOf? x).isSome = true) : ((levelOf? x).getD .deck).code = x := by
  unfold levelOf? at h ⊢; split_ifs at h ⊢ <;> simp_all [Level.code]

theorem lash_code {x : Byte} (h : (lashOf? x).isSome = true) : ((lashOf? x).getD .none).code = x := by
  unfold lashOf? at h ⊢; split_ifs at h ⊢ <;> simp_all [Lash.code]

theorem bool_code {x : Byte} (h : (boolOf? x).isSome = true) : boolByte ((boolOf? x).getD false) = x := by
  unfold boolOf? at h ⊢; split_ifs at h ⊢ <;> simp_all [boolByte]

theorem container_getD {l : List Byte} (h : (containerOf? l).isSome = true) :
    (containerOf? l).getD none = if l = zeros 11 then none else some l := by
  unfold containerOf? at h ⊢; split_ifs at h ⊢ <;> simp_all

/-! ## The berth with the ticket created -/

section

variable {b : Berth} {t : Ticket}

/-- R12: a LOAD that passes its checks has a new number, a free slot, a new container and a partner that qualifies. -/
theorem loadRefusal_passed (h : loadRefusal b t = none) :
    (∀ id, t.container = some id → b.indexed? id = none)
    ∧ ∀ p, t.partner = some p → partnerCause b t p = none := by
  unfold loadRefusal at h
  split_ifs at h with number full container
  constructor
  · intro id e
    simpa [e] using container
  · intro p e
    simpa [e] using h

theorem partner_ne_self {p : TicketNo} (h : partnerCause b t p = none) : p ≠ t.number := by
  unfold partnerCause at h
  split at h
  · cases h
  · split_ifs at h with self
    exact self

/-- R13: the creation adds the ticket and names it in its partner. -/
theorem ticket?_createTicket (new : b.ticket? t.number = none) (other : ∀ p, t.partner = some p → p ≠ t.number) (n : TicketNo) :
    (createTicket b t).ticket? n = if n = t.number then some t
      else if t.partner = some n then (b.ticket? n).map fun x => { x with partner := some t.number } else b.ticket? n := by
  have added : (b.addTicket t).ticket? n = if n = t.number then some t else b.ticket? n := by
    split
    · next e => rw [e]; exact Berth.ticket?_addTicket_same new
    · next e => exact Berth.ticket?_addTicket_other e
  unfold createTicket
  cases hp : t.partner with
  | none => simpa using added
  | some p =>
    dsimp only
    rw [Berth.ticket?_modTicket _ _ _ _ (by exact fun _ => rfl), added]
    by_cases e : n = t.number
    · have := other p hp
      simp [e, Ne.symm this]
    · by_cases hn : n = p
      · subst hn; simp [e]
      · simp [e, hn, Ne.symm hn]

theorem createTicket_tickets_length : (createTicket b t).tickets.length = b.tickets.length + 1 := by
  unfold createTicket
  split <;> simp [Berth.modTicket, Berth.modTicketsIf_tickets, Berth.addTicket]

theorem createTicket_sizes : (createTicket b t).sizes = b.sizes := by
  unfold createTicket; split <;> rfl

/-- R27: the creation takes one free slot. -/
theorem createTicket_freeTickets (room : b.freeTickets ≠ 0) : (createTicket b t).freeTickets + 1 = b.freeTickets := by
  unfold Berth.freeTickets at room ⊢
  rw [createTicket_sizes, createTicket_tickets_length]
  omega

/-- R26: a change of tickets that keeps containers and states keeps what the container index finds, changed alike. -/
theorem indexed?_modTicketsIf (b : Berth) (p : Ticket → Bool) (f : Ticket → Ticket) (id : ContainerId)
    (keeps : ∀ t, (f t).state = t.state ∧ (f t).container = t.container) :
    (b.modTicketsIf p f).indexed? id = (b.indexed? id).map fun t => if p t then f t else t := by
  simp only [Berth.indexed?, Berth.modTicketsIf_tickets, List.find?_map]
  congr 2
  funext t
  simp only [Function.comp]
  split
  · rw [(keeps t).1, (keeps t).2]
  · rfl

/-- R26: the container of a created ticket enters the index. -/
theorem indexed?_createTicket {id : ContainerId} (live : t.state.live = true) (holds : t.container = some id)
    (new : b.indexed? id = none) (other : ∀ p, t.partner = some p → p ≠ t.number) :
    (createTicket b t).indexed? id = some t := by
  have added : (b.addTicket t).indexed? id = some t := find?_insertBy_self _ (by simp [live, holds]) new
  unfold createTicket
  cases hp : t.partner with
  | none => exact added
  | some p =>
    have := other p hp
    refine (indexed?_modTicketsIf _ _ _ _ (by exact fun _ => ⟨rfl, rfl⟩)).trans ?_
    rw [added]
    simp [Ne.symm this]

end

/-! ## The command -/

/-- The expect byte that is absent or names FREE is met by an unused number (R10). -/
theorem expectRefusal_load {b : Berth} {n : TicketNo} {body : List Byte} (new : b.ticket? n = none)
    (expect : body.length = 32 ∨ body.length = 33 ∧ byteAt body 32 = 0) : expectRefusal b n (expectOf 33 body) = none := by
  obtain short | ⟨long, free⟩ := expect
  · simp [expectOf, short, expectRefusal]
  · simp [expectOf, long, free, expectRefusal, Berth.stateCode, new]

/-- R13: a LOAD whose checks pass creates its ticket, and is as its release where the flag asks for one. -/
theorem ownLoad_passed {b : Berth} {body : List Byte} (expect : body.length = 32 ∨ body.length = 33 ∧ byteAt body 32 = 0)
    (fields : loadInvalid body = none) (combo : comboInvalid (loadedTicket body) = none)
    (passed : loadRefusal b (loadedTicket body) = none) : let b' := createTicket b (loadedTicket body)
    (byteAt body 3 = 0 → ownLoad b body = (settle b', ticketRes .ok (word16At body 0) 0))
    ∧ (∀ b'', byteAt body 3 ≠ 0 → releaseTicket b' (loadedTicket body) = .ok b'' →
      ownLoad b body = (settle b'', ticketRes .ok (word16At body 0) 0))
    ∧ ∀ res, byteAt body 3 ≠ 0 → releaseTicket b' (loadedTicket body) = .error res → ownLoad b body = (b, res) := by
  have expected : expectRefusal b (word16At body 0) (expectOf 33 body) = none :=
    expectRefusal_load (loadRefusal_none passed).1 expect
  refine ⟨fun flag => ?_, fun b'' flag e => ?_, fun res flag e => ?_⟩
  · simp [ownLoad, fields, combo, expected, passed, flag]
  · simp only [ownLoad, fields, combo, expected, passed, if_neg flag, e]
  · simp only [ownLoad, fields, combo, expected, passed, if_neg flag, e]

/-- R13: the ticket that a body with valid fields gives carries each of them. -/
theorem loadedTicket_fields {body : List Byte} (h : loadInvalid body = none) : let t := loadedTicket body
    t.number = word16At body 0 ∧ finByte t.crane = byteAt body 2 ∧ t.seq = word16At body 4 ∧ t.kind.code = byteAt body 6
    ∧ t.size.code = byteAt body 7 ∧ t.bay = byteAt body 8 ∧ t.row = byteAt body 9 ∧ t.tier = byteAt body 10
    ∧ t.level.code = byteAt body 11 ∧ finByte t.priority = byteAt body 12 ∧ boolByte t.oneShot = byteAt body 13
    ∧ t.lash.code = byteAt body 14 ∧ t.partner = (if word16At body 15 = 0 then none else some (word16At body 15))
    ∧ t.container = (if slice body 17 11 = zeros 11 then none else some (slice body 17 11))
    ∧ t.deadline = (if word32At body 28 = 0xFFFFFFFF then none else some (word32At body 28)) := by
  have valid := firstInvalid_none h
  simp only [List.mem_cons, List.not_mem_nil, or_false, forall_eq_or_imp, forall_eq, decide_eq_true_eq] at valid
  obtain ⟨-, crane, kind, size, -, -, -, level, priority, oneShot, lash, -, container⟩ := valid
  exact ⟨rfl, finByte_crane crane, rfl, kind_code kind, size_code size, rfl, rfl, rfl, level_code level,
    finByte_priority priority, bool_code oneShot, lash_code lash, rfl, container_getD container, rfl⟩

/-- Settles O11. -/
theorem loadCreates : Obligations.LoadCreates := by
  refine ⟨fun s body ready expect fields combo passed => ?_, fun body fields => ⟨loadedTicket_fields fields, ?_⟩⟩
  · obtain ⟨new, room⟩ := loadRefusal_none passed
    obtain ⟨unheld, partners⟩ := loadRefusal_passed passed
    have other : ∀ p, (loadedTicket body).partner = some p → p ≠ (loadedTicket body).number :=
      fun p hp => partner_ne_self (partners p hp)
    obtain ⟨created, released, refused⟩ := ownLoad_passed expect fields combo passed
    have long : 32 ≤ body.length := by omega
    have short : body.length ≤ 33 := by omega
    refine ⟨fun flag => exec_load ready long short (created flag),
      fun b'' flag e => exec_load ready long short (released b'' flag e),
      fun res flag e => exec_load ready long short (refused res flag e), createTicket_freeTickets room, ?_, ?_, ?_, ?_⟩
    · rw [ticket?_createTicket new other, if_pos rfl]
    · exact fun id holds => indexed?_createTicket rfl holds (unheld id holds) other
    · intro p x hp named
      rw [ticket?_createTicket new other, if_neg (other p hp), if_pos hp, named]
      rfl
    · intro n hn hp
      rw [ticket?_createTicket new other, if_neg hn, if_neg hp]
  · exact ⟨rfl, rfl, rfl, rfl, rfl, rfl, rfl, rfl, rfl, rfl, rfl⟩

end Sys2Proof.Machine

/-! # Refusals of ticket commands (O12) -/

namespace Sys2Proof.Machine

section

variable {b : Berth} {n : TicketNo} {t : Ticket} {body : List Byte}

/-! ## The expect byte (R10) -/

theorem stateCode_eq (named : b.ticket? n = some t) : b.stateCode n = t.state.code := by
  simp [Berth.stateCode, named]

theorem expectRefusal_stale {e : Byte} (known : e.toNat ≤ 7) (differs : e ≠ b.stateCode n) :
    expectRefusal b n (some e) = some (ticketRes .stale n (b.stateCode n)) := by
  simp [expectRefusal, Nat.not_lt.2 known, differs]

theorem expectRefusal_unknown {e : Byte} (unknown : 7 < e.toNat) :
    expectRefusal b n (some e) = some (ticketRes .badField n 3) := by
  simp [expectRefusal, unknown]

theorem expectRefusal_met {e : Byte} (known : e.toNat ≤ 7) (same : e = b.stateCode n) :
    expectRefusal b n (some e) = none := by
  simp [expectRefusal, ← same, Nat.not_lt.2 known]

theorem expectOf_full {max : Nat} (h : body.length = max) : expectOf max body = some (byteAt body (max - 1)) := by
  simp [expectOf, h]

theorem state_code_ne_zero (st : TicketState) : st.code ≠ 0 := by cases st <;> decide

theorem state_code_le (st : TicketState) : st.code.toNat ≤ 7 := by cases st <;> decide

/-- What the expect byte refuses, every ticket command but LOAD refuses with no record changed. -/
theorem refused_by_expect {e : Byte} {res : Res} (named : b.ticket? n = some t)
    (refused : expectRefusal b n (some e) = some res) :
    ownRelease b (bytes16 n ++ [e]) = (b, res) ∧ ownHold b (bytes16 n ++ [e]) = (b, res)
    ∧ ownCancel b (bytes16 n ++ [e]) = (b, res) ∧ ownRetire b (bytes16 n ++ [e]) = (b, res)
    ∧ ownForce b (bytes16 n ++ [1, e]) = (b, res)
    ∧ ∀ body : List Byte, body.length = 31 → word16At body 0 = n → byteAt body 30 = e → ownAmend b body = (b, res) := by
  have expect3 : expectOf 3 (bytes16 n ++ [e]) = some e := expectOf_full rfl
  have expect4 : expectOf 4 (bytes16 n ++ [1, e]) = some e := expectOf_full rfl
  have error : namedTicket b n (some e) = .error res := by simp [namedTicket, named, refused]
  refine ⟨?_, ?_, ?_, ?_, ?_, fun body long number last => ?_⟩
  · simp only [ownRelease, word16At_bytes16, expect3, error]
  · simp only [ownHold, word16At_bytes16, expect3, error]
  · simp only [ownCancel, word16At_bytes16, expect3, error]
  · simp only [ownRetire, word16At_bytes16, expect3, error]
  · simp only [ownForce, word16At_bytes16, expect4, error]
  · simp only [ownAmend, number, named, expectOf_full long, last, refused]

/-! ## LOAD (R12) -/

theorem ownLoad_badField {o : Byte} (h : loadInvalid body = some o) :
    ownLoad b body = (b, ticketRes .badField (word16At body 0) o) := by
  simp only [ownLoad, h]

theorem ownLoad_badCombo {o : Byte} (fields : loadInvalid body = none) (h : comboInvalid (loadedTicket body) = some o) :
    ownLoad b body = (b, ticketRes .badField (word16At body 0) o) := by
  simp only [ownLoad, fields, h]

section

variable (fields : loadInvalid body = none) (combo : comboInvalid (loadedTicket body) = none)
include fields combo

theorem ownLoad_expect {res : Res} (h : expectRefusal b (word16At body 0) (expectOf 33 body) = some res) :
    ownLoad b body = (b, res) := by
  simp only [ownLoad, fields, combo, h]

theorem ownLoad_refused {res : Res} (expect : expectRefusal b (word16At body 0) (expectOf 33 body) = none)
    (h : loadRefusal b (loadedTicket body) = some res) : ownLoad b body = (b, res) := by
  simp only [ownLoad, fields, combo, expect, h]

/-- R10: LOAD with an expect byte compares it with FREE or the state of the ticket in use, before the number is checked. -/
theorem ownLoad_expect_byte (long : body.length = 33) : let n := word16At body 0; let e := byteAt body 32
    (7 < e.toNat → ownLoad b body = (b, ticketRes .badField n 3))
    ∧ (e.toNat ≤ 7 → e ≠ b.stateCode n → ownLoad b body = (b, ticketRes .stale n (b.stateCode n)))
    ∧ ∀ u, b.ticket? n = some u → e = u.state.code → ownLoad b body = (b, ticketRes .duplicateNumber n 0) := by
  have expect : expectOf 33 body = some (byteAt body 32) := expectOf_full long
  refine ⟨fun unknown => ?_, fun known differs => ?_, fun u named same => ?_⟩
  · exact ownLoad_expect fields combo (by rw [expect, expectRefusal_unknown unknown])
  · exact ownLoad_expect fields combo (by rw [expect, expectRefusal_stale known differs])
  · have met : expectRefusal b (word16At body 0) (some (byteAt body 32)) = none :=
      expectRefusal_met (same ▸ state_code_le u.state) (by rw [stateCode_eq named, same])
    refine ownLoad_refused fields combo (by rw [expect, met]) ?_
    simp only [loadRefusal, show (loadedTicket body).number = word16At body 0 from rfl, named, Option.isSome_some, if_true]

end

/-- R12: checks 4 to 7, each where those before it pass. -/
theorem loadRefusal_order (b : Berth) (t : Ticket) :
    (∀ u, b.ticket? t.number = some u → loadRefusal b t = some (ticketRes .duplicateNumber t.number 0))
    ∧ (b.ticket? t.number = none →
      (b.freeTickets = 0 → loadRefusal b t = some (ticketRes .poolFull t.number 0))
      ∧ (b.freeTickets ≠ 0 →
        (∀ id u, t.container = some id → b.indexed? id = some u →
          loadRefusal b t = some (ticketRes .duplicateContainer t.number 0))
        ∧ ((∀ id, t.container = some id → b.indexed? id = none) → ∀ p cause, t.partner = some p →
          partnerCause b t p = some cause → loadRefusal b t = some (ticketRes .twinMismatch t.number cause)))) := by
  refine ⟨fun u named => ?_, fun new => ⟨fun full => ?_, fun room => ⟨fun id u holds used => ?_, ?_⟩⟩⟩
  · simp [loadRefusal, named]
  · simp [loadRefusal, new, full]
  · simp [loadRefusal, new, room, holds, used]
  · intro unheld p cause hp hc
    have passed : (t.container.any fun id => (b.indexed? id).isSome) = false := by
      cases e : t.container with
      | none => rfl
      | some id => simp [unheld id e]
    simp [loadRefusal, new, room, passed, hp, hc]

/-! ## Causes of TWIN_MISMATCH (R24) -/

/-- R24: the first cause that holds. -/
theorem partnerCause_order (b : Berth) (t : Ticket) (p : TicketNo) :
    (b.ticket? p = none → partnerCause b t p = some 1)
    ∧ ∀ x, b.ticket? p = some x →
      (p = t.number → partnerCause b t p = some 1)
      ∧ (p ≠ t.number →
          (x.state ∉ [TicketState.held, .pending] → partnerCause b t p = some 2)
          ∧ (x.state ∈ [TicketState.held, .pending] →
              ((∃ q, x.partner = some q ∧ q ≠ t.number) → partnerCause b t p = some 3)
              ∧ ((x.partner = none ∨ x.partner = some t.number) →
                  (¬ (x.crane = t.crane ∧ x.bay = t.bay ∧ x.kind = t.kind ∧ x.level = t.level) →
                    partnerCause b t p = some 4)
                  ∧ (x.crane = t.crane ∧ x.bay = t.bay ∧ x.kind = t.kind ∧ x.level = t.level →
                      partnerCause b t p = if t.size = .s20 ∧ x.size = .s20 then none else some 5)))) := by
  refine ⟨fun unknown => by simp [partnerCause, unknown], fun x named =>
    ⟨fun self => by simp only [partnerCause, named, if_pos self], ?_⟩⟩
  intro other
  have reach : partnerCause b t p = if x.state ≠ .held ∧ x.state ≠ .pending then some 2
      else if x.partner.any fun q => q != t.number then some 3
      else if x.crane ≠ t.crane ∨ x.bay ≠ t.bay ∨ x.kind ≠ t.kind ∨ x.level ≠ t.level then some 4
      else if t.size ≠ .s20 ∨ x.size ≠ .s20 then some 5 else none := by
    simp only [partnerCause, named, if_neg other]
  simp only [List.mem_cons, List.not_mem_nil, or_false, not_or]
  refine ⟨fun state => by rw [reach, if_pos state], fun state => ?_⟩
  have state' : ¬ (x.state ≠ .held ∧ x.state ≠ .pending) := by tauto
  rw [if_neg state'] at reach
  constructor
  · rintro ⟨q, hq, ne⟩
    rw [reach, if_pos (by simp [hq, ne])]
  · intro single
    have single' : ¬ (x.partner.any fun q => q != t.number) = true := by rcases single with e | e <;> simp [e]
    rw [if_neg single'] at reach
    constructor
    · intro differs
      rw [reach, if_pos (by tauto)]
    · rintro ⟨crane, bay, kind, level⟩
      rw [reach, if_neg (by simp [crane, bay, kind, level])]
      by_cases sizes : t.size = .s20 ∧ x.size = .s20
      · rw [if_pos sizes, if_neg (by simp [sizes])]
      · rw [if_neg sizes, if_pos (by tauto)]

/-! ## Number, state and crane (R9, R14, R16, R20, R22) -/

/-- R9: a number that names no ticket. -/
theorem unknown_refused (unknown : b.ticket? (word16At body 0) = none) :
    ∀ own ∈ [ownAmend, ownRelease, ownHold, ownCancel, ownRetire, ownForce],
      own b body = (b, ticketRes .unknown (word16At body 0) 0) := by
  have error := namedTicket_unknown unknown
  simp only [List.forall_mem_cons, List.not_mem_nil, false_imp_iff, implies_true, and_true]
  refine ⟨?_, ?_, ?_, ?_, ?_, ?_⟩
  · simp only [ownAmend, unknown]
  · simp only [ownRelease, error]
  · simp only [ownHold, error]
  · simp only [ownCancel, error]
  · simp only [ownRetire, error]
  · simp only [ownForce, error]

section

variable (named : b.ticket? (word16At body 0) = some t)
include named

theorem ownAmend_wrongState (short : body.length = 30) (state : t.state ≠ .held) :
    ownAmend b body = (b, ticketRes .wrongState (word16At body 0) t.state.code) := by
  simp only [ownAmend, named, expectOf_short (max := 31) (body := body) (by omega), expectRefusal, ne_eq, state,
    not_false_eq_true, if_true]

theorem ownRelease_wrongState (short : body.length = 2) (state : t.state ≠ .held) :
    ownRelease b body = (b, ticketRes .wrongState (word16At body 0) t.state.code) := by
  simp [ownRelease, expectOf_short (max := 3) (body := body) (by omega), namedTicket_found named, state]

theorem ownRetire_wrongState (short : body.length = 2) (live : t.state.live = true) :
    ownRetire b body = (b, ticketRes .wrongState (word16At body 0) t.state.code) := by
  simp [ownRetire, expectOf_short (max := 3) (body := body) (by omega), namedTicket_found named, live]

theorem ownForce_wrongState (short : body.length = 3) (action : byteAt body 2 = 1 ∨ byteAt body 2 = 2)
    (state : t.state ≠ .lifting ∨ b.forceable t.crane = false) :
    ownForce b body = (b, ticketRes .wrongState (word16At body 0) t.state.code) := by
  have known : ¬ (byteAt body 2 ≠ 1 ∧ byteAt body 2 ≠ 2) := by tauto
  simp only [ownForce, expectOf_short (max := 4) (body := body) (by omega), namedTicket_found named, if_neg known, if_pos state]

/-- R14: the refusals of an AMEND of a HELD ticket, in order. -/
theorem ownAmend_held (held : t.state = .held) (short : body.length = 30) :
    (∀ o, amendInvalid (word16At body 2) body = some o → ownAmend b body = (b, ticketRes .badField (word16At body 0) o))
    ∧ (amendInvalid (word16At body 2) body = none →
      (∀ o, comboInvalid (amendFields (word16At body 2) body t) = some o →
        ownAmend b body = (b, ticketRes .badField (word16At body 0) o))
      ∧ (comboInvalid (amendFields (word16At body 2) body t) = none →
        (∀ res, amendRefusal b t (amendFields (word16At body 2) body t) = some res → ownAmend b body = (b, res))
        ∧ (amendRefusal b t (amendFields (word16At body 2) body t) = none →
          ownAmend b body = (settle (amendTicket b (word16At body 2) body t), ticketRes .ok (word16At body 0) 0)))) := by
  have expect : expectRefusal b (word16At body 0) (expectOf 31 body) = none := by
    rw [expectOf_short (by omega)]; rfl
  have state : ¬ (t.state ≠ .held) := by simp [held]
  refine ⟨fun o field => ?_, fun fields => ⟨fun o combo => ?_, fun combo => ⟨fun res refused => ?_, fun passed => ?_⟩⟩⟩
  · simp only [ownAmend, named, expect, if_neg state, field]
  · simp only [ownAmend, named, expect, if_neg state, fields, combo]
  · simp only [ownAmend, named, expect, if_neg state, fields, combo, refused]
  · simp only [ownAmend, named, expect, if_neg state, fields, combo, passed]

end

theorem ownRelease_halted (named : b.ticket? n = some t) (held : t.state = .held) (halt : (b.crane t.crane).halt = true) :
    ownRelease b (bytes16 n) = (b, ticketRes .halted n (finByte t.crane)) := by
  refine (ownRelease_held named held).2 _ ?_
  rw [← Berth.ticket?_number named]
  simp [releaseTicket, halt]

/-! ## AMEND, checks 5 to 8 (R14; log 10) -/

/-- Check 5: a truck entry carries the ticket's container, and the AMEND would change its crane or container. -/
def amendCarrier (b : Berth) (t u : Ticket) : Option Byte :=
  if u.crane ≠ t.crane ∨ u.container ≠ t.container then t.container.bind b.carrier else none

/-- Check 8: another live ticket holds the new container. -/
def amendDuplicate (b : Berth) (t u : Ticket) : Option Res :=
  if u.container ≠ t.container ∧ (u.container.any fun id => (b.indexed? id).isSome) then
    some (ticketRes .duplicateContainer t.number 0)
  else none

/-- Check 7 and what follows it, by the partner that the AMEND names anew. -/
theorem amendRefusal_partner {u : Ticket} (clear : amendCarrier b t u = none)
    (together : ¬ ((u.crane ≠ t.crane ∨ u.bay ≠ t.bay) ∧ t.partner ≠ none ∧ u.partner ≠ none)) :
    (∀ p, u.partner = some p → t.partner ≠ some p →
      (∀ cause, partnerCause b u p = some cause → amendRefusal b t u = some (ticketRes .twinMismatch t.number cause))
      ∧ (partnerCause b u p = none → t.partner ≠ none → amendRefusal b t u = some (ticketRes .twinMismatch t.number 7))
      ∧ (partnerCause b u p = none → t.partner = none → amendRefusal b t u = amendDuplicate b t u))
    ∧ ((u.partner = none ∨ u.partner = t.partner) → amendRefusal b t u = amendDuplicate b t u) := by
  unfold amendCarrier at clear
  constructor
  · intro p hp new
    have named : (if u.partner ≠ t.partner then u.partner else none) = some p := by
      rw [hp, if_pos (Ne.symm new)]
    refine ⟨fun cause e => ?_, fun e paired => ?_, fun e single => ?_⟩
    · simp only [amendRefusal, clear, if_neg together, named, e]
    · simp only [amendRefusal, clear, if_neg together, named, e, if_pos paired]
    · have : ¬ t.partner ≠ none := by simp [single]
      simp only [amendRefusal, clear, if_neg together, named, e, if_neg this, amendDuplicate]
  · intro kept
    have named : (if u.partner ≠ t.partner then u.partner else none) = none := by
      rcases kept with e | e <;> simp [e]
    simp only [amendRefusal, clear, if_neg together, named, amendDuplicate]

theorem amendCarrier_none {u : Ticket}
    (h : (u.crane = t.crane ∧ u.container = t.container) ∨ (∀ id, t.container = some id → b.carrier id = none)) :
    amendCarrier b t u = none := by
  unfold amendCarrier
  split
  · next changed =>
    obtain ⟨crane, container⟩ | h := h
    · simp [crane, container] at changed
    · cases e : t.container with
      | none => rfl
      | some id => simpa using h id e
  · rfl

/-- R14: checks 5 to 8 of an AMEND, each where those before it pass. -/
theorem amendRefusal_order (b : Berth) (t u : Ticket) :
    (∀ id place, (u.crane ≠ t.crane ∨ u.container ≠ t.container) → t.container = some id → b.carrier id = some place →
      amendRefusal b t u = some (ticketRes .truckPresent t.number place))
    ∧ ((u.crane = t.crane ∧ u.container = t.container) ∨ (∀ id, t.container = some id → b.carrier id = none) →
        ((u.crane ≠ t.crane ∨ u.bay ≠ t.bay) → t.partner ≠ none → u.partner ≠ none →
          amendRefusal b t u = some (ticketRes .twinMismatch t.number 6))
        ∧ ((u.crane = t.crane ∧ u.bay = t.bay) ∨ t.partner = none ∨ u.partner = none →
          (∀ p cause, u.partner = some p → t.partner ≠ some p → partnerCause b u p = some cause →
            amendRefusal b t u = some (ticketRes .twinMismatch t.number cause))
          ∧ (∀ p, u.partner = some p → t.partner ≠ some p → partnerCause b u p = none → t.partner ≠ none →
            amendRefusal b t u = some (ticketRes .twinMismatch t.number 7))
          ∧ ((u.partner = none ∨ u.partner = t.partner
              ∨ (t.partner = none ∧ ∀ p, u.partner = some p → partnerCause b u p = none)) →
            ∀ id v, u.container = some id → t.container ≠ some id → b.indexed? id = some v →
              amendRefusal b t u = some (ticketRes .duplicateContainer t.number 0)))) := by
  constructor
  · intro id place changed holds carried
    have present : (if u.crane ≠ t.crane ∨ u.container ≠ t.container then t.container.bind b.carrier else none) = some place := by
      rw [if_pos changed, holds]; exact carried
    simp only [amendRefusal, present]
  · intro h
    have clear := amendCarrier_none h
    constructor
    · intro moved paired stays
      unfold amendCarrier at clear
      simp only [amendRefusal, clear, if_pos (And.intro moved (And.intro paired stays))]
    · intro together
      obtain ⟨named, kept⟩ := amendRefusal_partner clear (by tauto)
      refine ⟨fun p cause hp new e => (named p hp new).1 cause e, fun p hp new e => (named p hp new).2.1 e, ?_⟩
      intro single id v holds changed used
      have duplicate : amendDuplicate b t u = some (ticketRes .duplicateContainer t.number 0) := by
        rw [amendDuplicate, if_pos ⟨holds ▸ Ne.symm changed, by simp [holds, used]⟩]
      rw [← duplicate]
      cases hp : u.partner with
      | none => exact kept (Or.inl hp)
      | some p =>
        rcases single with e | e | ⟨alone, fits⟩
        · exact kept (Or.inl e)
        · exact kept (Or.inr e)
        · exact (named p hp (by simp [alone])).2.2 (fits p hp) alone

end

/-- Settles O12: one clause per group of refusals, in the order of the checks. -/
theorem ticketRefusals : Obligations.TicketRefusals := by
  refine ⟨fun b body => ⟨fun o => ownLoad_badField, fun o => ownLoad_badCombo, ?_, ?_⟩, partnerCause_order,
    fun b body => unknown_refused, fun b body t named => ⟨fun state => ⟨fun short => ownAmend_wrongState named short state,
      fun short => ownRelease_wrongState named short state⟩, fun live short => ownRetire_wrongState named short live, ?_⟩,
    ?_, amendRefusal_order, fun b n t => ownRelease_halted, fun b n t e named known differs => ?_,
    fun b n t e named unknown => refused_by_expect named (expectRefusal_unknown unknown), ?_⟩
  · intro u fields combo long free named
    have stale := (ownLoad_expect_byte (b := b) fields combo long).2.1
    rw [free, stateCode_eq named] at stale
    exact stale (by decide) (Ne.symm (state_code_ne_zero _))
  · intro fields combo short
    have refused : ∀ res, loadRefusal b (loadedTicket body) = some res → ownLoad b body = (b, res) :=
      fun res => ownLoad_refused fields combo (by rw [expectOf_short (by omega)]; rfl)
    obtain ⟨used, new⟩ := loadRefusal_order b (loadedTicket body)
    refine ⟨fun u named => refused _ (used u named), fun unused => ?_⟩
    obtain ⟨full, room⟩ := new unused
    refine ⟨fun none => refused _ (full none), fun some => ?_⟩
    obtain ⟨container, partner⟩ := room some
    exact ⟨fun id u holds e => refused _ (container id u holds e),
      fun unheld p cause hp e => refused _ (partner unheld p cause hp e)⟩
  · intro short action state
    refine ownForce_wrongState named short action (state.imp_right ?_)
    rintro ⟨online, auto⟩
    simp [Berth.forceable, online, auto]
  · intro b body t n set u named held short
    obtain ⟨field, rest⟩ := ownAmend_held named held short
    exact ⟨field, fun fields => ⟨(rest fields).1, fun combo => ((rest fields).2 combo).1⟩⟩
  · rw [← stateCode_eq named]
    exact refused_by_expect named (expectRefusal_stale known (by rwa [stateCode_eq named]))
  · intro b body n e long fields combo
    obtain ⟨unknown, stale, same⟩ := ownLoad_expect_byte (b := b) fields combo long
    refine ⟨unknown, fun known => ⟨fun new ne => ?_, fun u named => ⟨fun differs => ?_, same u named⟩⟩⟩
    · have free : b.stateCode n = 0 := by simp [Berth.stateCode, new]
      exact free ▸ stale known (free ▸ ne)
    · have code := stateCode_eq named
      exact code ▸ stale known (code ▸ differs)

end Sys2Proof.Machine

/-! # State after reset, FIND and lookups (O3, O7, O39) -/

namespace Sys2Proof.Machine

/-- Settles O3: every value is read off the reset state. -/
theorem resetValues : Obligations.ResetValues := by
  have cranes : ∀ c : Crane, Berth.reset.crane c = CraneRec.reset ∧ Berth.reset.craneClaim c = none ∧ Berth.reset.stand c = [] := by
    intro c; simp [Berth.crane, Berth.craneClaim, Berth.stand, Berth.reset]
  have gangs : ∀ g : Gang, Berth.reset.gang g = GangRec.reset ∧ Berth.reset.gangClaim g = none := by
    intro g; simp [Berth.gang, Berth.gangClaim, Berth.reset]
  have stations : ∀ st : Station, Berth.reset.station st = { online := false, fails := 0, heard := false } := by
    intro st; simp [Berth.station, Berth.reset, StationRec.reset]
  exact ⟨rfl, rfl, rfl, rfl, rfl, rfl, rfl, rfl, rfl, rfl, rfl, rfl, cranes, gangs, stations, rfl, by decide, rfl, rfl, rfl⟩

/-! ## FIND (R23) -/

/-- In a list of ascending keys, what `find?` gives has the least key of those that meet the test. -/
theorem find?_least {α : Type} {p : α → Bool} {key : α → Nat} {l : List α} {x y : α}
    (ascending : (l.map key).Pairwise (· < ·)) (found : l.find? p = some x) (mem : y ∈ l) (meets : p y = true) :
    key x ≤ key y := by
  induction l with
  | nil => cases found
  | cons z zs ih =>
    simp only [List.map_cons, List.pairwise_cons, List.mem_map, forall_exists_index, and_imp, forall_apply_eq_imp_iff₂] at ascending
    obtain ⟨least, ascending⟩ := ascending
    by_cases hz : p z = true
    · obtain rfl : z = x := by simpa [List.find?_cons, hz] using found
      rcases List.mem_cons.1 mem with rfl | mem
      · exact le_rfl
      · exact (least y mem).le
    · have hz : p z = false := by simpa using hz
      rcases List.mem_cons.1 mem with rfl | mem
      · rw [hz] at meets; cases meets
      · exact ih ascending (by simpa [List.find?_cons, hz] using found) mem

/-- R23: the test of FIND. -/
def findTest (after : TicketNo) (states cranes : Byte) (container : List Byte) (t : Ticket) : Bool :=
  after.toNat < t.number.toNat && inSet states (t.state.code.toNat - 1) && inSet cranes t.crane.val
    && (container == zeros 11 || t.container == some container)

theorem findTest_iff (after : TicketNo) (states cranes : Byte) (container : List Byte) (t : Ticket) :
    findTest after states cranes container t = true ↔ after.toNat < t.number.toNat
      ∧ inSet states (t.state.code.toNat - 1) = true ∧ inSet cranes t.crane.val = true
      ∧ (container = zeros 11 ∨ t.container = some container) := by
  simp [findTest, and_assoc]

theorem findNumber_eq (b : Berth) (after : TicketNo) (states cranes : Byte) (container : List Byte) :
    findNumber b after states cranes container =
      ((b.tickets.find? (findTest after states cranes container)).map (·.number)).getD 0xFFFF := by
  have test : ∀ {o}, b.tickets.find? (fun t => after.toNat < t.number.toNat && inSet states (t.state.code.toNat - 1)
      && inSet cranes t.crane.val && (container == zeros 11 || t.container == some container)) = o →
      b.tickets.find? (findTest after states cranes container) = o := fun e => e
  unfold findNumber
  split <;> next e => rw [test e]; rfl

/-- Settles O7: the first ticket that meets the test of FIND, which is the lowest as the numbers ascend. -/
theorem findLowest : Obligations.FindLowest := by
  intro s after states cranes container kept
  simp only [← findTest_iff]
  rw [findNumber_eq]
  refine ⟨fun none_ => ?_, fun t mem meets => ?_⟩
  · rw [List.find?_eq_none.2 none_]; rfl
  · obtain ⟨u, found⟩ := Option.isSome_iff_exists.1 (List.find?_isSome.2 ⟨t, mem, meets⟩)
    rw [found]
    exact ⟨⟨u, List.mem_of_find?_eq_some found, List.find?_some found, rfl⟩,
      find?_least (key := fun t => t.number.toNat) kept.1 found mem meets⟩

/-! ## Lookups (R29, R110, R168) -/

theorem kinds_lookup {st : Station} (h : st.val < 14) : (roleOf st).kinds.contains kindLookup = true := by
  revert st; decide

/-- R168: a LOOKUP of an ONLINE station in RUN is answered from the records. -/
theorem exec_lookup {s : State} {st : Station} {body : List Byte} (low : st.val < 14) (speaks : StationSpeaks s st)
    (allowed : lengthAllowed kindLookup body = true) (short : body.length ≤ maxFrameBody) :
    berthEvent (frameEvent kindLookup (frameOf st 3 body)) s =
      { s with berth := sendReply (heardFrom s.berth st) st (lookupReply (heardFrom s.berth st) body) } := by
  rw [frameEvent_run (cls := 3) speaks low (by decide) (kinds_lookup low) (by decide) allowed short]
  have report : ownReport (heardFrom s.berth st) (roleOf st) kindLookup body
      = (heardFrom s.berth st, lookupReply (heardFrom s.berth st) body) := by simp [ownReport]
  rw [report]
  simp [replied, settleIf]

theorem lookupReply_ticket (b : Berth) (n : TicketNo) : lookupReply b (1 :: bytes16 n) = ticketReply (b.ticket? n) :=
  congrArg (fun m => ticketReply (b.ticket? m)) (bytes16_join n)

theorem lookupReply_container (b : Berth) (body : List Byte) :
    lookupReply b (2 :: body) = ticketReply ((linkContainer? body).bind b.indexed?) := rfl

theorem lookupReply_tag (b : Berth) (tag : Tag) : lookupReply b (3 :: bytes24 tag) = lookupTagReply b tag :=
  congrArg (lookupTagReply b) (bytes24_join tag)

/-- Settles O39. -/
theorem lookups : Obligations.Lookups := by
  intro s st low speaks
  refine ⟨fun n => congrArg Host.Outcome.next ?_, fun body long => congrArg Host.Outcome.next ?_,
    fun tag => congrArg Host.Outcome.next ?_⟩
  · rw [← lookupReply_ticket]
    exact exec_lookup (body := 1 :: bytes16 n) low speaks rfl (by simp [maxFrameBody])
  · have nine : (2 :: body).length = 9 := by simp [long]
    rw [← lookupReply_container]
    exact exec_lookup (body := 2 :: body) low speaks (by simp only [lengthAllowed, nine]; rfl) (by simp [long, maxFrameBody])
  · rw [← lookupReply_tag]
    exact exec_lookup (body := 3 :: bytes24 tag) low speaks rfl (by simp [maxFrameBody])

end Sys2Proof.Machine

/-! # A ticket unlinked from its unlash task (R121) -/

namespace Sys2Proof.Machine

/-! ## A deck request given up -/

@[simp] theorem leaveDeckRequest_tickets (b : Berth) (g : Gang) : (leaveDeckRequest b g).tickets = b.tickets := by
  unfold leaveDeckRequest; dsimp only; split <;> simp

@[simp] theorem leaveDeckRequest_ltu (b : Berth) (g : Gang) : (leaveDeckRequest b g).ltu = b.ltu := by
  unfold leaveDeckRequest; dsimp only; split <;> simp

@[simp] theorem leaveDeckRequest_clock (b : Berth) (g : Gang) : (leaveDeckRequest b g).clock = b.clock := by
  unfold leaveDeckRequest; dsimp only; split <;> simp

/-- The examination reads a waiter's list and writes no list, task or ticket. -/
theorem examineWaiter_elsewhere (b : Berth) (w : Gang × Bay) (ltu : Lashing) (tickets : List Ticket)
    (same : (ltu.gangs[w.1]).tasks = (b.gang w.1).tasks) :
    examineWaiter { b with ltu, tickets } w = { examineWaiter b w with ltu, tickets } := by
  have may : ({ b with ltu, tickets } : Berth).gangMayClaim w.2 = b.gangMayClaim w.2 := rfl
  have head : ({ b with ltu, tickets } : Berth).gang w.1 = ltu.gangs[w.1] := rfl
  unfold examineWaiter
  rw [may]
  split
  · have claimed : ∀ x : Berth, ((x.removeWaiter w.1).setGangClaim w.1
        (some { bay := w.2, standing := .clearing })).gang w.1 = x.gang w.1 := fun _ => rfl
    dsimp only
    rw [claimed, claimed, head, same]
    split <;> rfl
  · rfl

/-- An examination of waiters other than `g` is the same where lists of tasks other than `g`'s are the same. -/
theorem examine_elsewhere {g : Gang} (l : List (Gang × Bay)) (others : ∀ w ∈ l, w.1 ≠ g) (b : Berth) (ltu : Lashing)
    (tickets : List Ticket) (same : ∀ h : Gang, h ≠ g → (ltu.gangs[h]).tasks = (b.gang h).tasks) :
    l.foldl examineWaiter { b with ltu, tickets } = { l.foldl examineWaiter b with ltu, tickets } := by
  induction l generalizing b with
  | nil => rfl
  | cons w ws ih =>
    have kept : (examineWaiter b w).ltu = b.ltu := by
      rcases examineWaiter_cases b w with e | ⟨x, y, z, e⟩ <;> rw [e]
    rw [List.foldl_cons, List.foldl_cons, examineWaiter_elsewhere b w ltu tickets (same w.1 (others w List.mem_cons_self))]
    exact ih (fun w h => others w (List.mem_cons_of_mem _ h)) _ fun h ne => by
      rw [same h ne, Berth.gang, Berth.gang, kept]

theorem removeWaiter_others (b : Berth) (g : Gang) : ∀ w ∈ (b.removeWaiter g).bct.waiters, w.1 ≠ g := by
  intro w h
  simpa using (List.mem_filter.1 h).2

/-- What a gang's deck request leaves is the same whatever becomes of that gang's own list, of tasks and of tickets. -/
theorem leaveDeckRequest_elsewhere (b : Berth) (g : Gang) (ltu : Lashing) (tickets : List Ticket)
    (same : ∀ h : Gang, h ≠ g → (ltu.gangs[h]).tasks = (b.gang h).tasks) :
    leaveDeckRequest { b with ltu, tickets } g = { leaveDeckRequest b g with ltu, tickets } := by
  have claim : (({ b with ltu, tickets } : Berth).removeWaiter g).gangClaim g = (b.removeWaiter g).gangClaim g := rfl
  unfold leaveDeckRequest
  dsimp only
  rw [claim]
  split
  · exact examine_elsewhere _ (removeWaiter_others b g) ((b.removeWaiter g).setGangClaim g none) ltu tickets same
  · rfl

/-- A gang that gives up its deck request is granted none by the examination that follows. -/
theorem leaveDeckRequest_ownSlot (b : Berth) (g : Gang) :
    (leaveDeckRequest b g).qlc.gangSlots[g] = b.qlc.gangSlots[g] := by
  have examined : ∀ (l : List (Gang × Bay)), (∀ w ∈ l, w.1 ≠ g) → ∀ b : Berth,
      (l.foldl examineWaiter b).qlc.gangSlots[g] = b.qlc.gangSlots[g] := by
    intro l
    induction l with
    | nil => intro _ b; rfl
    | cons w ws ih =>
      intro others b
      rw [List.foldl_cons, ih fun w h => others w (List.mem_cons_of_mem _ h)]
      unfold examineWaiter
      split
      · dsimp only
        split
        · exact modAt_other _ _ _ _ (Ne.symm (others w List.mem_cons_self))
        · rfl
      · rfl
  unfold leaveDeckRequest
  dsimp only
  split
  · exact examined _ (removeWaiter_others b g) _
  · rfl

/-! ## The task dropped -/

/-- The gang whose list alone holds a task is its holder (R117). -/
theorem holder_eq {b : Berth} {k : TaskNo} {g : Gang} (h : ∀ h : Gang, k ∈ (b.gang h).tasks ↔ h = g) : b.holder k = some g := by
  have test : (fun h : Gang => (b.gang h).tasks.contains k) = fun h => h == g := by
    funext x
    rw [Bool.eq_iff_iff]
    simpa using h x
  rw [Berth.holder, test]
  clear h test
  revert g; decide

theorem task?_congr {b b' : Berth} (h : b'.ltu.tasks = b.ltu.tasks) (n : TaskNo) : b'.task? n = b.task? n := by
  rw [Berth.task?, h]; rfl

/-- R121: the pool after an unlinked task is dropped; an ACTIVE one goes on. -/
theorem dropUnlinked_tasks (b : Berth) (t : Task) :
    (t.state = .active → dropUnlinked b t = b)
    ∧ (t.state ≠ .active → (dropUnlinked b t).ltu.tasks = (b.dropTask t.number).ltu.tasks) := by
  unfold dropUnlinked
  constructor
  · intro active
    simp only [active]
  · intro _
    split
    · rfl
    · split <;> rfl
    · split
      · show (leaveDeckRequest _ _).ltu.tasks = _
        rw [leaveDeckRequest_ltu]
        rfl
      · rfl
    · next active => contradiction

@[simp] theorem dropUnlinked_tickets (b : Berth) (t : Task) : (dropUnlinked b t).tickets = b.tickets := by
  unfold dropUnlinked; split <;> [rfl; (split <;> rfl); (split <;> simp); rfl]

/-- R121: an OPEN task is dropped, and nothing else. -/
theorem dropUnlinked_opened {b : Berth} {t : Task} (opened : t.state = .opened) : dropUnlinked b t = b.dropTask t.number := by
  simp only [dropUnlinked, opened]

/-- R121: a QUEUED task leaves its list. -/
theorem dropUnlinked_queued {b : Berth} {t : Task} {g : Gang} (queued : t.state = .queued) (held : b.holder t.number = some g) :
    dropUnlinked b t = (b.unlist g t.number).dropTask t.number := by
  simp only [dropUnlinked, queued, held]

/-- R121: a DISPATCHED task leaves its list, its gang gives up the deck request, is IDLE and is recalled. -/
theorem dropUnlinked_dispatched {b : Berth} {t : Task} {g : Gang} (dispatched : t.state = .dispatched)
    (held : b.holder t.number = some g) :
    dropUnlinked b t = ((leaveDeckRequest ((b.unlist g t.number).dropTask t.number) g).modGang g
      fun r => { r with activity := .idle }).postGang g (.recall t.number) := by
  simp only [dropUnlinked, dispatched, held]

/-! ## The ticket unlinked -/

/-- A task with one linked ticket less. -/
def Task.oneLess (t : Task) : Task := { t with linked := t.linked - 1 }

@[simp] theorem Task.oneLess_number (t : Task) : t.oneLess.number = t.number := by rfl

@[simp] theorem Task.oneLess_state (t : Task) : t.oneLess.state = t.state := by rfl

/-- The berth with a ticket's link taken back, before what becomes of its task. -/
def unlinked (b : Berth) (n : TicketNo) (k : TaskNo) : Berth :=
  (b.modTicket n fun t => { t with task := none, lashState := .notNeeded }).modTask k Task.oneLess

theorem unlinkUnlash_eq {b : Berth} {n : TicketNo} {t : Ticket} {x : Task} (named : b.ticket? n = some t)
    (link : t.task = some x.number) (task : b.task? x.number = some x) :
    unlinkUnlash b n = if x.linked - 1 = 0 then dropUnlinked (unlinked b n x.number) x.oneLess
      else unlinked b n x.number := by
  have found : (unlinked b n x.number).task? x.number = some x.oneLess := by
    refine (Berth.task?_modTask_same _ _ _ (by exact fun _ => rfl)).trans ?_
    rw [Berth.task?_modTicket, task]
    rfl
  have bound : (b.ticket? n).bind (·.task) = some x.number := by simp [named, link]
  unfold unlinkUnlash
  split
  · next e => rw [bound] at e; cases e
  · next k e =>
    obtain rfl : x.number = k := by simpa [bound] using e
    dsimp only
    split
    · next y e =>
      obtain rfl : x.oneLess = y := Option.some.inj (found.symm.trans e)
      rfl
    · next e => cases found.symm.trans e

/-- R121: an unlinking writes its own ticket alone. -/
theorem unlinkUnlash_tickets (b : Berth) (n : TicketNo) : (unlinkUnlash b n).tickets =
    if (b.ticket? n).bind (·.task) = none then b.tickets
    else (b.modTicket n fun t => { t with task := none, lashState := .notNeeded }).tickets := by
  unfold unlinkUnlash
  split
  · next e => rw [if_pos e]
  · next k e =>
    rw [if_neg (by rw [e]; simp)]
    dsimp only
    split
    · split <;> simp
    · rfl

theorem ticket?_unlinkUnlash_other (b : Berth) {n m : TicketNo} (h : m ≠ n) : (unlinkUnlash b n).ticket? m = b.ticket? m := by
  rw [Berth.ticket?, unlinkUnlash_tickets]
  split
  · rfl
  · exact Berth.ticket?_modTicket_other _ _ _ _ (by exact fun _ => rfl) h

theorem ticket?_unlinkUnlash_same {b : Berth} {n : TicketNo} {t : Ticket} (h : b.ticket? n = some t) :
    (unlinkUnlash b n).ticket? n =
      some { t with task := none, lashState := if t.task = none then t.lashState else .notNeeded } := by
  rw [Berth.ticket?, unlinkUnlash_tickets, h]
  cases e : t.task with
  | none =>
    have same : { t with task := none, lashState := t.lashState } = t := by rw [← e]
    have found : b.tickets.find? (fun t => t.number == n) = some t := h
    simpa [e, same] using found
  | some k =>
    simp only [Option.bind_some, e, reduceCtorEq, if_false]
    refine (Berth.ticket?_modTicket_same _ _ _ (by exact fun _ => rfl)).trans ?_
    rw [h]
    rfl

theorem unlinkUnlash_clock (b : Berth) (n : TicketNo) : (unlinkUnlash b n).clock = b.clock := by
  have dropped : ∀ (b : Berth) t, (dropUnlinked b t).clock = b.clock := fun b t => by
    unfold dropUnlinked; split <;> [rfl; (split <;> rfl); (split <;> simp); rfl]
  unfold unlinkUnlash
  split
  · rfl
  · dsimp only
    split
    · split
      · rw [dropped]; rfl
      · rfl
    · rfl

/-! ## What is given up (R121) -/

/-- What is given up is read off the pool, the gangs, the claims and the board. -/
theorem UnlashLinkGivenUp.congr {b b' b'' : Berth} {x : Task} (h : UnlashLinkGivenUp b b' x) (ltu : b''.ltu = b'.ltu)
    (bct : b''.bct = b'.bct) (qlc : b''.qlc = b'.qlc) : UnlashLinkGivenUp b b'' x := by
  have task : ∀ n, b''.task? n = b'.task? n := fun n => task?_congr (by rw [ltu]) n
  have gang : ∀ g, b''.gang g = b'.gang g := fun g => by rw [Berth.gang, ltu]; rfl
  simpa only [UnlashLinkGivenUp, task, gang, ltu, bct, qlc] using h

section

variable {b : Berth} {n : TicketNo} {t : Ticket} {x : Task} (named : b.ticket? n = some t)
    (link : t.task = some x.number) (task : b.task? x.number = some x)
include named link task

/-- The pool after an unlinking. -/
theorem unlinkUnlash_task? (m : TaskNo) : (unlinkUnlash b n).task? m =
    if m = x.number then if 1 < x.linked ∨ x.state = .active then some x.oneLess else none
    else b.task? m := by
  have before : (unlinked b n x.number).task? m =
      if m = x.number then some x.oneLess else b.task? m := by
    split
    · next e =>
      rw [e]
      refine (Berth.task?_modTask_same _ _ _ (by exact fun _ => rfl)).trans ?_
      rw [Berth.task?_modTicket, task]
      rfl
    · next e => exact Berth.task?_modTask_other _ _ (by exact fun _ => rfl) e
  rw [unlinkUnlash_eq named link task]
  by_cases many : x.linked - 1 = 0
  · rw [if_pos many]
    have few : ¬ 1 < x.linked := by omega
    obtain ⟨active, gone⟩ := dropUnlinked_tasks (unlinked b n x.number) x.oneLess
    by_cases state : x.state = .active
    · rw [active state, before]
      simp [state]
    · rw [task?_congr (gone state)]
      split
      · next e => subst e; simp [few, state]
      · next e =>
        rw [Berth.task?_dropTask_other _ (show m ≠ x.oneLess.number from e), before, if_neg e]
  · rw [if_neg many, before]
    simp [show 1 < x.linked by omega]

/-- R121: an unlinking gives up the link as the task's state says. -/
theorem unlinkUnlash_givenUp : UnlashLinkGivenUp b (unlinkUnlash b n) x := by
  have task' := unlinkUnlash_task? named link task
  have eq := unlinkUnlash_eq named link task
  have last : x.linked = 1 → unlinkUnlash b n = dropUnlinked (unlinked b n x.number) x.oneLess :=
    fun one => by rw [eq, if_pos (by omega)]
  refine ⟨fun m ne => by rw [task', if_neg ne], fun h => by rw [task', if_pos rfl, if_pos h]; rfl, fun h => ?_,
    fun one state => ?_, fun one g alone => ?_⟩
  · rw [eq]
    split
    · rcases h with h | h | h
      · omega
      · rw [(dropUnlinked_tasks _ x.oneLess).1 h]; exact ⟨rfl, rfl, rfl⟩
      · rw [dropUnlinked_opened (t := x.oneLess) h]; exact ⟨rfl, rfl, rfl⟩
    · exact ⟨rfl, rfl, rfl⟩
  · rw [task', if_pos rfl, if_neg (by simp [one, state])]
  · rw [last one]
    have held : (unlinked b n x.number).holder x.oneLess.number = some g := holder_eq alone
    have unlisted : ∀ h, h ≠ g → (((unlinked b n x.number).unlist g x.number).dropTask x.number).gang h = b.gang h :=
      fun h ne => Berth.gang_modGang_other _ _ _ _ ne
    have left : leaveDeckRequest (((unlinked b n x.number).unlist g x.number).dropTask x.number) g =
        { leaveDeckRequest b g with
          ltu := (((unlinked b n x.number).unlist g x.number).dropTask x.number).ltu
          tickets := (unlinked b n x.number).tickets } :=
      leaveDeckRequest_elsewhere b g _ _ fun h ne => congrArg GangRec.tasks (unlisted h ne)
    refine ⟨fun h ne => ?_, fun queued => ?_, fun dispatched => ?_⟩
    · cases state : x.state with
      | opened => rw [dropUnlinked_opened (t := x.oneLess) state]; rfl
      | queued => rw [dropUnlinked_queued (t := x.oneLess) state held]; exact unlisted h ne
      | dispatched =>
        rw [dropUnlinked_dispatched (t := x.oneLess) state held, Berth.gang_postGang, Berth.gang_modGang_other _ _ _ _ ne,
          Task.oneLess_number, left]
        exact unlisted h ne
      | active => rw [(dropUnlinked_tasks _ x.oneLess).1 state]; rfl
    · rw [dropUnlinked_queued (t := x.oneLess) queued held]
      exact ⟨Berth.gang_modGang .., rfl, rfl⟩
    · rw [dropUnlinked_dispatched (t := x.oneLess) dispatched held, Task.oneLess_number, left]
      refine ⟨?_, rfl, ?_, fun h ne => modAt_other _ _ _ _ ne⟩
      · rw [Berth.gang_postGang, Berth.gang_modGang]
        show { (((unlinked b n x.number).unlist g x.number).dropTask x.number).gang g with activity := .idle } = _
        rw [Berth.gang_dropTask, Berth.unlist, Berth.gang_modGang]
        rfl
      · refine (modAt_same ..).trans ?_
        show ((leaveDeckRequest b g).qlc.gangSlots[g]).post (.recall x.number) (leaveDeckRequest b g).clock.time = _
        rw [leaveDeckRequest_ownSlot, leaveDeckRequest_clock]
        rfl

end

end Sys2Proof.Machine

/-! # CANCEL (O15) -/

namespace Sys2Proof.Machine

/-! ## A partner named or no more named -/

/-- The ticket that a number, where there is one, names is given a partner. -/
def setPartner (b : Berth) (p q : Option TicketNo) : Berth :=
  match p with
  | some p => b.modTicket p fun x => { x with partner := q }
  | none => b

theorem setPartner_ticket? (b : Berth) (p q : Option TicketNo) (n : TicketNo) :
    (setPartner b p q).ticket? n = if p = some n then (b.ticket? n).map fun x => { x with partner := q } else b.ticket? n := by
  cases p with
  | none => rfl
  | some p =>
    refine (Berth.ticket?_modTicket b p n _ (by exact fun _ => rfl)).trans ?_
    simp [eq_comm]

/-- A partner's link is in its ticket alone. -/
theorem setPartner_rest (b : Berth) (p q : Option TicketNo) : (setPartner b p q).clock = b.clock
    ∧ (setPartner b p q).ltu = b.ltu ∧ (setPartner b p q).bct = b.bct ∧ (setPartner b p q).qlc = b.qlc := by
  cases p <;> exact ⟨rfl, rfl, rfl, rfl⟩

/-! ## The ticket cancelled -/

/-- R19: the berth after the unlash link of an AWAITING ticket is given up. -/
def awaitingUnlinked (b : Berth) (t : Ticket) : Berth := if t.lashState = .awaiting then unlinkUnlash b t.number else b

theorem cancelTicket_eq (b : Berth) (t : Ticket) : cancelTicket b t =
    (setPartner (awaitingUnlinked b t) t.partner none).modTicket t.number
      fun x => { x.leave .cancelled b.nowSecs with partner := none } := by
  have clock : (awaitingUnlinked b t).clock = b.clock := by
    unfold awaitingUnlinked; split <;> [exact unlinkUnlash_clock ..; rfl]
  have now : (setPartner (awaitingUnlinked b t) t.partner none).nowSecs = b.nowSecs := by
    rw [Berth.nowSecs, (setPartner_rest _ _ _).1, clock]; rfl
  rw [← now]
  rfl

theorem awaitingUnlinked_other (b : Berth) {t : Ticket} {n : TicketNo} (h : n ≠ t.number) :
    (awaitingUnlinked b t).ticket? n = b.ticket? n := by
  unfold awaitingUnlinked
  split
  · exact ticket?_unlinkUnlash_other b h
  · rfl

/-- The ticket's record as the table holds it, `v`, after its link is given up; `v` is `t` itself where `t` awaits. -/
theorem awaitingUnlinked_same {b : Berth} {t v : Ticket} (named : b.ticket? t.number = some v)
    (same : t.lashState = .awaiting → v = t) :
    (awaitingUnlinked b t).ticket? t.number = some { v with
      lashState := if t.lashState = .awaiting ∧ t.task ≠ none then .notNeeded else v.lashState
      task := if t.lashState = .awaiting ∧ t.task ≠ none then none else v.task } := by
  unfold awaitingUnlinked
  by_cases await : t.lashState = .awaiting
  · obtain rfl := same await
    rw [if_pos await, ticket?_unlinkUnlash_same named]
    cases e : v.task <;> simp [await]
  · rw [if_neg await, named]
    simp [await]

/-- R19: the record of a cancelled ticket. -/
theorem cancelTicket_ticket?_same {b : Berth} {t v : Ticket} (named : b.ticket? t.number = some v)
    (same : t.lashState = .awaiting → v = t) :
    (cancelTicket b t).ticket? t.number = some { v with
      state := .cancelled, reason := .none, doneAt := some b.nowSecs, partner := none, truck := none, lane := none
      lashState := if (t.lashState = .awaiting ∧ t.task ≠ none) ∨ v.lashState = .reserved then .notNeeded else v.lashState
      task := if t.lashState = .awaiting ∧ t.task ≠ none then none else v.task } := by
  rw [cancelTicket_eq, Berth.ticket?_modTicket_same _ _ _ (by exact fun _ => rfl), setPartner_ticket?,
    awaitingUnlinked_same named same]
  by_cases freed : t.lashState = .awaiting ∧ t.task ≠ none
  · split <;> simp [freed, Ticket.leave, TicketState.live]
  · split <;> simp [freed, Ticket.leave, TicketState.live]

/-- R19: its partner names none, and every other ticket stays. -/
theorem cancelTicket_ticket?_other (b : Berth) {t : Ticket} {n : TicketNo} (h : n ≠ t.number) :
    (cancelTicket b t).ticket? n =
      if t.partner = some n then (b.ticket? n).map fun x => { x with partner := none } else b.ticket? n := by
  rw [cancelTicket_eq, Berth.ticket?_modTicket_other _ _ _ _ (by exact fun _ => rfl) h, setPartner_ticket?,
    awaitingUnlinked_other b h]

/-- R26: a cancelled ticket's container is out of the index. -/
theorem cancelTicket_indexed? {b : Berth} {t u : Ticket} {id : ContainerId} (h : (cancelTicket b t).indexed? id = some u) :
    u.number ≠ t.number := by
  have mem : u ∈ (cancelTicket b t).tickets := List.mem_of_find?_eq_some h
  have live : u.state.live = true := by
    have := List.find?_some h
    simp only [Bool.and_eq_true] at this
    exact this.1
  rw [cancelTicket_eq] at mem
  obtain ⟨x, -, rfl⟩ := List.mem_map.1 mem
  intro number
  have target : x.number = t.number := by
    dsimp only at number
    split at number <;> exact number
  simp [target, Ticket.leave, TicketState.live] at live

/-- R19, R121: what a cancellation makes of tasks, gangs, claims and orders is the unlinking. -/
theorem cancelTicket_rest (b : Berth) (t : Ticket) : (cancelTicket b t).ltu = (awaitingUnlinked b t).ltu
    ∧ (cancelTicket b t).bct = (awaitingUnlinked b t).bct ∧ (cancelTicket b t).qlc = (awaitingUnlinked b t).qlc := by
  rw [cancelTicket_eq]
  exact (setPartner_rest _ _ _).2

/-- Settles O15. -/
theorem cancelByState : Obligations.CancelByState := by
  refine ⟨fun s n t ready named => ⟨fun st => exec_cancel ready n ?_, fun st => exec_cancel ready n ?_,
    fun st => exec_cancel ready n ?_⟩, fun b t v named same => ?_⟩
  · obtain st | st := st <;> simp [ownCancel, namedTicket_found named, st]
  · simp [ownCancel, namedTicket_found named, st]
  · simp only [List.mem_cons, List.not_mem_nil, or_false] at st
    obtain st | st | st | st := st <;> simp [ownCancel, namedTicket_found named, st]
  · obtain ⟨ltu, bct, qlc⟩ := cancelTicket_rest b t
    refine ⟨cancelTicket_ticket?_same named same, fun id u => cancelTicket_indexed?, fun p x partner ne found => ?_,
      fun n ne single => ?_, fun x await link task => ?_, fun done => ?_⟩
    · rw [cancelTicket_ticket?_other b ne, if_pos partner, found]; rfl
    · rw [cancelTicket_ticket?_other b ne, if_neg single]
    · obtain rfl := same await
      have unlinked : awaitingUnlinked b v = unlinkUnlash b v.number := if_pos await
      rw [unlinked] at ltu bct qlc
      exact (unlinkUnlash_givenUp named link task).congr ltu bct qlc
    · have kept : awaitingUnlinked b t = b := if_neg done
      rw [kept] at ltu bct qlc
      exact ⟨ltu, bct, qlc⟩

end Sys2Proof.Machine

/-! # AMEND (O16) -/

namespace Sys2Proof.Machine

/-! ## The partners and the link -/

/-- R15: the partner that an AMEND leaves without one. -/
def formerPartner (t u : Ticket) : Option TicketNo := if u.partner = t.partner then none else t.partner

/-- R15: the partner that an AMEND names anew. -/
def newPartner (t u : Ticket) : Option TicketNo := if u.partner = t.partner then none else u.partner

/-- R15, R122: an AWAITING ticket whose lash or bay changes gives its link up. -/
def amendUnlinked (b : Berth) (t u : Ticket) : Berth :=
  if t.lashState = .awaiting ∧ (u.lash ≠ t.lash ∨ u.bay ≠ t.bay) then unlinkUnlash b t.number else b

theorem amendTicket_eq (b : Berth) (set : BitVec 16) (body : List Byte) (t : Ticket) : let u := amendFields set body t
    amendTicket b set body t =
      (setPartner (setPartner (amendUnlinked b t u) (formerPartner t u) none) (newPartner t u) (some t.number)).modTicket t.number
        fun x => amendFields set body { x with lashState := amendLash x (amendFields set body x) } := by
  unfold amendTicket formerPartner newPartner
  by_cases h : (amendFields set body t).partner = t.partner
  · simp only [if_pos h]; rfl
  · simp only [if_neg h]; rfl

theorem amendUnlinked_other (b : Berth) {t u : Ticket} {n : TicketNo} (h : n ≠ t.number) :
    (amendUnlinked b t u).ticket? n = b.ticket? n := by
  unfold amendUnlinked
  split
  · exact ticket?_unlinkUnlash_other b h
  · rfl

theorem amendUnlinked_same {b : Berth} {t : Ticket} (named : b.ticket? t.number = some t) (u : Ticket) :
    (amendUnlinked b t u).ticket? t.number = some { t with
      task := if t.lashState = .awaiting ∧ (u.lash ≠ t.lash ∨ u.bay ≠ t.bay) then none else t.task
      lashState := if t.lashState = .awaiting ∧ (u.lash ≠ t.lash ∨ u.bay ≠ t.bay) ∧ t.task ≠ none
        then .notNeeded else t.lashState } := by
  unfold amendUnlinked
  by_cases given : t.lashState = .awaiting ∧ (u.lash ≠ t.lash ∨ u.bay ≠ t.bay)
  · rw [if_pos given, ticket?_unlinkUnlash_same named]
    cases e : t.task <;> simp [given]
  · have kept : ¬ (t.lashState = .awaiting ∧ (u.lash ≠ t.lash ∨ u.bay ≠ t.bay) ∧ t.task ≠ none) := by tauto
    rw [if_neg given, if_neg given, if_neg kept, named]

/-- R15: what becomes of the link to a partner in a record, where an AMEND keeps the partner or names another. -/
theorem setPartners_ticket? (b : Berth) (t u : Ticket) {n : TicketNo} {r : Ticket} (named : b.ticket? n = some r) :
    ∃ q, (u.partner = t.partner → q = r.partner) ∧
      (setPartner (setPartner b (formerPartner t u) none) (newPartner t u) (some t.number)).ticket? n =
        some { r with partner := q } := by
  rw [setPartner_ticket?, setPartner_ticket?, named]
  refine ⟨if newPartner t u = some n then some t.number else if formerPartner t u = some n then none else r.partner,
    fun same => by simp [newPartner, formerPartner, same], ?_⟩
  by_cases new : newPartner t u = some n <;> by_cases former : formerPartner t u = some n <;> simp [new, former]

/-! ## The record amended -/

/-- The lash state that an AMEND of `t` to `u` leaves where the link leaves `st` (R15, R122). -/
def lashAfterAmend (t u : Ticket) (st : LashState) : LashState :=
  if u.lash ≠ t.lash then .notNeeded
  else if u.bay ≠ t.bay ∧ (st = .cleared ∨ st = .awaiting) then .notNeeded else st

/-- What an AMEND makes of a record that differs from `t` in its partner, where the AMEND names one, and in its link. -/
theorem amend_record {set : BitVec 16} {body : List Byte} {t x : Ticket} {q : Option TicketNo} {k : Option TaskNo}
    {st : LashState} (kept : inSet set 10 = false → q = t.partner)
    (hx : x = { t with partner := q, task := k, lashState := st }) :
    amendFields set body { x with lashState := amendLash x (amendFields set body x) } =
      { amendFields set body t with task := k, lashState := lashAfterAmend t (amendFields set body t) st } := by
  have partner : (if inSet set 10 then partnerOf (word16At body 28) else q) = (amendFields set body t).partner := by
    cases named : inSet set 10
    · rw [kept named]; simp [amendFields, named]
    · simp [amendFields, named]
  subst hx
  show ({ amendFields set body t with
    task := k, lashState := lashAfterAmend t (amendFields set body t) st
    partner := if inSet set 10 then partnerOf (word16At body 28) else q } : Ticket) = _
  rw [partner]

theorem lashAfterAmend_unlinked (t u : Ticket) :
    lashAfterAmend t u (if t.lashState = .awaiting ∧ (u.lash ≠ t.lash ∨ u.bay ≠ t.bay) ∧ t.task ≠ none then .notNeeded
      else t.lashState) =
      if u.lash ≠ t.lash ∨ (u.bay ≠ t.bay ∧ (t.lashState = .cleared ∨ t.lashState = .awaiting)) then .notNeeded
      else t.lashState := by
  unfold lashAfterAmend
  by_cases lash : u.lash = t.lash <;> by_cases bay : u.bay = t.bay <;> simp only [lash, bay, ne_eq, not_true, not_false_iff,
    if_true, if_false, true_and, false_and, and_false, false_or, true_or, or_true, or_false]
  by_cases await : t.lashState = .awaiting
  · by_cases task : t.task = none <;> simp [await, task]
  · simp [await]

/-- R15: the record of an amended ticket. -/
theorem amendTicket_ticket?_same {b : Berth} {t : Ticket} (named : b.ticket? t.number = some t) (set : BitVec 16)
    (body : List Byte) : let u := amendFields set body t
    (amendTicket b set body t).ticket? t.number = some { u with
      lashState := if u.lash ≠ t.lash ∨ (u.bay ≠ t.bay ∧ (t.lashState = .cleared ∨ t.lashState = .awaiting))
        then .notNeeded else t.lashState
      task := if t.lashState = .awaiting ∧ (u.lash ≠ t.lash ∨ u.bay ≠ t.bay) then none else t.task } := by
  intro u
  obtain ⟨q, same, record⟩ := setPartners_ticket? (amendUnlinked b t u) t u (amendUnlinked_same named u)
  have kept : inSet set 10 = false → q = t.partner := fun unnamed => same (by simp [u, amendFields, unnamed])
  rw [amendTicket_eq, Berth.ticket?_modTicket_same _ _ _ (by exact fun _ => rfl), record, ← lashAfterAmend_unlinked t u]
  exact congrArg some (amend_record kept rfl)

/-- R15: another ticket changes in its partner alone, where the AMEND leaves it without one or names it. -/
theorem amendTicket_ticket?_other (b : Berth) (set : BitVec 16) (body : List Byte) (t : Ticket) {n : TicketNo}
    (h : n ≠ t.number) : let u := amendFields set body t
    (amendTicket b set body t).ticket? n =
      if newPartner t u = some n then (b.ticket? n).map fun x => { x with partner := some t.number }
      else if formerPartner t u = some n then (b.ticket? n).map fun x => { x with partner := none } else b.ticket? n := by
  intro u
  rw [amendTicket_eq, Berth.ticket?_modTicket_other _ _ _ _ (by exact fun _ => rfl) h, setPartner_ticket?, setPartner_ticket?,
    amendUnlinked_other b h]
  split
  · split
    · rw [Option.map_map]; rfl
    · rfl
  · rfl

theorem amendTicket_rest (b : Berth) (set : BitVec 16) (body : List Byte) (t : Ticket) :
    let u := amendFields set body t
    (amendTicket b set body t).ltu = (amendUnlinked b t u).ltu ∧ (amendTicket b set body t).bct = (amendUnlinked b t u).bct
    ∧ (amendTicket b set body t).qlc = (amendUnlinked b t u).qlc := by
  intro u
  obtain ⟨-, ltu, bct, qlc⟩ := setPartner_rest (amendUnlinked b t u) (formerPartner t u) none
  obtain ⟨-, ltu', bct', qlc'⟩ := setPartner_rest (setPartner (amendUnlinked b t u) (formerPartner t u) none) (newPartner t u)
    (some t.number)
  rw [amendTicket_eq]
  exact ⟨ltu'.trans ltu, bct'.trans bct, qlc'.trans qlc⟩

/-- R15: an AMEND writes its named fields and no other host field. -/
theorem amendFields_named (set : BitVec 16) (body : List Byte) (t : Ticket) : let u := amendFields set body t
    u = { t with crane := u.crane, seq := u.seq, bay := u.bay, row := u.row, tier := u.tier, priority := u.priority,
                 oneShot := u.oneShot, deadline := u.deadline, lash := u.lash, container := u.container,
                 partner := u.partner, marks := if inSet set 7 then { t.marks with late := false } else t.marks } := rfl

/-- Settles O16. -/
theorem amendChanges : Obligations.AmendChanges := by
  refine ⟨fun s body t ready short named held fields combo passed => exec_amend ready (by omega) (by omega) ?_,
    fun set body t => ?_, fun b set body t named => ?_⟩
  · exact (((ownAmend_held named held short).2 fields).2 combo).2 passed
  · refine ⟨amendFields_named set body t, fun on c e => ?_, fun off => ?_, rfl, rfl, rfl, rfl, rfl, fun on x e => ?_,
      fun off => ?_, rfl, fun on x e => ?_, fun off => ?_, fun on x e => ?_, fun off => ?_, rfl⟩
    · simp [amendFields, on, e]
    · simp [amendFields, off]
    · simp [amendFields, on, e]
    · simp [amendFields, off]
    · simp [amendFields, on, e]
    · simp [amendFields, off]
    · simp [amendFields, on, e]
    · simp [amendFields, off]
  · obtain ⟨ltu, bct, qlc⟩ := amendTicket_rest b set body t
    refine ⟨amendTicket_ticket?_same named set body, fun p x new single ne found => ?_, fun p x former single ne found => ?_,
      fun m ne former new => ?_, fun x await changed link task => ?_, fun kept => ?_⟩
    · rw [amendTicket_ticket?_other b set body t ne, if_pos (by simp [newPartner, new, single]), found]; rfl
    · rw [amendTicket_ticket?_other b set body t ne, if_neg (by simp [newPartner, single]),
        if_pos (by simp [formerPartner, former, single]), found]
      rfl
    · have unnamed : newPartner t (amendFields set body t) ≠ some m := by unfold newPartner; split <;> simp [new]
      have unleft : formerPartner t (amendFields set body t) ≠ some m := by unfold formerPartner; split <;> simp [former]
      rw [amendTicket_ticket?_other b set body t ne, if_neg unnamed, if_neg unleft]
    · have unlinked : amendUnlinked b t (amendFields set body t) = unlinkUnlash b t.number := if_pos ⟨await, changed⟩
      rw [unlinked] at ltu bct qlc
      exact (unlinkUnlash_givenUp named link task).congr ltu bct qlc
    · have same : amendUnlinked b t (amendFields set body t) = b := if_neg (by tauto)
      rw [same] at ltu bct qlc
      exact ⟨ltu, bct, qlc⟩

end Sys2Proof.Machine

/-! # Due times and deadlines (O25) -/

namespace Sys2Proof.Machine

/-! ## Deadlines (R28) -/

theorem markLate_not_late (clock : Clock) (t : Ticket) : t.markLate.late? clock = false := by
  simp [Ticket.late?, Ticket.markLate, Ticket.mark]

/-- R28: the sweep marks the tickets that qualify and no others. -/
theorem markLates_tickets (b : Berth) :
    (markLates b).tickets = b.tickets.map fun t => if t.late? b.clock then t.markLate else t := by
  unfold markLates
  split
  · rfl
  · next none_ =>
    have timely : ∀ t ∈ b.tickets, ¬ t.late? b.clock = true := by simpa using none_
    exact (List.map_id _).symm.trans (List.map_congr_left fun t mem => by rw [if_neg (timely t mem)]; rfl)

theorem markLates_none_late {b : Berth} {t : Ticket} (mem : t ∈ (markLates b).tickets) : t.late? b.clock = false := by
  rw [markLates_tickets] at mem
  obtain ⟨x, -, rfl⟩ := List.mem_map.1 mem
  split
  · exact markLate_not_late ..
  · next timely => simpa using timely

theorem markLates_raised {b : Berth} (late : ∃ t ∈ b.tickets, t.late? b.clock = true) :
    (markLates b).nu.raw = b.nu.raw ||| ticketLateCause := by
  unfold markLates
  rw [if_pos (by simpa using late)]
  rfl

theorem markLates_stopped {b : Berth} (stopped : b.clock.running = false) : markLates b = b := by
  unfold markLates
  exact if_neg (by simp [Ticket.late?, stopped])

/-! ## The starve check (R61) -/

theorem lacksTruck_iff (r : Reason) : r.lacksTruck = true ↔ r = .truck ∨ r = .truckUnverified := by
  cases r <;> simp [Reason.lacksTruck]

/-- R61: the condition of the check, by the crane's sequence mode. -/
theorem starving_iff (b : Berth) (c : Crane) : b.starving c = true ↔
    ((b.crane c).seqMode = .strict → ∃ k, b.headCandidate c = some k
      ∧ (k.lead.reason = .truck ∨ k.lead.reason = .truckUnverified))
    ∧ ((b.crane c).seqMode = .priority → ∃ t ∈ b.pendingOf c, t.reason = .truck ∨ t.reason = .truckUnverified) := by
  unfold Berth.starving
  split
  · next strict => simp [strict, Option.any_eq_true, lacksTruck_iff]
  · next priority => simp [priority, lacksTruck_iff]

theorem starveMet_iff (b : Berth) (c : Crane) : b.starveMet c = true ↔ b.clock.running = true
    ∧ (b.crane c).work = .waiting ∧ b.params.starveTime ≠ 0 ∧ (b.crane c).starveReported = false
    ∧ (∃ q, (b.crane c).starveStart = some q ∧ (q.addSecs b.params.starveTime).reached b.now = true)
    ∧ b.starving c = true := by
  simp [Berth.starveMet, and_assoc, Option.any_eq_true]

/-- A crane that is reported is not reported again. -/
theorem starveMet_reported {b : Berth} {c : Crane} (h : (b.crane c).starveReported = true) : b.starveMet c = false := by
  simp [Berth.starveMet, h]

/-- R61: a check reads the crane's record, the tickets, the clock and the configuration. -/
theorem starveMet_congr {b b' : Berth} {c : Crane} (crane : b'.crane c = b.crane c) (tickets : b'.tickets = b.tickets)
    (clock : b'.clock = b.clock) (params : b'.params = b.params) : b'.starveMet c = b.starveMet c := by
  have pending : b'.pendingOf c = b.pendingOf c := by simp only [Berth.pendingOf, tickets]
  have named : b'.ticket? = b.ticket? := by funext n; simp only [Berth.ticket?, tickets]
  have candidate : b'.candidateOf = b.candidateOf := by
    funext t; simp only [Berth.candidateOf, Berth.pendingPartner, named]
  simp only [Berth.starveMet, Berth.starving, Berth.headCandidate, Berth.now, crane, pending, candidate, clock, params]

theorem starveCheck_met (b : Berth) (c d : Crane) :
    (starveCheck b d).starveMet c = if d = c then false else b.starveMet c := by
  unfold starveCheck
  split
  · split
    · next same => subst same; exact starveMet_reported (by simp)
    · next other => exact starveMet_congr (Berth.crane_modCrane_other _ _ _ _ (Ne.symm other)) rfl rfl rfl
  · next unmet =>
    split
    · next same => subst same; simpa using unmet
    · rfl

/-- R61: after a sweep no check is left to be met. -/
theorem starveSweep_met (b : Berth) (c : Crane) : (starveSweep b).starveMet c = false := by
  have swept : ∀ (l : List Crane) (b : Berth), (l.foldl starveCheck b).starveMet c =
      if c ∈ l then false else b.starveMet c := by
    intro l
    induction l with
    | nil => intro b; simp
    | cons d ds ih =>
      intro b
      rw [List.foldl_cons, ih, starveCheck_met]
      by_cases mem : c ∈ ds
      · simp [mem]
      · by_cases same : d = c
        · simp [same]
        · simp [mem, same, Ne.symm same]
  exact (swept allCranes b).trans (if_pos (mem_allCranes c))

@[simp] theorem evalLevels_starveMet (b : Berth) (c : Crane) : b.evalLevels.starveMet c = b.starveMet c := rfl

theorem settle_met (b : Berth) (c : Crane) : (settle b).starveMet c = false := by
  unfold settle
  simp only [evalLevels_starveMet, starveSweep_met]

/-! ## What is newly reported is raised -/

/-- The cranes that are starve reported, and the raw bits. -/
def Berth.starveView (b : Berth) : (Crane → Bool) × BitVec 16 := (fun c => (b.crane c).starveReported, b.nu.raw)

def StarvedRaised (b : Berth) : Prop := b.nu.raw &&& craneStarvedCause = craneStarvedCause

/-- R61: from `b` to `b'` a crane is newly reported only with CRANE_STARVED raised, and the cause stays raised. -/
def ReportsRaised (b b' : Berth) : Prop :=
  (∀ c, (b'.crane c).starveReported = true → (b.crane c).starveReported = true ∨ StarvedRaised b')
  ∧ (StarvedRaised b → StarvedRaised b')

/-- Bits that are set stay set where others are added. -/
theorem or_and_of_and {n : Nat} {a c : BitVec n} (x : BitVec n) (h : a &&& c = c) : (a ||| x) &&& c = c := by
  refine BitVec.eq_of_getLsbD_eq fun i _ => ?_
  have := congrArg (·.getLsbD i) h
  simp only [BitVec.getLsbD_and, BitVec.getLsbD_or] at this ⊢
  cases hc : c.getLsbD i <;> simp_all

namespace ReportsRaised

theorem of_view {b b' : Berth} (h : b'.starveView = b.starveView) : ReportsRaised b b' := by
  simp only [Berth.starveView, Prod.mk.injEq] at h
  obtain ⟨reported, raw⟩ := h
  exact ⟨fun c e => Or.inl (congrFun reported c ▸ e), fun e => by unfold StarvedRaised; rwa [raw]⟩

theorem refl (b : Berth) : ReportsRaised b b := of_view rfl

theorem trans {x y z : Berth} (h : ReportsRaised x y) (k : ReportsRaised y z) : ReportsRaised x z :=
  ⟨fun c e => (k.1 c e).elim (fun e => (h.1 c e).imp_right k.2) Or.inr, fun e => k.2 (h.2 e)⟩

theorem raise (b : Berth) (cause : BitVec 16) : ReportsRaised b (b.raise cause) :=
  ⟨fun _ e => Or.inl e, fun e => or_and_of_and cause e⟩

/-- A change of tickets, and any change of trucks, gangs, orders and claims, reports nothing. -/
theorem foldl {α : Type} {f : Berth → α → Berth} (h : ∀ b x, ReportsRaised b (f b x)) (l : List α) (b : Berth) :
    ReportsRaised b (l.foldl f b) := by
  induction l generalizing b with
  | nil => exact refl b
  | cons x xs ih => exact (h b x).trans (ih (f b x))

end ReportsRaised

theorem starveCheck_reports (b : Berth) (c : Crane) : ReportsRaised b (starveCheck b c) := by
  unfold starveCheck
  split
  · have raised : StarvedRaised ((b.modCrane c fun r => { r with starveReported := true }).raise craneStarvedCause) := by
      show (b.nu.raw ||| craneStarvedCause) &&& craneStarvedCause = craneStarvedCause
      refine BitVec.eq_of_getLsbD_eq fun i _ => ?_
      simp only [BitVec.getLsbD_and, BitVec.getLsbD_or]
      cases craneStarvedCause.getLsbD i <;> simp
    exact ⟨fun _ _ => Or.inr raised, fun _ => raised⟩
  · exact .refl b

/-! ## The parts of the end of a change -/

theorem markLates_reports (b : Berth) : ReportsRaised b (markLates b) := by
  unfold markLates
  split
  · exact (ReportsRaised.of_view rfl).trans (.raise _ _)
  · exact .refl b

@[simp] theorem gangWork_starveView (b : Berth) : (gangWork b).starveView = b.starveView := by
  have assigned : ∀ b t, (assignTask b t).starveView = b.starveView := fun b t => by unfold assignTask; split <;> rfl
  have dispatched : ∀ b g, (dispatchGang b g).starveView = b.starveView := fun b g => by
    unfold dispatchGang; dsimp only; split <;> [(split <;> rfl); rfl]
  unfold gangWork assignPass
  rw [foldl_keeps _ _ dispatched, foldl_keeps _ _ assigned]

@[simp] theorem promoteDue_starveView (b : Berth) : (promoteDue b).starveView = b.starveView := by
  have into : ∀ (c : Crane) (fuel : Nat) (b : Berth), (promoteInto c fuel b).starveView = b.starveView := by
    intro c fuel
    induction fuel with
    | zero => intro b; rfl
    | succ n ih =>
      intro b
      unfold promoteInto
      split
      · split
        · rw [ih]; rfl
        · rfl
      · rfl
  unfold promoteDue promotionCheck
  split
  · split
    · rw [foldl_keeps Berth.starveView _ fun b c => by split <;> [exact into ..; rfl]]; rfl
    · rfl
  · rfl

@[simp] theorem makeGrant_starveView (b : Berth) (c : Crane) (k : Candidate) (truck : Option Truck) (pick : Bool) :
    (makeGrant b c k truck pick).starveView = b.starveView := by
  have granted : ∀ (b : Berth) (f : CraneRec → CraneRec), (∀ r, (f r).starveReported = r.starveReported) →
      (b.modCrane c f).starveView = b.starveView := by
    intro b f kept
    refine Prod.ext (funext fun d => ?_) rfl
    show (modAt b.cranes c f)[d].starveReported = _
    rw [modAt_get]
    split
    · next same => subst same; exact kept _
    · rfl
  have reserved : ∀ (b : Berth) (p : Bool), (if p then b.reserve else b).starveView = b.starveView := by
    intro b p; cases p <;> rfl
  have posted : ∀ (b : Berth) (o : OrderBody), (if pick then b else b.postCrane c o).starveView = b.starveView := by
    intro b o; cases pick <;> rfl
  have reasons : ∀ b : Berth, (b.craneReasons c).starveView = b.starveView := fun _ => rfl
  have claimed : ∀ (b : Berth) x, (b.setCraneClaim c x).starveView = b.starveView := fun _ _ => rfl
  unfold makeGrant
  dsimp only
  rw [reasons, posted, reserved, claimed]
  cases truck <;> exact granted _ _ fun _ => rfl

@[simp] theorem selectionPass_starveView (b : Berth) (c : Crane) : (selectionPass b c).starveView = b.starveView := by
  have written : ∀ (b : Berth) (k : Candidate), (writeFailures c b k).starveView = b.starveView := by
    intro b k; unfold writeFailures; split <;> rfl
  unfold selectionPass
  split
  · unfold passStrict
    split
    · rfl
    · dsimp only; split
      · rfl
      · exact makeGrant_starveView ..
  · unfold passPriority
    dsimp only
    split
    · exact foldl_keeps _ _ written ..
    · split
      · exact foldl_keeps _ _ written ..
      · exact (makeGrant_starveView ..).trans (foldl_keeps _ _ written ..)

theorem scanPasses_reports (cs : List Crane) (b : Berth) : ReportsRaised b (scanPasses cs b).1 := by
  induction cs generalizing b with
  | nil => exact .refl b
  | cons c cs ih =>
    have pass : ReportsRaised b (passAndCheck b c) :=
      (ReportsRaised.of_view (selectionPass_starveView b c)).trans (starveCheck_reports _ c)
    unfold scanPasses
    dsimp only
    split
    · exact pass.trans (ih _)
    · exact pass

theorem runPasses_reports (b : Berth) : ReportsRaised b (runPasses b) := by
  have rounds : ∀ (fuel : Nat) (b : Berth), ReportsRaised b (passRounds fuel b) := by
    intro fuel
    induction fuel with
    | zero => exact .refl
    | succ n ih =>
      intro b
      have taken : ReportsRaised b b.orderTaken := .of_view (by unfold Berth.orderTaken; split <;> rfl)
      unfold passRounds
      dsimp only
      split
      · exact (taken.trans (scanPasses_reports ..)).trans (ih _)
      · exact taken.trans (scanPasses_reports ..)
  exact rounds 9 b

theorem runWork_reports (b : Berth) : ReportsRaised b (runWork b) := by
  have gangs : ReportsRaised b (gangWork b) := .of_view (gangWork_starveView b)
  have promoted : ∀ b, ReportsRaised b (promoteDue b) := fun b => .of_view (promoteDue_starveView b)
  have consulted : ∀ b : Berth, ReportsRaised b b.consult := fun b => .of_view rfl
  unfold runWork
  dsimp only
  split
  · exact gangs.trans ((consulted _).trans ((runPasses_reports _).trans ((promoted _).trans (runPasses_reports _))))
  · split
    · exact gangs.trans ((consulted _).trans ((promoted _).trans (runPasses_reports _)))
    · exact gangs.trans ((promoted _).trans (runPasses_reports _))

/-- R200: the level causes leave CRANE_STARVED, an edge cause, as it is. -/
theorem evalLevels_reports (b : Berth) : ReportsRaised b b.evalLevels := by
  refine ⟨fun _ e => Or.inl e, fun e => or_and_of_and b.levels ?_⟩
  have edge : edgeCauses &&& craneStarvedCause = craneStarvedCause := by decide
  rw [BitVec.and_assoc, edge]
  exact e

theorem settle_reports (b : Berth) : ReportsRaised b (settle b) := by
  have swept : ∀ b, ReportsRaised b (starveSweep b).evalLevels := fun b =>
    (ReportsRaised.foldl starveCheck_reports allCranes b).trans (evalLevels_reports _)
  have work : ∀ b : Berth, ReportsRaised b
      (if b.mode = .run then runWork b else { b with shu := { b.shu with promotionDue := false } }) := by
    intro b
    split
    · exact runWork_reports b
    · exact .of_view rfl
  exact (markLates_reports b).trans ((work (markLates b)).trans (swept _))

/-- Settles O25. -/
theorem dueTimeEvents : Obligations.DueTimeEvents := by
  refine ⟨fun s live => ?_, fun b => ⟨markLates_tickets b, fun t => markLates_none_late, markLates_raised, markLates_stopped⟩,
    fun b c => ?_, fun b c => ⟨settle_met b c, (settle_reports b).1 c⟩⟩
  · have event : ∀ f : Berth → Berth,
        Host.Outcome.next (φ := Fault) (ρ := Refusal) (berthEvent f s) = .next { s with berth := f s.berth } :=
      fun f => congrArg _ (berthEvent_taken f s live)
    have quiet : ∀ f : Berth → Berth, f s.berth = s.berth →
        Host.Outcome.next (φ := Fault) (ρ := Refusal) (berthEvent f s) = .next s := fun f e => by rw [event, e]
    refine ⟨fun c due => ?_, fun c early => quiet _ (if_neg (by simp [early])), fun n t named late => ?_, fun c met => ?_,
      fun c unmet => quiet _ (if_neg (by simp [unmet])), fun running boundary => ?_⟩
    · refine (event _).trans ?_
      rw [expiryEvent, if_pos due]
    · refine (event _).trans ?_
      rw [lateEvent, if_pos (by simp [named, late])]
    · refine (event _).trans ?_
      rw [starveCheck, if_pos met]
    · refine (event _).trans ?_
      rw [boundaryEvent, if_pos ⟨running, boundary⟩]
  · rw [starveMet_iff, starving_iff]

end Sys2Proof.Machine

/-! # Lock-ons, landings and abandons (O48) -/

namespace Sys2Proof.Machine

variable {α : Type}

/-! ## What neither the ticket table nor the task pool holds -/

/-- The berth without its tickets, gangs and tasks: what freed slots, lash links and wait reasons never write. -/
def Berth.offTable (b : Berth) : Berth := { b with tickets := [], ltu := Berth.reset.ltu }

/-- A reading of the berth that sees neither tickets nor tasks. -/
def OffTable (f : Berth → α) : Prop := ∀ b : Berth, f b.offTable = f b

theorem OffTable.eq {f : Berth → α} (h : OffTable f) {b b' : Berth} (e : b'.offTable = b.offTable) : f b' = f b := by
  rw [← h b', e, h b]

theorem unlinkLash_offTable (b : Berth) (t : Ticket) : (unlinkLash b t).offTable = b.offTable := by
  unfold unlinkLash; split <;> rfl

theorem freeTicket_offTable (b : Berth) (n : TicketNo) : (freeTicket b n).offTable = b.offTable := by
  unfold freeTicket
  split
  · rfl
  · refine (unlinkLash_offTable _ _).trans ?_
    split <;> rfl

theorem linkLash_offTable (b : Berth) (c : Crane) (bay : Bay) (ns : List TicketNo) :
    (linkLash b c bay ns).offTable = b.offTable := by
  obtain ⟨ltu, f, -, e⟩ := linkLash_frame b c bay ns
  rw [e]; rfl

/-! ## The entries of a stand -/

theorem stand_modEntries (b : Berth) (c : Crane) (p : Truck → Bool) (f : Truck → Truck) :
    (b.modEntries c p f).stand c = (b.stand c).map fun t => if p t then f t else t := Berth.stand_modStand ..

theorem stand_modEntries_iff {p : Truck → Bool} {q : Truck → Prop} [DecidablePred q] (h : ∀ t, p t = true ↔ q t) (b : Berth)
    (c : Crane) (f : Truck → Truck) : (b.modEntries c p f).stand c = (b.stand c).map fun t => if q t then f t else t := by
  rw [stand_modEntries]
  exact List.map_congr_left fun t _ => if_congr (h t) rfl rfl

/-- Entries that no test picks stay. -/
theorem map_unpicked {p : α → Prop} [DecidablePred p] {f : α → α} {l : List α} (none : ∀ x, ¬ p x) :
    l.map (fun x => if p x then f x else x) = l := by
  simp [none]

/-! ## The lift -/

/-- R105: the kind and the containers of a lift are read off numbers, kinds and containers alone. -/
theorem liftKind_modTicketsIf (b : Berth) (p : Ticket → Bool) (f : Ticket → Ticket) (c : Crane)
    (keeps : ∀ t, (f t).number = t.number ∧ (f t).kind = t.kind) :
    (b.modTicketsIf p f).liftKind c = b.liftKind c := by
  show (((b.crane c).grantTicket.bind (b.modTicketsIf p f).ticket?).map (·.kind)) = _
  unfold Berth.liftKind
  cases (b.crane c).grantTicket with
  | none => rfl
  | some n =>
    simp only [Option.bind_some]
    rw [Berth.ticket?_modTicketsIf _ _ _ fun t => (keeps t).1, Option.map_map]
    congr 1
    funext t
    simp only [Function.comp]
    split
    · exact (keeps t).2
    · rfl

theorem liftContainers_modTicketsIf (b : Berth) (p : Ticket → Bool) (f : Ticket → Ticket) (c : Crane)
    (keeps : ∀ t, (f t).number = t.number ∧ (f t).container = t.container) :
    (b.modTicketsIf p f).liftContainers c = b.liftContainers c := by
  show ((b.tickets.map fun t => if p t then f t else t).filter fun t => (b.crane c).lift.contains t.number).filterMap
    (·.container) = _
  unfold Berth.liftContainers
  induction b.tickets with
  | nil => rfl
  | cons t ts ih =>
    have number : (if p t then f t else t).number = t.number := by split <;> [exact (keeps t).1; rfl]
    have container : (if p t then f t else t).container = t.container := by split <;> [exact (keeps t).2; rfl]
    rw [List.map_cons, List.filter_cons, List.filter_cons, number]
    split
    · rw [List.filterMap_cons, List.filterMap_cons, container, ih]
    · exact ih

/-! ## Lock-on (R44, R105) -/

/-- What a lock-on writes before the truck's part. -/
def lockedOn (b : Berth) (c : Crane) : Berth :=
  (b.modTickets (b.crane c).lift fun t => { t with state := .lifting, reason := .none }).modCrane c
    fun r => { r with work := .lifting, due := none, position := r.grantBay.getD r.position }

theorem lockOn_eq (b : Berth) (c : Crane) : lockOn b c = lockOnTruck (lockedOn b c) c := rfl

theorem lockedOn_lift (b : Berth) (c : Crane) : ((lockedOn b c).crane c).lift = (b.crane c).lift := by
  unfold lockedOn; rw [Berth.crane_modCrane]; rfl

theorem lockedOn_liftKind (b : Berth) (c : Crane) : (lockedOn b c).liftKind c = b.liftKind c := by
  have crane : ((lockedOn b c).crane c).grantTicket = (b.crane c).grantTicket := by
    unfold lockedOn; rw [Berth.crane_modCrane]; rfl
  rw [← liftKind_modTicketsIf b (fun t => (b.crane c).lift.contains t.number)
    (fun t => { t with state := .lifting, reason := .none }) c fun _ => ⟨rfl, rfl⟩]
  unfold Berth.liftKind
  rw [crane]
  rfl

theorem lockedOn_liftContainers (b : Berth) (c : Crane) : (lockedOn b c).liftContainers c = b.liftContainers c := by
  rw [← liftContainers_modTicketsIf b (fun t => (b.crane c).lift.contains t.number)
    (fun t => { t with state := .lifting, reason := .none }) c fun _ => ⟨rfl, rfl⟩]
  unfold Berth.liftContainers
  rw [lockedOn_lift]
  rfl

/-- The truck's part of a lock-on writes the stay of the lift and entries of the crane's own stand. -/
theorem lockOnTruck_cases (b : Berth) (c : Crane) : lockOnTruck b c = b
    ∨ ∃ p f stay, lockOnTruck b c = (b.modEntries c p f).modCrane c fun r => { r with liftStay := stay } := by
  unfold lockOnTruck
  split
  · exact Or.inr ⟨_, _, _, rfl⟩
  · exact Or.inl rfl

/-- A reading that a lock-on's truck part does not write. -/
theorem lockOn_keeps (f : Berth → α) (h : ∀ b c p g stay,
    f ((b.modEntries c p g).modCrane c fun r : CraneRec => { r with liftStay := stay }) = f b) (b : Berth) (c : Crane) :
    f (lockOn b c) = f (lockedOn b c) := by
  rw [lockOn_eq]
  rcases lockOnTruck_cases (lockedOn b c) c with e | ⟨p, g, stay, e⟩
  · rw [e]
  · rw [e, h]

/-- A field of the crane record that is not the stay of its lift is read off the record before the truck's part. -/
theorem lockOn_crane (f : CraneRec → α) (h : ∀ (r : CraneRec) stay, f { r with liftStay := stay } = f r) (b : Berth) (c : Crane) :
    f ((lockOn b c).crane c)
      = f { b.crane c with work := .lifting, due := none, position := (b.crane c).grantBay.getD (b.crane c).position } := by
  rw [lockOn_eq]
  have locked : (lockedOn b c).crane c
      = { b.crane c with work := .lifting, due := none, position := (b.crane c).grantBay.getD (b.crane c).position } :=
    Berth.crane_modCrane ..
  rcases lockOnTruck_cases (lockedOn b c) c with e | ⟨p, g, stay, e⟩
  · rw [e, locked]
  · rw [e, Berth.crane_modCrane, h, ← locked]; rfl

theorem lockOn_elsewhere (b : Berth) {c d : Crane} (h : d ≠ c) :
    (lockOn b c).crane d = b.crane d ∧ (lockOn b c).stand d = b.stand d := by
  have locked : (lockedOn b c).crane d = b.crane d := Berth.crane_modCrane_other _ _ _ _ h
  rw [lockOn_eq]
  rcases lockOnTruck_cases (lockedOn b c) c with e | ⟨p, g, stay, e⟩
  · rw [e]; exact ⟨locked, rfl⟩
  · rw [e]
    exact ⟨(Berth.crane_modCrane_other _ _ _ _ h).trans locked, Berth.stand_modEntries_other _ _ _ _ _ h⟩

theorem lockOnTruck_stand (b : Berth) (c : Crane) : (lockOnTruck b c).stand c = (b.stand c).map fun t =>
    if b.liftKind c = some .load ∧ (b.crane c).grantTruck = some t.tag ∧ t.state = .bound then
      t.lockOnLoad b.params.dualCycle (b.liftContainers c) else t := by
  unfold lockOnTruck
  split
  · next tag kind truck =>
    exact stand_modEntries_iff (fun t => by simp [kind, truck, eq_comm (a := tag)]) ..
  · next no =>
    exact (map_unpicked fun t h => no t.tag h.1 h.2.1).symm

/-- R105: what the bound entry of a LOAD becomes. -/
theorem lockOnLoad_eq (t : Truck) (dual : Bool) (ids : List ContainerId) : t.lockOnLoad dual ids =
    let cargo := t.cargo.filter fun id => !ids.contains id
    { t with cargo, state := if cargo = [] ∧ dual = false then .departing else .waiting } := by
  simp [Truck.lockOnLoad]

theorem lockOn_stand (b : Berth) (c : Crane) : (lockOn b c).stand c = (b.stand c).map fun t =>
    if b.liftKind c = some .load ∧ (b.crane c).grantTruck = some t.tag ∧ t.state = .bound then
      t.lockOnLoad b.params.dualCycle (b.liftContainers c) else t := by
  have truck : ((lockedOn b c).crane c).grantTruck = (b.crane c).grantTruck := by
    unfold lockedOn; rw [Berth.crane_modCrane]; rfl
  rw [lockOn_eq, lockOnTruck_stand, lockedOn_liftKind, lockedOn_liftContainers, truck]
  rfl

end Sys2Proof.Machine

/-! # The lash task of a landing (R125; O48) -/

namespace Sys2Proof.Machine

/-! ## The task that a landing joins -/

/-- R117: of two creation sequences at most one is before the other. -/
theorem createdBefore_asymm {x y : Task} (h : createdBefore x y = true) : createdBefore y x = false := by
  unfold createdBefore at h ⊢
  simp only [Bool.and_eq_true, bne_iff_ne, ne_eq, decide_eq_true_eq] at h
  obtain ⟨differ, near⟩ := h
  simp only [Bool.and_eq_false_iff, decide_eq_false_iff_not]
  right
  bv_omega

theorem createdBefore_irrefl (x : Task) : createdBefore x x = false := by simp [createdBefore]

/-- The lash tasks at a bay that a landing may join. -/
def Berth.openLashes (b : Berth) (bay : Bay) : List Task :=
  b.ltu.tasks.filter fun t => t.kind == .lash && t.bay == bay && (t.state == .opened || t.state == .queued)

theorem joinableLash_eq (b : Berth) (bay : Bay) : b.joinableLash bay = firstLeast createdBefore (b.openLashes bay) := rfl

theorem mem_openLashes (b : Berth) (bay : Bay) (t : Task) : t ∈ b.openLashes bay ↔
    t ∈ b.ltu.tasks ∧ t.kind = .lash ∧ t.bay = bay ∧ t.state ∈ [TaskState.opened, .queued] := by
  simp [Berth.openLashes, and_assoc]

theorem joinableLash_none (b : Berth) (bay : Bay) : b.joinableLash bay = none ↔ ∀ t, t ∉ b.openLashes bay := by
  rw [joinableLash_eq, firstLeast_none, List.eq_nil_iff_forall_not_mem]

theorem joinableLash_earliest {b : Berth} {bay : Bay} {t : Task} (mem : t ∈ b.openLashes bay)
    (first : ∀ u ∈ b.openLashes bay, u ≠ t → createdBefore t u = true) : b.joinableLash bay = some t :=
  firstLeast_eq _ (createdBefore_irrefl t) mem fun u hu ne => ⟨first u hu ne, createdBefore_asymm (first u hu ne)⟩

/-! ## The link -/

/-- A ticket linked to a lash task. -/
def Ticket.lashedTo (j : TaskNo) (t : Ticket) : Ticket := { t with lashState := .linked, task := some j }

variable {b : Berth} {bay : Bay} {c : Crane} {ns : List TicketNo}

theorem linkLash_join {x : Task} (join : b.joinableLash bay = some x) : linkLash b c bay ns =
    (b.unreserve.modTask x.number fun t => { t with linked := t.linked + ns.length }).modTickets ns (Ticket.lashedTo x.number) := by
  have join' : b.unreserve.joinableLash bay = some x := join
  simp only [linkLash, join']
  rfl

theorem linkLash_create {j : TaskNo} (none_ : b.joinableLash bay = none) (slot : b.freeTaskSlot = some j) : linkLash b c bay ns =
    (b.unreserve.createTask j .lash bay c ns.length).modTickets ns (Ticket.lashedTo j) := by
  have none' : b.unreserve.joinableLash bay = none := none_
  have slot' : b.unreserve.freeTaskSlot = some j := slot
  simp only [linkLash, none', slot']
  rfl

theorem linkLash_full (none_ : b.joinableLash bay = none) (full : b.freeTaskSlot = none) : linkLash b c bay ns = b.unreserve := by
  have none' : b.unreserve.joinableLash bay = none := none_
  have full' : b.unreserve.freeTaskSlot = none := full
  simp only [linkLash, none', full']

/-- The task a landing's tickets are linked to: the joined one, or the new one in the lowest free slot. -/
def LashTask (b : Berth) (bay : Bay) (j : TaskNo) : Prop :=
  (∃ x, b.joinableLash bay = some x ∧ j = x.number) ∨ (b.joinableLash bay = none ∧ b.freeTaskSlot = some j)

theorem linkLash_tickets {j : TaskNo} (h : LashTask b bay j) : (linkLash b c bay ns).tickets =
    b.tickets.map fun t => if ns.contains t.number then t.lashedTo j else t := by
  rcases h with ⟨x, join, rfl⟩ | ⟨none_, slot⟩
  · rw [linkLash_join join]; rfl
  · rw [linkLash_create none_ slot]; rfl

/-- Of a ticket a link writes the lash state and the task alone. -/
theorem linkLash_links (b : Berth) (c : Crane) (bay : Bay) (ns : List TicketNo) : ∃ f : Ticket → Ticket,
    (∀ t, ∃ l k, f t = { t with lashState := l, task := k }) ∧ (linkLash b c bay ns).tickets = b.tickets.map f := by
  have linked (j : TaskNo) (h : LashTask b bay j) : ∃ f : Ticket → Ticket,
      (∀ t, ∃ l k, f t = { t with lashState := l, task := k }) ∧ (linkLash b c bay ns).tickets = b.tickets.map f := by
    refine ⟨_, fun t => ?_, linkLash_tickets h⟩
    split
    · exact ⟨_, _, rfl⟩
    · exact ⟨t.lashState, t.task, rfl⟩
  cases join : b.joinableLash bay with
  | some x => exact linked x.number (Or.inl ⟨x, join, rfl⟩)
  | none =>
    cases free : b.freeTaskSlot with
    | some j => exact linked j (Or.inr ⟨join, free⟩)
    | none => exact ⟨id, fun t => ⟨t.lashState, t.task, rfl⟩, by rw [linkLash_full join free, List.map_id]; rfl⟩

theorem linkLash_join_ltu {x : Task} (join : b.joinableLash bay = some x) : (linkLash b c bay ns).ltu = { b.ltu with
    reserved := b.ltu.reserved - 1
    tasks := b.ltu.tasks.map fun t => if t.number = x.number then { t with linked := t.linked + ns.length } else t } := by
  rw [linkLash_join join]
  simp only [← beq_iff_eq (a := Task.number _)]
  rfl

/-- The task pool a link leaves depends on the pool and its size alone. -/
theorem linkLash_ltu_congr {b' : Berth} (ltu : b'.ltu = b.ltu) (sizes : b'.sizes = b.sizes) (c : Crane) (bay : Bay)
    (ns : List TicketNo) : (linkLash b' c bay ns).ltu = (linkLash b c bay ns).ltu := by
  have joinable : b'.joinableLash bay = b.joinableLash bay := by simp only [Berth.joinableLash, ltu]
  have slot : b'.freeTaskSlot = b.freeTaskSlot := by simp only [Berth.freeTaskSlot, ltu, sizes]
  have given : b'.unreserve.ltu = b.unreserve.ltu := by simp only [Berth.unreserve, ltu]
  cases join : b.joinableLash bay with
  | some x => rw [linkLash_join_ltu join, linkLash_join_ltu (joinable.trans join), ltu]
  | none =>
    cases free : b.freeTaskSlot with
    | some j =>
      rw [linkLash_create join free, linkLash_create (joinable.trans join) (slot.trans free)]
      simp only [Berth.modTickets_ltu, Berth.createTask, given]
    | none =>
      rw [linkLash_full join free, linkLash_full (joinable.trans join) (slot.trans free), given]

theorem lashTask_congr {b' : Berth} (ltu : b'.ltu = b.ltu) (sizes : b'.sizes = b.sizes) {j : TaskNo} (h : LashTask b bay j) :
    LashTask b' bay j := by
  have joinable : b'.joinableLash bay = b.joinableLash bay := by simp only [Berth.joinableLash, ltu]
  have slot : b'.freeTaskSlot = b.freeTaskSlot := by simp only [Berth.freeTaskSlot, ltu, sizes]
  rw [LashTask, joinable, slot]
  exact h

/-- R125: the new lash task takes the lowest free slot, and the other slots stay. -/
theorem linkLash_created {j : TaskNo} (none_ : b.joinableLash bay = none) (slot : b.freeTaskSlot = some j) :
    let b' := linkLash b c bay ns
    b'.ltu.reserved = b.ltu.reserved - 1 ∧ b'.ltu.tasks.length = b.ltu.tasks.length + 1
    ∧ b'.task? j = some { number := j, kind := .lash, bay, crane := c, linked := ns.length, state := .opened,
                          created := b.ltu.creation }
    ∧ (∀ n, n ≠ j → b'.task? n = b.task? n) ∧ b'.ltu.gangs = b.ltu.gangs ∧ b'.ltu.creation = b.ltu.creation + 1 := by
  rw [linkLash_create none_ slot]
  have new : b.unreserve.task? j = none := Berth.freeTaskSlot_new slot
  refine ⟨rfl, Berth.createTask_tasks_length b.unreserve .., ?_, fun n other => ?_, rfl, rfl⟩
  · exact (task?_congr (b := b.unreserve.createTask j .lash bay c ns.length) rfl j).trans
      (Berth.task?_createTask_same _ _ _ _ new)
  · exact (task?_congr (b := b.unreserve.createTask j .lash bay c ns.length) rfl n).trans
      (Berth.task?_createTask_other (b := b.unreserve) _ _ _ _ other)

end Sys2Proof.Machine

/-! # Landings (R46; O48) -/

namespace Sys2Proof.Machine

/-! ## Landing, step by step -/

/-- What a landing writes before its claim is released. -/
def setDown (b : Berth) (c : Crane) (k : Bool) : Berth :=
  (((landOnTruck b c).modTickets (b.crane c).lift (landTicketPart b.nowSecs)).raise ticketDone).modCrane c fun r =>
    if k && r.control == .auto && !r.halt then r.emptied.startWaiting b.now else r.emptied.goIdle

/-- The tickets of a lift that hold a task-slot reservation. -/
def Berth.lashing (b : Berth) (c : Crane) : List TicketNo :=
  (b.crane c).lift.filter fun n => (b.ticket? n).any fun t => t.lashState == .reserved

/-- A landing's lash link, where it has one. -/
def linkLanded (b : Berth) (c : Crane) (ns : List TicketNo) (bay : Option Bay) : Berth :=
  match ns, bay with
  | [], _ | _, none => b
  | ns, some bay => linkLash b c bay ns

/-- A landing before its tickets are retired. -/
def landed (b : Berth) (c : Crane) (k : Bool) : Berth :=
  (linkLanded (releaseCraneClaim (setDown b c k) c) c (b.lashing c) (b.crane c).grantBay).craneReasons c

theorem linkLanded_idle {b : Berth} {c : Crane} {ns : List TicketNo} {bay : Option Bay} (h : ns = [] ∨ bay = none) :
    linkLanded b c ns bay = b := by
  unfold linkLanded
  split
  · rfl
  · rfl
  · next nonempty => rcases h with h | h <;> [exact absurd h nonempty; cases h]

theorem linkLanded_some {b : Berth} {c : Crane} {ns : List TicketNo} (bay : Bay) (h : ns ≠ []) :
    linkLanded b c ns (some bay) = linkLash b c bay ns := by
  unfold linkLanded
  split
  · contradiction
  · contradiction
  · next e => cases e; rfl

theorem linkLanded_offTable (b : Berth) (c : Crane) (ns : List TicketNo) (bay : Option Bay) :
    (linkLanded b c ns bay).offTable = b.offTable := by
  unfold linkLanded
  split
  · rfl
  · rfl
  · exact linkLash_offTable ..

theorem land_eq (b : Berth) (c : Crane) (k : Bool) : land b c k =
    if (landed b c k).params.autoRetire then (b.crane c).lift.foldl freeTicket (landed b c k) else landed b c k := rfl

/-! ## The truck's part -/

/-- The berth as it was, but for one stand. -/
def StandOnly (c : Crane) (b' b : Berth) : Prop := b' = b ∨ ∃ l, b' = b.modStand c l

theorem StandOnly.eq {α : Type} {c : Crane} {b' b : Berth} (h : StandOnly c b' b) (f : Berth → α)
    (keeps : ∀ l, f (b.modStand c l) = f b) : f b' = f b := by
  rcases h with rfl | ⟨l, rfl⟩
  · rfl
  · exact keeps l

theorem StandOnly.others {c d : Crane} {b' b : Berth} (h : StandOnly c b' b) (other : d ≠ c) : b'.stand d = b.stand d :=
  h.eq (fun b => b.stand d) fun _ => Berth.stand_modStand_other _ _ _ _ other

theorem landOnTruck_standOnly (b : Berth) (c : Crane) : StandOnly c (landOnTruck b c) b := landOnTruck_frame b c

theorem landOnTruck_stand (b : Berth) (c : Crane) : (landOnTruck b c).stand c = (b.stand c).map fun t =>
    if b.liftKind c = some .discharge ∧ (b.crane c).grantTruck = some t.tag ∧ t.state = .bound then
      { t with state := .departing, cargo := b.liftContainers c } else t := by
  unfold landOnTruck
  split
  · next tag kind truck => exact stand_modEntries_iff (fun t => by simp [kind, truck, eq_comm (a := tag)]) ..
  · next no => exact (map_unpicked fun t h => no t.tag h.1 h.2.1).symm

/-! ## What is left outside the tables -/

theorem land_offTable (b : Berth) (c : Crane) (k : Bool) :
    (land b c k).offTable = (releaseCraneClaim (setDown b c k) c).offTable := by
  have before : (landed b c k).offTable = (releaseCraneClaim (setDown b c k) c).offTable :=
    linkLanded_offTable (releaseCraneClaim (setDown b c k) c) ..
  rw [land_eq]
  split
  · exact (foldl_keeps Berth.offTable _ freeTicket_offTable _ _).trans before
  · exact before

variable (b : Berth) (c : Crane) (k : Bool)

theorem land_crane_same : (land b c k).crane c =
    if k && (b.crane c).control == .auto && !(b.crane c).halt then (b.crane c).emptied.startWaiting b.now
    else (b.crane c).emptied.goIdle := by
  have released : (land b c k).crane c = (setDown b c k).crane c := by
    rw [OffTable.eq (f := fun b => b.crane c) (fun _ => rfl) (land_offTable b c k)]
    simp only [Berth.crane, releaseCraneClaim_cranes]
  have truck : (((landOnTruck b c).modTickets (b.crane c).lift (landTicketPart b.nowSecs)).raise ticketDone).crane c = b.crane c :=
    (landOnTruck_standOnly b c).eq (fun b => b.crane c) fun _ => rfl
  rw [released, setDown, Berth.crane_modCrane, truck]

theorem land_claim_same : (land b c k).craneClaim c = none := by
  rw [OffTable.eq (f := fun b => b.craneClaim c) (fun _ => rfl) (land_offTable b c k), releaseCraneClaim_same]

theorem land_nu : (land b c k).nu.raw = b.nu.raw ||| ticketDone := by
  have kept : (landOnTruck b c).nu = b.nu := (landOnTruck_standOnly b c).eq (fun b => b.nu) fun _ => rfl
  rw [OffTable.eq (f := fun b => b.nu.raw) (fun _ => rfl) (land_offTable b c k), releaseCraneClaim_nu]
  show (landOnTruck b c).nu.raw ||| ticketDone = _
  rw [kept]

theorem land_stand (d : Crane) : (land b c k).stand d = (landOnTruck b c).stand d := by
  rw [OffTable.eq (f := fun b => b.stand d) (fun _ => rfl) (land_offTable b c k)]
  simp only [Berth.stand, releaseCraneClaim_shu]
  rfl

theorem land_elsewhere {d : Crane} (h : d ≠ c) : (land b c k).craneClaim d = b.craneClaim d
    ∧ (land b c k).crane d = b.crane d ∧ (land b c k).stand d = b.stand d := by
  have truck := landOnTruck_standOnly b c
  refine ⟨?_, ?_, ?_⟩
  · rw [OffTable.eq (f := fun b => b.craneClaim d) (fun _ => rfl) (land_offTable b c k), releaseCraneClaim_other _ _ _ h]
    exact truck.eq (fun b => b.craneClaim d) fun _ => rfl
  · have released : (land b c k).crane d = (setDown b c k).crane d := by
      rw [OffTable.eq (f := fun b => b.crane d) (fun _ => rfl) (land_offTable b c k)]
      simp only [Berth.crane, releaseCraneClaim_cranes]
    rw [released, setDown, Berth.crane_modCrane_other _ _ _ _ h]
    exact truck.eq (fun b => b.crane d) fun _ => rfl
  · rw [land_stand, truck.others h]

/-! ## The tickets and the task pool -/

theorem setDown_tickets : (setDown b c k).tickets =
    b.tickets.map fun t => if (b.crane c).lift.contains t.number then landTicketPart b.nowSecs t else t := by
  have kept : (landOnTruck b c).tickets = b.tickets := (landOnTruck_standOnly b c).eq (fun b => b.tickets) fun _ => rfl
  show (landOnTruck b c).tickets.map _ = _
  rw [kept]

theorem setDown_ltu : (setDown b c k).ltu = b.ltu := (landOnTruck_standOnly b c).eq (fun b => b.ltu) fun _ => rfl

theorem setDown_sizes : (setDown b c k).sizes = b.sizes := (landOnTruck_standOnly b c).eq (fun b => b.sizes) fun _ => rfl

variable {b c k}

theorem landed_params : (landed b c k).params = b.params := by
  have truck : (landOnTruck b c).params = b.params := (landOnTruck_standOnly b c).eq (fun b => b.params) fun _ => rfl
  have link : (landed b c k).params = (releaseCraneClaim (setDown b c k) c).params :=
    OffTable.eq (f := fun b => b.params) (fun _ => rfl) (linkLanded_offTable (releaseCraneClaim (setDown b c k) c) ..)
  rw [link, releaseCraneClaim_params]
  exact truck

/-- Without AUTO_RETIRE nothing follows the landing. -/
theorem land_kept (h : b.params.autoRetire = false) : land b c k = landed b c k := by
  rw [land_eq, landed_params, h]; rfl

theorem land_retired (h : b.params.autoRetire = true) : land b c k = (b.crane c).lift.foldl freeTicket (landed b c k) := by
  rw [land_eq, landed_params, h]; rfl

/-- R20: a freed ticket's number names nothing, and later frees bring none back. -/
theorem Berth.Within.ticket?_none {b' b : Berth} (h : b'.Within b) {n : TicketNo} (gone : b.ticket? n = none) :
    b'.ticket? n = none := by
  simp only [Berth.ticket?, List.find?_eq_none, beq_iff_eq] at gone ⊢
  intro t mem e
  obtain ⟨u, hu, same⟩ := List.mem_map.1 (h.2.subset (List.mem_map_of_mem mem))
  exact gone u hu (same.trans e)

theorem foldl_freeTicket_gone {n : TicketNo} {l : List TicketNo} (mem : n ∈ l) (b : Berth) :
    (l.foldl freeTicket b).ticket? n = none := by
  induction l generalizing b with
  | nil => cases mem
  | cons m ms ih =>
    rcases List.mem_cons.1 mem with rfl | later
    · exact (Berth.Within.foldl freeTicket_within ms _).ticket?_none (freeTicket_gone b n)
    · exact ih later _

theorem land_gone (h : b.params.autoRetire = true) {n : TicketNo} (lifted : n ∈ (b.crane c).lift) :
    (land b c k).ticket? n = none := by
  rw [land_retired h]
  exact foldl_freeTicket_gone lifted _

theorem craneReasons_mem {c : Crane} {t : Ticket} (mem : t ∈ b.tickets) (state : t.state ≠ .pending) :
    t ∈ (b.craneReasons c).tickets :=
  List.mem_map.2 ⟨t, mem, if_neg (by simp [state])⟩

variable {t : Ticket}

theorem setDown_mem (mem : t ∈ b.tickets) (lifted : (b.crane c).lift.contains t.number = true) :
    landTicketPart b.nowSecs t ∈ (releaseCraneClaim (setDown b c k) c).tickets := by
  rw [releaseCraneClaim_tickets, setDown_tickets]
  exact List.mem_map.2 ⟨t, mem, if_pos lifted⟩

/-- R46: a landed ticket, but for its lash link. -/
theorem landed_mem (mem : t ∈ b.tickets) (lifted : (b.crane c).lift.contains t.number = true) :
    ∃ u ∈ (landed b c k).tickets, ∃ l j, u = { landTicketPart b.nowSecs t with lashState := l, task := j } := by
  have done := setDown_mem (k := k) mem lifted
  by_cases idle : b.lashing c = [] ∨ (b.crane c).grantBay = none
  · refine ⟨_, craneReasons_mem ?_ (by simp [landTicketPart]), t.lashState, t.task, rfl⟩
    rw [linkLanded_idle idle]
    exact done
  · obtain ⟨some_, bay⟩ := not_or.1 idle
    obtain ⟨bay, grant⟩ := Option.ne_none_iff_exists'.1 bay
    obtain ⟨f, links, tickets⟩ := linkLash_links (releaseCraneClaim (setDown b c k) c) c bay (b.lashing c)
    obtain ⟨l, j, linked⟩ := links (landTicketPart b.nowSecs t)
    refine ⟨_, craneReasons_mem ?_ (by simp [landTicketPart]), l, j, rfl⟩
    rw [grant, linkLanded_some bay some_, tickets, ← linked]
    exact List.mem_map_of_mem done

theorem released_ltu : (releaseCraneClaim (setDown b c k) c).ltu = b.ltu := (releaseCraneClaim_ltu ..).trans (setDown_ltu b c k)

theorem released_sizes : (releaseCraneClaim (setDown b c k) c).sizes = b.sizes :=
  (releaseCraneClaim_sizes ..).trans (setDown_sizes b c k)

theorem landed_ltu_idle (idle : b.lashing c = [] ∨ (b.crane c).grantBay = none) : (landed b c k).ltu = b.ltu := by
  show (linkLanded (releaseCraneClaim (setDown b c k) c) c (b.lashing c) (b.crane c).grantBay).ltu = b.ltu
  rw [linkLanded_idle idle, released_ltu]

variable {bay : Bay}

theorem landed_ltu_linked (lashing : b.lashing c ≠ []) (grant : (b.crane c).grantBay = some bay) :
    (landed b c k).ltu = (linkLash b c bay (b.lashing c)).ltu := by
  show (linkLanded (releaseCraneClaim (setDown b c k) c) c (b.lashing c) (b.crane c).grantBay).ltu = _
  rw [grant, linkLanded_some bay lashing]
  exact linkLash_ltu_congr released_ltu released_sizes ..

theorem landed_linked {j : TaskNo} (mem : t ∈ b.tickets) (reserved : (b.lashing c).contains t.number = true)
    (grant : (b.crane c).grantBay = some bay) (task : LashTask b bay j) :
    (landTicketPart b.nowSecs t).lashedTo j ∈ (landed b c k).tickets := by
  have inLashing : t.number ∈ b.lashing c := by simpa using reserved
  have lifted : (b.crane c).lift.contains t.number = true := by simpa using List.mem_of_mem_filter inLashing
  refine craneReasons_mem ?_ (by simp [landTicketPart, Ticket.lashedTo])
  rw [grant, linkLanded_some bay (List.ne_nil_of_mem inLashing), linkLash_tickets (lashTask_congr released_ltu released_sizes task)]
  exact List.mem_map.2 ⟨_, setDown_mem mem lifted, if_pos reserved⟩

end Sys2Proof.Machine

/-! # Abandoned lifts (R47; O48) -/

namespace Sys2Proof.Machine

/-! ## The truck's part and the reservation -/

theorem abandonTruck_standOnly (b : Berth) (c : Crane) : StandOnly c (abandonTruck b c) b := by
  unfold abandonTruck
  split
  · obtain ⟨l, e | e⟩ := unbindTruck_frame b c
    · exact Or.inr ⟨l, e⟩
    · exact Or.inl e
  · unfold putBack
    split
    · exact Or.inl rfl
    · exact Or.inr ⟨_, rfl⟩
  · exact Or.inl rfl

theorem unbindTruck_stand (b : Berth) (c : Crane) : (unbindTruck b c).stand c = (b.stand c).map fun t =>
    if (b.crane c).grantTruck = some t.tag ∧ t.state = .bound then { t with state := .waiting } else t := by
  unfold unbindTruck
  split
  · next none_ => exact (map_unpicked fun t h => by simp [none_] at h).symm
  · next tag truck => exact stand_modEntries_iff (fun t => by simp [truck, eq_comm (a := tag)]) ..

theorem putBack_stand (b : Berth) (c : Crane) (ids : List ContainerId) : (putBack b c ids).stand c = (b.stand c).map fun t =>
    if (b.crane c).liftStay = some t.stay ∧ t.state ≠ .bound then { t with state := .waiting, cargo := t.cargo ++ ids }
    else t := by
  unfold putBack
  split
  · next none_ => exact (map_unpicked fun t h => by simp [none_] at h).symm
  · next stay left => exact stand_modEntries_iff (fun t => by simp [left, eq_comm (a := stay)]) ..

theorem abandonTruck_stand (b : Berth) (c : Crane) : (abandonTruck b c).stand c = (b.stand c).map fun t =>
    if b.liftKind c = some .discharge ∧ (b.crane c).grantTruck = some t.tag ∧ t.state = .bound then
      { t with state := .waiting }
    else if b.liftKind c = some .load ∧ (b.crane c).liftStay = some t.stay ∧ t.state ≠ .bound then
      { t with state := .waiting, cargo := t.cargo ++ b.liftContainers c }
    else t := by
  unfold abandonTruck
  split
  · next kind => simp only [unbindTruck_stand, kind, true_and, Option.some.injEq, reduceCtorEq, false_and, if_false]
  · next kind => simp only [putBack_stand, kind, true_and, Option.some.injEq, reduceCtorEq, false_and, if_false]
  · next notDischarge notLoad =>
    have off : ¬ b.liftKind c = some .discharge := notDischarge
    have off' : ¬ b.liftKind c = some .load := notLoad
    simp only [off, off', false_and, if_false, List.map_id']

/-- The berth once the truck's part is done and the reservation is given back. -/
def givenBack (b : Berth) (c : Crane) : Berth := (abandonTruck b c).giveBackSlot c

/-- A reading that a freed reservation and a change of the crane's stand leave. -/
theorem givenBack_keeps {α : Type} (f : Berth → α) (slot : ∀ b : Berth, f b.unreserve = f b) {c : Crane}
    (truck : ∀ (b : Berth) l, f (b.modStand c l) = f b) (b : Berth) : f (givenBack b c) = f b := by
  have unbound := (abandonTruck_standOnly b c).eq f (truck b)
  unfold givenBack Berth.giveBackSlot
  split
  · rw [slot, unbound]
  · exact unbound

theorem givenBack_stand (b : Berth) (c d : Crane) : (givenBack b c).stand d = (abandonTruck b c).stand d := by
  unfold givenBack Berth.giveBackSlot
  split <;> rfl

theorem givenBack_ltu (b : Berth) (c : Crane) : (givenBack b c).ltu =
    { b.ltu with reserved := if b.liftReserved c then b.ltu.reserved - 1 else b.ltu.reserved } := by
  have truck := abandonTruck_standOnly b c
  have reserved : (abandonTruck b c).liftReserved c = b.liftReserved c := truck.eq (fun b => b.liftReserved c) fun _ => rfl
  have ltu : (abandonTruck b c).ltu = b.ltu := truck.eq (fun b => b.ltu) fun _ => rfl
  unfold givenBack Berth.giveBackSlot
  rw [reserved]
  split
  · show ({ (abandonTruck b c).ltu with reserved := (abandonTruck b c).ltu.reserved - 1 } : Lashing) = _
    rw [ltu]
  · exact ltu

/-! ## The abandon -/

/-- The state a ticket leaves an abandoned lift for. -/
def abandonState (fails halt : Bool) : TicketState := if fails then .failed else if halt then .held else .pending

/-- R47's part of the Ticket Table. -/
def abandonTicketPart (fails halt : Bool) (now : Secs) (t : Ticket) : Ticket :=
  (t.count.leave (abandonState fails halt) now).mark fun m =>
    { m with fault := true, halted := m.halted || abandonState fails halt == .held }

/-- An abandon before its claim is released. -/
def givenUp (b : Berth) (c : Crane) : Berth :=
  ((givenBack b c).modTickets (b.crane c).lift (abandonTicketPart (b.lastAttempt c) (b.crane c).halt b.nowSecs)).modCrane c
    fun r => r.emptied.goIdle

/-- An abandon before its notices. -/
def abandoned (b : Berth) (c : Crane) : Berth := (releaseCraneClaim (givenUp b c) c).craneReasons c

theorem abandonLift_eq (b : Berth) (c : Crane) : abandonLift b c =
    if b.lastAttempt c then ((abandoned b c).raise liftFault).raise ticketFailed else (abandoned b c).raise liftFault := rfl

/-- A reading that no notice changes. -/
theorem abandonLift_keeps {α : Type} (f : Berth → α) (h : ∀ (b : Berth) x, f (b.raise x) = f b) (b : Berth) (c : Crane) :
    f (abandonLift b c) = f (abandoned b c) := by
  rw [abandonLift_eq]
  split
  · rw [h, h]
  · rw [h]

variable (b : Berth) (c : Crane)

theorem abandonLift_claim_same : (abandonLift b c).craneClaim c = none :=
  (abandonLift_keeps (fun b => b.craneClaim c) (fun _ _ => rfl) b c).trans (releaseCraneClaim_same ..)

theorem abandonLift_crane_same : (abandonLift b c).crane c = { (b.crane c).emptied with work := .idle, starveStart := none } := by
  have kept : ((givenBack b c).modTickets (b.crane c).lift
      (abandonTicketPart (b.lastAttempt c) (b.crane c).halt b.nowSecs)).crane c = b.crane c :=
    givenBack_keeps (fun b => b.crane c) (fun _ => rfl) (fun _ _ => rfl) b
  rw [abandonLift_keeps (fun b => b.crane c) fun _ _ => rfl]
  show (releaseCraneClaim (givenUp b c) c).cranes[c] = _
  rw [releaseCraneClaim_cranes]
  show (givenUp b c).crane c = _
  rw [givenUp, Berth.crane_modCrane, kept]
  rfl

theorem abandonLift_nu : (abandonLift b c).nu.raw =
    b.nu.raw ||| liftFault ||| (if b.lastAttempt c then ticketFailed else 0) := by
  have kept : (abandoned b c).nu.raw = b.nu.raw := by
    show (releaseCraneClaim (givenUp b c) c).nu.raw = _
    rw [releaseCraneClaim_nu]
    exact givenBack_keeps (fun b => b.nu.raw) (fun _ => rfl) (fun _ _ => rfl) b
  rw [← kept, abandonLift_eq]
  split
  · rfl
  · exact (BitVec.or_zero).symm

theorem abandonLift_ltu : (abandonLift b c).ltu =
    { b.ltu with reserved := if b.liftReserved c then b.ltu.reserved - 1 else b.ltu.reserved } := by
  rw [abandonLift_keeps (fun b => b.ltu) fun _ _ => rfl, ← givenBack_ltu]
  exact releaseCraneClaim_ltu ..

theorem abandonLift_stand (d : Crane) : (abandonLift b c).stand d = (abandonTruck b c).stand d := by
  rw [abandonLift_keeps (fun b => b.stand d) fun _ _ => rfl, ← givenBack_stand]
  show (releaseCraneClaim (givenUp b c) c).shu.stands[d] = _
  rw [releaseCraneClaim_shu]
  rfl

theorem abandonLift_elsewhere {d : Crane} (h : d ≠ c) : (abandonLift b c).craneClaim d = b.craneClaim d
    ∧ (abandonLift b c).crane d = b.crane d ∧ (abandonLift b c).stand d = b.stand d := by
  refine ⟨?_, ?_, ?_⟩
  · rw [abandonLift_keeps (fun b => b.craneClaim d) fun _ _ => rfl]
    exact (releaseCraneClaim_other _ _ _ h).trans
      (givenBack_keeps (fun b => b.craneClaim d) (fun _ => rfl) (fun _ _ => rfl) b)
  · rw [abandonLift_keeps (fun b => b.crane d) fun _ _ => rfl]
    show (releaseCraneClaim (givenUp b c) c).cranes[d] = _
    rw [releaseCraneClaim_cranes]
    exact (Berth.crane_modCrane_other _ _ _ _ h).trans
      (givenBack_keeps (fun b => b.crane d) (fun _ => rfl) (fun _ _ => rfl) b)
  · rw [abandonLift_stand, (abandonTruck_standOnly b c).others h]

/-- R39: CRANE is the reason that an abandoned ticket back in PENDING has already. -/
theorem abandonTicketPart_reason (fails halt : Bool) (now : Secs) (t : Ticket) (q : Bool) :
    (if q && (abandonTicketPart fails halt now t).state == .pending then
      { abandonTicketPart fails halt now t with reason := .crane } else abandonTicketPart fails halt now t)
      = abandonTicketPart fails halt now t := by
  split
  · next pending =>
    have back : abandonState fails halt = .pending := beq_iff_eq.1 (Bool.and_eq_true_iff.1 pending).2
    simp [abandonTicketPart, Ticket.mark, Ticket.leave, back]
  · rfl

theorem abandonLift_mem {t : Ticket} (mem : t ∈ b.tickets) (lifted : (b.crane c).lift.contains t.number = true) :
    abandonTicketPart (b.lastAttempt c) (b.crane c).halt b.nowSecs t ∈ (abandonLift b c).tickets := by
  rw [abandonLift_keeps (fun b => b.tickets) fun _ _ => rfl]
  have kept : (givenBack b c).tickets = b.tickets := givenBack_keeps (fun b => b.tickets) (fun _ => rfl) (fun _ _ => rfl) b
  refine List.mem_map.2 ⟨_, ?_, abandonTicketPart_reason ..⟩
  rw [releaseCraneClaim_tickets]
  exact List.mem_map.2 ⟨t, kept ▸ mem, if_pos lifted⟩

theorem count_attempts (t : Ticket) : t.count.attempts.val = min 7 (t.attempts.val + 1) := by
  unfold Ticket.count
  dsimp only
  split
  · dsimp only; omega
  · show 7 = _; omega

theorem abandonTicketPart_eq (fails halt : Bool) (now : Secs) (t : Ticket) : let u := abandonTicketPart fails halt now t
    u = { t with
      attempts := u.attempts, truck := none, lane := none
      state := if fails then .failed else if halt then .held else .pending
      reason := if fails = false ∧ halt = false then .crane else .none
      lashState := if t.lashState = .reserved then .notNeeded else t.lashState
      doneAt := if fails then some now else t.doneAt
      marks := { t.marks with fault := true, halted := t.marks.halted || (!fails && halt) } } := by
  cases fails <;> cases halt <;> rfl

/-! ## The obligation -/

/-- Settles O48, one lemma per field of the record a lock-on, a landing or an abandon leaves. -/
theorem liftRecords : Obligations.LiftRecords := by
  unfold Obligations.LiftRecords
  refine ⟨fun b c => ?_, fun b c k => ?_, fun b bay => ?_, fun b c bay ns => ?_, fun b c => ?_⟩
  · refine ⟨lockOn_keeps (·.bct) (fun _ _ _ _ _ => rfl) b c, lockOn_keeps (·.qlc) (fun _ _ _ _ _ => rfl) b c,
      lockOn_keeps (·.nu) (fun _ _ _ _ _ => rfl) b c, lockOn_crane (·.work) (fun _ _ => rfl) b c,
      lockOn_crane (·.due) (fun _ _ => rfl) b c, lockOn_crane (·.lift) (fun _ _ => rfl) b c,
      lockOn_crane (·.position) (fun _ _ => rfl) b c, lockOn_keeps (·.tickets) (fun _ _ _ _ _ => rfl) b c, ?_,
      fun d other => lockOn_elsewhere b other⟩
    simp only [lockOn_stand, lockOnLoad_eq]
  · refine ⟨land_claim_same b c k, ?_, ?_, land_nu b c k, ?_, fun d other => land_elsewhere b c k other,
      fun keep t mem lifted => ?_, fun retire n lifted => land_gone retire lifted, fun keep => ?_⟩
    · rw [land_crane_same]; split <;> rfl
    · rw [land_crane_same]
      simp only [Bool.and_eq_true, beq_iff_eq, Bool.not_eq_true', and_assoc]
      split <;> rfl
    · rw [land_stand, landOnTruck_stand]
    · obtain ⟨u, hu, l, j, rfl⟩ := landed_mem (k := k) mem lifted
      rw [land_kept keep]
      exact ⟨_, hu, rfl, rfl, rfl, rfl, rfl, rfl, rfl⟩
    · rw [land_kept keep]
      exact ⟨landed_ltu_idle, fun bay lashing grant => ⟨landed_ltu_linked lashing grant,
        fun t mem reserved j task => ⟨_, landed_linked mem reserved grant task, rfl, rfl, rfl, rfl⟩⟩⟩
  · simp only [← mem_openLashes]
    exact ⟨joinableLash_none b bay, fun t h => firstLeast_mem _ h, fun t mem first => joinableLash_earliest mem first⟩
  · exact ⟨fun x join => ⟨linkLash_tickets (Or.inl ⟨x, join, rfl⟩), linkLash_join_ltu join⟩,
      fun j none_ slot => ⟨linkLash_tickets (Or.inr ⟨none_, slot⟩), linkLash_created none_ slot⟩⟩
  · exact ⟨abandonLift_claim_same b c, abandonLift_crane_same b c, abandonLift_nu b c, abandonLift_ltu b c,
      fun d other => abandonLift_elsewhere b c other, (abandonLift_stand b c c).trans (abandonTruck_stand b c),
      fun t mem lifted => ⟨_, abandonLift_mem b c mem lifted, count_attempts t, abandonTicketPart_eq ..⟩⟩

end Sys2Proof.Machine

/-! # What the read windows show (O6) -/

namespace Sys2Proof.Machine

/-! ## Windows -/

theorem byteAt_take {n i : Nat} (h : i < n) (l : List Byte) : byteAt (l.take n) i = byteAt l i := by
  simp [byteAt, h]

theorem byteAt_zeros (n i : Nat) : byteAt (zeros n) i = 0 := by
  unfold byteAt zeros
  rw [List.getD_eq_getElem?_getD, List.getElem?_replicate]
  split <;> rfl

theorem byteAt_append_left {l : List Byte} {i : Nat} (h : i < l.length) (r : List Byte) : byteAt (l ++ r) i = byteAt l i := by
  simp [byteAt, List.getElem?_append_left h]

theorem byteAt_append_right {l : List Byte} {i : Nat} (h : l.length ≤ i) (r : List Byte) :
    byteAt (l ++ r) i = byteAt r (i - l.length) := by
  simp [byteAt, List.getElem?_append_right h]

theorem byteAt_beyond {l : List Byte} {i : Nat} (h : l.length ≤ i) : byteAt l i = 0 := by
  simp [byteAt, List.getElem?_eq_none h]

/-- R221: within the window a byte is the content's, or zero. -/
theorem byteAt_window {n i : Nat} (h : i < n) (l : List Byte) : byteAt (window n l) i = byteAt l i := by
  rw [window, byteAt_take h]
  by_cases inside : i < l.length
  · exact byteAt_append_left inside _
  · rw [byteAt_append_right (Nat.le_of_not_lt inside), byteAt_zeros, byteAt_beyond (Nat.le_of_not_lt inside)]

theorem word16At_window {n i : Nat} (h : i + 1 < n) (l : List Byte) : word16At (window n l) i = word16At l i := by
  unfold word16At
  rw [byteAt_window h, byteAt_window (Nat.lt_of_succ_lt h)]

theorem word24At_window {n i : Nat} (h : i + 2 < n) (l : List Byte) : word24At (window n l) i = word24At l i := by
  unfold word24At
  rw [byteAt_window h, byteAt_window (by omega), byteAt_window (by omega)]

theorem word32At_window {n i : Nat} (h : i + 3 < n) (l : List Byte) : word32At (window n l) i = word32At l i := by
  unfold word32At
  rw [word16At_window (by omega), word16At_window (by omega)]

theorem slice_take {n i k : Nat} (h : i + k ≤ n) (l : List Byte) : slice (l.take n) i k = slice l i k := by
  unfold slice
  rw [List.drop_take, List.take_take, Nat.min_eq_left (by omega)]

theorem slice_append_left {l : List Byte} {i k : Nat} (h : i + k ≤ l.length) (r : List Byte) :
    slice (l ++ r) i k = slice l i k := by
  unfold slice
  rw [List.drop_append_of_le_length (by omega), List.take_append_of_le_length (by simp; omega)]

theorem slice_append_right (l r : List Byte) (i k : Nat) : slice (l ++ r) (l.length + i) k = slice r i k := by
  unfold slice
  rw [← List.drop_drop, List.drop_left]

theorem slice_window {n i k : Nat} {l : List Byte} (inside : i + k ≤ l.length) (h : i + k ≤ n) :
    slice (window n l) i k = slice l i k := by
  rw [window, slice_take h, slice_append_left inside]

theorem drop_window {n i : Nat} {l : List Byte} (h : l.length ≤ i) : (window n l).drop i = zeros (n - i) := by
  unfold window zeros
  rw [List.drop_take, List.drop_append, List.drop_eq_nil_of_le h, List.nil_append, List.drop_replicate, List.take_replicate]
  congr 1
  omega

theorem window_length (n : Nat) (l : List Byte) : (window n l).length = n := by
  simp [window, zeros]

/-- A part of a window that stands between others. -/
theorem slice_part {n i k : Nat} {a m : List Byte} (start : a.length = i) (long : m.length = k) (r : List Byte) (h : i + k ≤ n) :
    slice (window n (a ++ (m ++ r))) i k = m := by
  subst start long
  rw [slice_window (by simp) h, slice, List.drop_left, List.take_left]

theorem byteAt_slice {i j k : Nat} (h : j < k) (l : List Byte) : byteAt (slice l i k) j = byteAt l (i + j) := by
  rw [slice, byteAt_take h]
  simp [byteAt]

theorem word16At_slice {i j k : Nat} (h : j + 1 < k) (l : List Byte) : word16At (slice l i k) j = word16At l (i + j) := by
  unfold word16At
  rw [byteAt_slice h, byteAt_slice (Nat.lt_of_succ_lt h), Nat.add_assoc]

theorem word24At_slice {i j k : Nat} (h : j + 2 < k) (l : List Byte) : word24At (slice l i k) j = word24At l (i + j) := by
  unfold word24At
  rw [byteAt_slice h, byteAt_slice (by omega), byteAt_slice (by omega)]
  rfl

theorem slice_slice {i j k n : Nat} (h : j + k ≤ n) (l : List Byte) : slice (slice l i n) j k = slice l (i + j) k := by
  rw [slice, slice, ← slice, slice_take h, slice, slice, List.drop_drop]

/-! ## Blocks of one length -/

section

variable {α : Type} {f : α → List Byte} {k : Nat} (long : ∀ x, (f x).length = k)
include long

theorem flatMap_length (l : List α) : (l.flatMap f).length = k * l.length := by
  simp [List.length_flatMap, long, Nat.mul_comm]

theorem slice_flatMap {l : List α} {i : Nat} {x : α} (h : l[i]? = some x) (rest : List Byte) :
    slice (l.flatMap f ++ rest) (k * i) k = f x := by
  induction l generalizing i with
  | nil => simp at h
  | cons y ys ih =>
    rw [List.flatMap_cons, List.append_assoc]
    cases i with
    | zero =>
      have first : y = x := by simpa using h
      rw [first, Nat.mul_zero, slice, List.drop_zero, List.take_left' (long x)]
    | succ i =>
      have later : k * (i + 1) = (f y).length + k * i := by rw [long, Nat.mul_succ, Nat.add_comm]
      rw [slice, later, ← List.drop_drop, List.drop_left]
      exact ih (by simpa using h)

end

/-! ## Names in windows -/

@[simp] theorem craneOf?_finByte (c : Crane) : craneOf? (finByte c) = some c := by revert c; decide

@[simp] theorem gangOf?_finByte (g : Gang) : gangOf? (finByte g) = some g := by revert g; decide

@[simp] theorem stationOf?_finByte (s : Station) : stationOf? (finByte s) = some s := by revert s; decide

theorem craneOf?_none {x : Byte} (h : 8 ≤ x.toNat) : craneOf? x = none := dif_neg (Nat.not_lt.2 h)

theorem gangOf?_none {x : Byte} (h : 4 ≤ x.toNat) : gangOf? x = none := dif_neg (Nat.not_lt.2 h)

theorem stationOf?_none {x : Byte} (h : 16 ≤ x.toNat) : stationOf? x = none := dif_neg (Nat.not_lt.2 h)

/-! ## Tickets and cranes -/

theorem exists_bytes11 {l : List Byte} (h : l.length = 11) : ∃ a b c d e f g i j k m, l = [a, b, c, d, e, f, g, i, j, k, m] := by
  match l, h with
  | [a, b, c, d, e, f, g, i, j, k, m], _ => exact ⟨a, b, c, d, e, f, g, i, j, k, m, rfl⟩

theorem getD_length {o : Option ContainerId} (h : ∀ id, o = some id → id.length = 11) : (o.getD (zeros 11)).length = 11 := by
  cases o with
  | none => rfl
  | some id => exact h id rfl

theorem ticketWindow_fields {b : Berth} {n : TicketNo} {t : Ticket} (named : b.ticket? n = some t)
    (ids : ∀ id, t.container = some id → id.length = 11) : let w := ticketWindow b n
    word16At w 0 = n ∧ byteAt w 2 = finByte t.crane ∧ byteAt w 3 = t.state.code ∧ word16At w 4 = t.seq
    ∧ byteAt w 6 = t.kind.code ∧ byteAt w 7 = t.size.code ∧ byteAt w 8 = t.bay ∧ byteAt w 9 = t.row
    ∧ byteAt w 10 = t.tier ∧ byteAt w 11 = t.level.code ∧ byteAt w 12 = finByte t.priority
    ∧ byteAt w 13 = boolByte t.oneShot ∧ byteAt w 14 = t.lash.code ∧ byteAt w 15 = t.lashState.code
    ∧ word16At w 16 = t.partner.getD 0 ∧ slice w 18 11 = t.container.getD (zeros 11) ∧ byteAt w 29 = t.marks.code
    ∧ byteAt w 30 = t.reason.code ∧ byteAt w 31 = finByte t.attempts ∧ word24At w 32 = t.truck.getD 0
    ∧ byteAt w 35 = laneByte t.lane ∧ word16At w 36 = t.task.getD 0xFFFF ∧ word32At w 38 = t.deadline.getD 0xFFFFFFFF
    ∧ word32At w 42 = t.releasedAt.getD 0xFFFFFFFF ∧ word32At w 46 = t.grantedAt.getD 0xFFFFFFFF
    ∧ word32At w 50 = t.doneAt.getD 0xFFFFFFFF ∧ w.drop 54 = zeros 10 := by
  obtain ⟨c0, c1, c2, c3, c4, c5, c6, c7, c8, c9, c10, id⟩ := exists_bytes11 (getD_length ids)
  have number := Berth.ticket?_number named
  subst number
  rw [ticketWindow, named, Option.elim_some, Ticket.windowBytes, containerBytes, id]
  simp (disch := decide) only [byteAt_window, word16At_window, word24At_window, word32At_window]
  simp only [bytes16, bytes24, bytes32, ticketBytes, tagBytes, secsBytes, taskBytes, List.cons_append, List.nil_append]
  exact ⟨bytes16_join _, rfl, rfl, bytes16_join _, rfl, rfl, rfl, rfl, rfl, rfl, rfl, rfl, rfl, rfl,
    bytes16_join _, rfl, rfl, rfl, rfl, bytes24_join _, rfl, bytes16_join _, bytes32_join _, bytes32_join _, bytes32_join _,
    bytes32_join _, rfl⟩

/-- A quay time is five bytes: all ones where it is absent. -/
theorem qtimeBytes_explicit (o : Option QTime) : ∃ a b c d e, qtimeBytes o = [a, b, c, d, e]
    ∧ (∀ q, o = some q → [a, b, c, d] = bytes32 q.secs ∧ e = q.six.setWidth 8) ∧ (o = none → [a, b, c, d, e] = ones 5) := by
  cases o with
  | none => exact ⟨_, _, _, _, _, rfl, nofun, fun _ => rfl⟩
  | some q => exact ⟨_, _, _, _, _, rfl, fun _ h => Option.some.inj h ▸ ⟨rfl, rfl⟩, nofun⟩

theorem word32_of_bytes {a b c d : Byte} {x : BitVec 32} (h : [a, b, c, d] = bytes32 x) :
    ((a ++ b : BitVec 16) ++ (c ++ d : BitVec 16) : BitVec 32) = x := by
  cases h
  exact bytes32_join x

theorem craneWindow_fields (b : Berth) (c : Crane) : let w := craneWindow b (finByte c); let r := b.crane c
    byteAt w 0 = r.work.code ∧ byteAt w 1 = r.control.code ∧ byteAt w 2 = r.seqMode.code
    ∧ byteAt w 3 = boolByte r.oneShot ∧ byteAt w 4 = boolByte r.halt ∧ byteAt w 5 = boolByte (b.online (craneStation c))
    ∧ word16At w 6 = r.grantTicket.getD 0 ∧ word16At w 8 = r.grantPartner.getD 0 ∧ byteAt w 10 = r.grantBay.getD 0
    ∧ word24At w 11 = r.grantTruck.getD 0 ∧ byteAt w 14 = laneByte r.grantLane
    ∧ (∀ q, r.due = some q → word32At w 15 = q.secs ∧ byteAt w 19 = q.six.setWidth 8)
    ∧ (r.due = none → slice w 15 5 = ones 5)
    ∧ word16At w 20 = (r.lastExpired.map (·.1)).getD 0 ∧ word16At w 22 = (r.lastExpired.bind (·.2)).getD 0
    ∧ byteAt w 24 = r.position
    ∧ (∀ q, r.starveStart = some q → word32At w 25 = q.secs ∧ byteAt w 29 = q.six.setWidth 8)
    ∧ (r.starveStart = none → slice w 25 5 = ones 5) ∧ byteAt w 30 = boolByte r.starveReported ∧ byteAt w 31 = 0 := by
  obtain ⟨d0, d1, d2, d3, d4, due, dueSome, dueNone⟩ := qtimeBytes_explicit (b.crane c).due
  obtain ⟨s0, s1, s2, s3, s4, starve, starveSome, starveNone⟩ := qtimeBytes_explicit (b.crane c).starveStart
  simp only [craneWindow, craneOf?_finByte, due, starve]
  simp (disch := decide) only [byteAt_window, word16At_window, word24At_window, word32At_window]
  simp only [bytes16, bytes24, ticketBytes, tagBytes, bayByte, List.cons_append, List.nil_append]
  exact ⟨rfl, rfl, rfl, rfl, rfl, rfl, bytes16_join _, bytes16_join _, rfl, bytes24_join _, rfl,
    fun q h => ⟨word32_of_bytes (dueSome q h).1, (dueSome q h).2⟩, dueNone, bytes16_join _, bytes16_join _, rfl,
    fun q h => ⟨word32_of_bytes (starveSome q h).1, (starveSome q h).2⟩, starveNone, rfl, rfl⟩

end Sys2Proof.Machine

/-! # Stand, holding and gang windows (O6) -/

namespace Sys2Proof.Machine

/-! ## Cargo places -/

/-- The two cargo places of a truck whose identifiers are well formed. -/
theorem cargo_explicit {l : List ContainerId} (ids : ∀ id ∈ l, id.length = 11) :
    (l.head?.getD (zeros 11)).length = 11 ∧ (l.tail.head?.getD (zeros 11)).length = 11 :=
  ⟨getD_length fun id h => ids id (List.mem_of_mem_head? h),
    getD_length fun id h => ids id (List.mem_of_mem_tail (List.mem_of_mem_head? h))⟩

/-! ## Stands (11.3) -/

theorem spotBlock_length {b : Berth} {c : Crane} (ids : ∀ u ∈ b.stand c, ∀ id ∈ u.cargo, id.length = 11) (l : Lane) :
    (spotBlock b c l).length = 40 := by
  unfold spotBlock
  split
  · rfl
  · next t found =>
    obtain ⟨first, second⟩ := cargo_explicit (ids t (List.mem_of_find?_eq_some found))
    simp only [cargoBytes, List.length_append, first, second]
    rfl

theorem spotBlock_none {b : Berth} {c : Crane} {l : Lane} (h : ∀ u ∈ b.stand c, u.lane ≠ some l) :
    spotBlock b c l = zeros 40 := by
  have none_ : (b.stand c).find? (fun t => t.lane == some l) = none := List.find?_eq_none.2 fun u hu => by simpa using h u hu
  simp only [spotBlock, none_]

theorem spotBlock_fields {b : Berth} {c : Crane} {l : Lane} {t : Truck}
    (found : (b.stand c).find? (fun u => u.lane == some l) = some t) (ids : ∀ id ∈ t.cargo, id.length = 11) :
    let k := spotBlock b c l
    word24At k 0 = t.tag ∧ byteAt k 3 = t.chassis.code ∧ byteAt k 4 = natByte t.cargo.length
    ∧ slice k 5 11 = t.cargo.head?.getD (zeros 11) ∧ slice k 16 11 = t.cargo.tail.head?.getD (zeros 11)
    ∧ byteAt k 27 = boolByte t.unverified ∧ byteAt k 28 = boolByte t.priority ∧ byteAt k 29 = t.state.code
    ∧ word32At k 30 = t.joinedAt ∧ word32At k 34 = t.arrivedAt
    ∧ byteAt k 38 = natByte (placeOf (fun u => u.stay == t.stay) (b.stand c)) ∧ byteAt k 39 = boolByte (b.promoting t.tag) := by
  obtain ⟨first, second⟩ := cargo_explicit ids
  obtain ⟨c0, c1, c2, c3, c4, c5, c6, c7, c8, c9, c10, first⟩ := exists_bytes11 first
  obtain ⟨d0, d1, d2, d3, d4, d5, d6, d7, d8, d9, d10, second⟩ := exists_bytes11 second
  simp only [spotBlock, found, cargoBytes, first, second, bytes24, bytes32, List.cons_append, List.nil_append]
  exact ⟨bytes24_join _, rfl, rfl, rfl, rfl, rfl, rfl, rfl, bytes32_join _, bytes32_join _, rfl, rfl⟩

theorem allLanes_getElem? (l : Lane) : allLanes[l.val]? = some l := by revert l; decide

section

variable {b : Berth} {c : Crane} (ids : ∀ u ∈ b.stand c, ∀ id ∈ u.cargo, id.length = 11)
include ids

theorem spotBlocks_length : (allLanes.flatMap (spotBlock b c)).length = 240 := flatMap_length (spotBlock_length ids) allLanes

theorem standWindow_block (l : Lane) : slice (standWindow b (finByte c)) (40 * l.val) 40 = spotBlock b c l := by
  have bound := l.isLt
  simp only [standWindow, craneOf?_finByte]
  rw [slice_window (by rw [List.length_append, spotBlocks_length ids]; omega) (by omega)]
  exact slice_flatMap (spotBlock_length ids) (allLanes_getElem? l) _

theorem standWindow_tail : let w := standWindow b (finByte c)
    byteAt w 240 = finByte c ∧ byteAt w 241 = b.params.laneSets[c].setWidth 8
    ∧ byteAt w 242 = b.shu.openLanes.setWidth 8 ∧ byteAt w 243 = natByte (b.stand c).length ∧ w.drop 244 = zeros 12 := by
  have long := spotBlocks_length ids
  simp only [standWindow, craneOf?_finByte]
  refine ⟨?_, ?_, ?_, ?_, drop_window (by simp [long])⟩ <;>
  · rw [byteAt_window (by decide), byteAt_append_right (by simp [long]), long]
    rfl

end

theorem standWindow_fields {b : Berth} {c : Crane} (ids : ∀ u ∈ b.stand c, ∀ id ∈ u.cargo, id.length = 11) (l : Lane) :
    let k := slice (standWindow b (finByte c)) (40 * l.val) 40
    ((∀ u ∈ b.stand c, u.lane ≠ some l) → k = zeros 40)
    ∧ ∀ t, (b.stand c).find? (fun u => u.lane == some l) = some t →
      word24At k 0 = t.tag ∧ byteAt k 3 = t.chassis.code ∧ byteAt k 4 = natByte t.cargo.length
      ∧ slice k 5 11 = t.cargo.head?.getD (zeros 11) ∧ slice k 16 11 = t.cargo.tail.head?.getD (zeros 11)
      ∧ byteAt k 27 = boolByte t.unverified ∧ byteAt k 28 = boolByte t.priority ∧ byteAt k 29 = t.state.code
      ∧ word32At k 30 = t.joinedAt ∧ word32At k 34 = t.arrivedAt
      ∧ byteAt k 38 = natByte (placeOf (fun u => u.stay == t.stay) (b.stand c)) ∧ byteAt k 39 = boolByte (b.promoting t.tag) := by
  rw [standWindow_block ids]
  exact ⟨spotBlock_none, fun t found => spotBlock_fields found (ids t (List.mem_of_find?_eq_some found))⟩

/-! ## The holding area (11.3) -/

theorem holdingWindow_none {b : Berth} {x : Byte} (h : x = 0 ∨ b.shu.holding.length < x.toNat) : holdingWindow b x =
    window 48 [x, natByte b.shu.holding.length, natByte b.promotingCount, natByte b.params.holdDepth] := by
  have absent : (if x = 0 then none else b.shu.holding[x.toNat - 1]?) = none := by
    split
    · rfl
    · next named => exact List.getElem?_eq_none (by have := h.resolve_left named; omega)
  simp only [holdingWindow, absent]

theorem holdingWindow_some {b : Berth} {x : Byte} {t : Truck} (named : x ≠ 0) (h : b.shu.holding[x.toNat - 1]? = some t) :
    holdingWindow b x = window 48 ([x, natByte b.shu.holding.length, natByte b.promotingCount, natByte b.params.holdDepth]
      ++ bytes24 t.tag ++ [t.chassis.code, natByte t.cargo.length] ++ cargoBytes t.cargo
      ++ [boolByte t.unverified, boolByte t.priority] ++ bytes32 t.arrivedAt ++ bytes32 t.joinedAt ++ [t.targets]) := by
  simp only [holdingWindow, if_neg named, h]

theorem holdingWindow_head (b : Berth) (x : Byte) : ∃ rest, holdingWindow b x = window 48
    ([x, natByte b.shu.holding.length, natByte b.promotingCount, natByte b.params.holdDepth] ++ rest) := by
  unfold holdingWindow
  dsimp only
  split
  · exact ⟨[], by rw [List.append_nil]⟩
  · exact ⟨_, by simp only [List.append_assoc]; rfl⟩

theorem holdingWindow_fields (b : Berth) (x : Byte) : let w := holdingWindow b x
    byteAt w 0 = x ∧ byteAt w 1 = natByte b.shu.holding.length ∧ byteAt w 2 = natByte b.promotingCount
    ∧ byteAt w 3 = natByte b.params.holdDepth ∧ (x = 0 ∨ b.shu.holding.length < x.toNat → w.drop 4 = zeros 44)
    ∧ ∀ t, x ≠ 0 → b.shu.holding[x.toNat - 1]? = some t → (∀ id ∈ t.cargo, id.length = 11) →
      word24At w 4 = t.tag ∧ byteAt w 7 = t.chassis.code ∧ byteAt w 8 = natByte t.cargo.length
      ∧ slice w 9 11 = t.cargo.head?.getD (zeros 11) ∧ slice w 20 11 = t.cargo.tail.head?.getD (zeros 11)
      ∧ byteAt w 31 = boolByte t.unverified ∧ byteAt w 32 = boolByte t.priority ∧ word32At w 33 = t.arrivedAt
      ∧ word32At w 37 = t.joinedAt ∧ byteAt w 41 = t.targets ∧ w.drop 42 = zeros 6 := by
  obtain ⟨rest, head⟩ := holdingWindow_head b x
  refine ⟨?_, ?_, ?_, ?_, fun absent => ?_, fun t named place ids => ?_⟩
  · rw [head, byteAt_window (by decide)]; rfl
  · rw [head, byteAt_window (by decide)]; rfl
  · rw [head, byteAt_window (by decide)]; rfl
  · rw [head, byteAt_window (by decide)]; rfl
  · rw [holdingWindow_none absent]; rfl
  · obtain ⟨first, second⟩ := cargo_explicit ids
    obtain ⟨c0, c1, c2, c3, c4, c5, c6, c7, c8, c9, c10, first⟩ := exists_bytes11 first
    obtain ⟨d0, d1, d2, d3, d4, d5, d6, d7, d8, d9, d10, second⟩ := exists_bytes11 second
    rw [holdingWindow_some named place]
    simp (disch := decide) only [byteAt_window, word24At_window, word32At_window]
    simp only [cargoBytes, first, second, bytes24, bytes32, List.cons_append, List.nil_append]
    exact ⟨bytes24_join _, rfl, rfl, rfl, rfl, rfl, rfl, bytes32_join _, bytes32_join _, rfl, rfl⟩

/-! ## Gangs (11.3) -/

theorem listPlace_length (b : Berth) (n : Option TaskNo) : (listPlace b n).length = 3 := by
  cases n <;> rfl

/-- The eight list places of a gang window. -/
def Berth.listPlaces (b : Berth) (g : Gang) : List Byte :=
  [0, 1, 2, 3, 4, 5, 6, 7].flatMap fun i => listPlace b (b.gang g).tasks[i]?

theorem listPlaces_length (b : Berth) (g : Gang) : (b.listPlaces g).length = 24 :=
  flatMap_length (fun i : Nat => listPlace_length b (b.gang g).tasks[i]?) _

theorem gangWindow_split (b : Berth) (g : Gang) : gangWindow b (finByte g) =
    window 40 ([finByte g, boolByte (b.gang g).onDuty, (b.gang g).activity.code, boolByte (b.gang g).reliefDue, (b.gang g).served,
        (b.gang g).roster.setWidth 8, boolByte (b.online (gangStation g)), natByte (b.gang g).tasks.length]
      ++ (b.listPlaces g ++ [((b.gangClaim g).map (·.bay)).getD 0, ((b.gangClaim g).map (·.standing.code)).getD 0])) := by
  simp only [gangWindow, gangOf?_finByte, List.append_assoc, Berth.listPlaces]

theorem gangWindow_place (b : Berth) (g : Gang) (i : Fin 8) :
    slice (gangWindow b (finByte g)) (8 + 3 * i.val) 3 = listPlace b (b.gang g).tasks[i.val]? := by
  have long (j : Nat) := listPlace_length b (b.gang g).tasks[j]?
  have index : ([0, 1, 2, 3, 4, 5, 6, 7] : List Nat)[i.val]? = some i.val := by revert i; decide
  have bound := i.isLt
  rw [gangWindow_split, slice_window (by simp [listPlaces_length]; omega) (by omega), slice, ← List.drop_drop]
  exact slice_flatMap long index _

theorem gangWindow_fields (b : Berth) (g : Gang) : let w := gangWindow b (finByte g); let r := b.gang g
    byteAt w 0 = finByte g ∧ byteAt w 1 = boolByte r.onDuty ∧ byteAt w 2 = r.activity.code
    ∧ byteAt w 3 = boolByte r.reliefDue ∧ byteAt w 4 = r.served ∧ byteAt w 5 = r.roster.setWidth 8
    ∧ byteAt w 6 = boolByte (b.online (gangStation g)) ∧ byteAt w 7 = natByte r.tasks.length
    ∧ byteAt w 32 = ((b.gangClaim g).map (·.bay)).getD 0 ∧ byteAt w 33 = ((b.gangClaim g).map (·.standing.code)).getD 0
    ∧ w.drop 34 = zeros 6 := by
  have long := listPlaces_length b g
  rw [gangWindow_split]
  refine ⟨?_, ?_, ?_, ?_, ?_, ?_, ?_, ?_, ?_, ?_, drop_window (by simp [long])⟩
  iterate 8 rw [byteAt_window (by decide)]; rfl
  iterate 2
    rw [byteAt_window (by decide), byteAt_append_right (by simp), byteAt_append_right (by rw [long]; simp), long]
    rfl

theorem gangWindow_tasks (b : Berth) (g : Gang) (i : Fin 8) : let w := gangWindow b (finByte g); let r := b.gang g
    (r.tasks[i.val]? = none → slice w (8 + 3 * i.val) 3 = ones 3)
    ∧ ∀ n t, r.tasks[i.val]? = some n → b.task? n = some t →
      word16At w (8 + 3 * i.val) = n ∧ byteAt w (10 + 3 * i.val) = t.state.code := by
  have place := gangWindow_place b g i
  refine ⟨fun none_ => by rw [place, none_]; rfl, fun n t listed named => ?_⟩
  have block : slice (gangWindow b (finByte g)) (8 + 3 * i.val) 3 = bytes16 n ++ [t.state.code] := by
    rw [place, listed, listPlace, named]; rfl
  refine ⟨?_, ?_⟩
  · rw [← Nat.add_zero (8 + 3 * i.val), ← word16At_slice (k := 3) (by decide), block]
    exact bytes16_join n
  · rw [show 10 + 3 * i.val = 8 + 3 * i.val + 2 by omega, ← byteAt_slice (k := 3) (by decide), block]
    rfl

end Sys2Proof.Machine

/-! # Task, claims and station windows (O6) -/

namespace Sys2Proof.Machine

/-! ## Tasks (R118) -/

/-- The first gang, in the order of their numbers, whose list holds a task. -/
theorem holder_first {b : Berth} {n : TaskNo} {g : Gang} (mem : n ∈ (b.gang g).tasks)
    (before : ∀ h, h < g → n ∉ (b.gang h).tasks) : b.holder n = some g := by
  have split : ∀ g : Gang, allGangs = allGangs.take g.val ++ g :: allGangs.drop (g.val + 1) := by decide
  have lower : ∀ g : Gang, ∀ h ∈ allGangs.take g.val, h < g := by decide
  exact List.find?_eq_some_iff_append.2 ⟨by simpa using mem, _, _, split g, fun h hh => by simpa using before h (lower g h hh)⟩

theorem holder_none {b : Berth} {n : TaskNo} (h : ∀ g, n ∉ (b.gang g).tasks) : b.holder n = none :=
  List.find?_eq_none.2 fun g _ => by simpa using h g

theorem placeOf_append {α : Type} {p : α → Bool} {xs : List α} {y : α} (before : ∀ x ∈ xs, p x = false) (here : p y = true)
    (ys : List α) : placeOf p (xs ++ y :: ys) = xs.length + 1 := by
  induction xs with
  | nil => simp [placeOf, here]
  | cons x xs ih =>
    have later := ih fun z hz => before z (List.mem_cons_of_mem _ hz)
    simp only [List.cons_append, placeOf, before x (by simp), later]
    rfl

variable {b : Berth} {n : TaskNo}

theorem taskWindow_beyond (h : b.sizes.taskSlots ≤ n.toNat) : taskWindow b n = ones 16 := if_neg (Nat.not_lt.2 h)

theorem taskWindow_free (slot : n.toNat < b.sizes.taskSlots) (h : b.task? n = none) : taskWindow b n = bytes16 n ++ zeros 14 := by
  simp only [taskWindow, if_pos slot, h]
  rfl

theorem taskWindow_used (slot : n.toNat < b.sizes.taskSlots) {t : Task} (h : b.task? n = some t) : taskWindow b n =
    window 16 (bytes16 n ++ [t.state.code, t.kind.code, t.bay, finByte t.crane] ++ nat16 t.linked ++ bytes32 t.created
      ++ [(b.holder n).elim 0xFF finByte,
        (b.holder n).elim 0 fun g => natByte (placeOf (fun m => m == n) (b.gang g).tasks)]) := by
  simp only [taskWindow, if_pos slot, h]

theorem taskWindow_fields (slot : n.toNat < b.sizes.taskSlots) {t : Task} (h : b.task? n = some t) : let w := taskWindow b n
    word16At w 0 = n ∧ byteAt w 2 = t.state.code ∧ byteAt w 3 = t.kind.code ∧ byteAt w 4 = t.bay
    ∧ byteAt w 5 = finByte t.crane ∧ word16At w 6 = BitVec.ofNat 16 t.linked ∧ word32At w 8 = t.created
    ∧ ((∀ g, n ∉ (b.gang g).tasks) → byteAt w 12 = 0xFF ∧ byteAt w 13 = 0)
    ∧ (∀ (g : Gang) (xs ys : List TaskNo), (∀ h, h < g → n ∉ (b.gang h).tasks) → (b.gang g).tasks = xs ++ n :: ys →
        n ∉ xs → byteAt w 12 = finByte g ∧ byteAt w 13 = natByte (xs.length + 1))
    ∧ w.drop 14 = zeros 2 := by
  rw [taskWindow_used slot h]
  simp (disch := decide) only [byteAt_window, word16At_window, word32At_window]
  simp only [bytes16, bytes32, nat16, List.cons_append, List.nil_append]
  refine ⟨bytes16_join _, rfl, rfl, rfl, rfl, bytes16_join _, bytes32_join _, fun none_ => ?_,
    fun g xs ys before list first => ?_, rfl⟩
  · rw [holder_none none_]; exact ⟨rfl, rfl⟩
  · have place : placeOf (fun m => m == n) (b.gang g).tasks = xs.length + 1 := by
      rw [list]
      exact placeOf_append (fun x hx => by simpa using fun e : x = n => first (e ▸ hx)) (by simp) ys
    rw [holder_first (by simp [list]) before, ← place]
    exact ⟨rfl, rfl⟩

/-! ## Claims (R80) -/

/-- The claims and the number of waiters. -/
def Berth.claimsHead (b : Berth) : List Byte :=
  (allCranes.map fun c => bayByte (b.craneClaim c)) ++ (allGangs.map fun g => ((b.gangClaim g).map (·.bay)).getD 0)
    ++ (allGangs.map fun g => ((b.gangClaim g).map (·.standing.code)).getD 0) ++ [natByte b.bct.waiters.length]

/-- A waiter as the claims window shows it. -/
def waiterBytes (w : Gang × Bay) : List Byte := [finByte w.1, w.2]

theorem waiterBytes_length (w : Gang × Bay) : (waiterBytes w).length = 2 := rfl

theorem claimsWindow_split (b : Berth) : claimsWindow b = window 32 (b.claimsHead
    ++ (window 8 (b.bct.waiters.flatMap waiterBytes) ++ [natByte b.params.clear, natByte b.params.deckMargin])) := by
  rw [← List.append_assoc]; rfl

theorem claimsHead_crane (b : Berth) (c : Crane) : byteAt b.claimsHead c.val = (b.craneClaim c).getD 0 := by
  fin_cases c <;> rfl

theorem claimsHead_gang (b : Berth) (g : Gang) : byteAt b.claimsHead (8 + g.val) = ((b.gangClaim g).map (·.bay)).getD 0
    ∧ byteAt b.claimsHead (12 + g.val) = ((b.gangClaim g).map (·.standing.code)).getD 0 := by
  fin_cases g <;> exact ⟨rfl, rfl⟩

theorem claimsWindow_head (b : Berth) {i : Nat} (h : i < 17) : byteAt (claimsWindow b) i = byteAt b.claimsHead i := by
  rw [claimsWindow_split, byteAt_window (by omega), byteAt_append_left h]

theorem claimsWindow_waiter (b : Berth) (i : Fin 4) :
    slice (claimsWindow b) (17 + 2 * i.val) 2 = slice (b.bct.waiters.flatMap waiterBytes ++ zeros 8) (2 * i.val) 2 := by
  have head : b.claimsHead.length = 17 := rfl
  have bound := i.isLt
  rw [claimsWindow_split, slice_window (by simp [head, window_length]; omega) (by omega), ← head, slice_append_right,
    slice_append_left (by rw [window_length]; omega), window, slice_take (by omega)]

theorem claimsWindow_waiters (b : Berth) (i : Fin 4) : let w := claimsWindow b
    (b.bct.waiters[i.val]? = none → slice w (17 + 2 * i.val) 2 = zeros 2)
    ∧ ∀ g x, b.bct.waiters[i.val]? = some (g, x) → slice w (17 + 2 * i.val) 2 = [finByte g, x] := by
  have bound := i.isLt
  dsimp only
  rw [claimsWindow_waiter]
  refine ⟨fun none_ => ?_, fun g x listed => slice_flatMap waiterBytes_length listed _⟩
  have short : (b.bct.waiters.flatMap waiterBytes).length ≤ 2 * i.val := by
    rw [flatMap_length waiterBytes_length]
    have := List.getElem?_eq_none_iff.1 none_
    omega
  rw [slice, List.drop_append, List.drop_eq_nil_of_le short, List.nil_append, zeros, List.drop_replicate, List.take_replicate,
    Nat.min_eq_left (by omega)]
  rfl

theorem claimsWindow_tail (b : Berth) : let w := claimsWindow b
    byteAt w 25 = natByte b.params.clear ∧ byteAt w 26 = natByte b.params.deckMargin ∧ w.drop 27 = zeros 5 := by
  have long : (b.claimsHead ++ window 8 (b.bct.waiters.flatMap waiterBytes)).length = 25 := by
    rw [List.length_append, window_length]; rfl
  rw [claimsWindow_split, ← List.append_assoc]
  refine ⟨?_, ?_, drop_window (by rw [List.length_append, long]; rfl)⟩ <;>
  · rw [byteAt_window (by decide), byteAt_append_right (by simp only [long]; decide), long]
    rfl

/-! ## Stations (R179; log 22) -/

theorem slotBytes_length (sl : Slot) : sl.bytes.length = 8 := by
  obtain ⟨current, upcoming⟩ := sl
  cases current <;> cases upcoming <;> rfl

theorem promoteBytes_length (b : Berth) (r : Role) : (promoteBytes b r).length = 5 := by
  cases r <;> rfl

/-- What a station window shows before the station's orders. -/
def Berth.stationHead (b : Berth) (st : Station) : List Byte :=
  [finByte st, (roleOf st).code, boolByte (b.station st).online, finByte (b.station st).fails, boolByte (b.station st).heard]

theorem stationWindow_split (b : Berth) (st : Station) : stationWindow b (finByte st) =
    window 24 (b.stationHead st ++ ((b.slotOf (roleOf st)).bytes ++ promoteBytes b (roleOf st))) := by
  simp only [stationWindow, stationOf?_finByte, List.append_assoc, Berth.stationHead]

theorem stationWindow_head (b : Berth) (st : Station) {i : Nat} (h : i < 5) :
    byteAt (stationWindow b (finByte st)) i = byteAt (b.stationHead st) i := by
  rw [stationWindow_split, byteAt_window (by omega), byteAt_append_left h]

theorem stationWindow_slot (b : Berth) (st : Station) :
    slice (stationWindow b (finByte st)) 5 8 = (b.slotOf (roleOf st)).bytes := by
  rw [stationWindow_split]
  exact slice_part (i := 5) rfl (slotBytes_length _) _ (by decide)

theorem stationWindow_promotes (b : Berth) (st : Station) :
    slice (stationWindow b (finByte st)) 13 5 = promoteBytes b (roleOf st) := by
  have start : (b.stationHead st ++ (b.slotOf (roleOf st)).bytes).length = 13 := by
    rw [List.length_append, slotBytes_length]; rfl
  have part := slice_part (n := 24) start (promoteBytes_length b (roleOf st)) [] (by decide)
  rw [List.append_nil] at part
  rw [stationWindow_split, ← List.append_assoc, part]

theorem stationWindow_drop (b : Berth) (st : Station) : (stationWindow b (finByte st)).drop 18 = zeros 6 := by
  rw [stationWindow_split]
  exact drop_window (by simp [Berth.stationHead, slotBytes_length, promoteBytes_length])

theorem roleOf_slotless {st : Station} (h : st = gateIn ∨ st = gateOut ∨ 14 ≤ st.val) :
    roleOf st ∈ [Role.gateIn, .gateOut, .unassigned, .self] := by revert st; decide

theorem eq_gateIn_of_roleOf {st : Station} (h : roleOf st = .gateIn) : st = gateIn := by revert st; decide

theorem slotOf_roleOf {b : Berth} {st : Station} {sl : Slot}
    (h : (∃ c, st = craneStation c ∧ sl = b.qlc.craneSlots[c]) ∨ (∃ g, st = gangStation g ∧ sl = b.qlc.gangSlots[g])
      ∨ ((st = gateIn ∨ st = gateOut ∨ 14 ≤ st.val) ∧ sl = Slot.empty)) : b.slotOf (roleOf st) = sl := by
  rcases h with ⟨c, rfl, rfl⟩ | ⟨g, rfl, rfl⟩ | ⟨slotless, rfl⟩
  · rw [roleOf_craneStation]; rfl
  · rw [roleOf_gangStation]; rfl
  · have roles := roleOf_slotless slotless
    simp only [List.mem_cons, List.not_mem_nil, or_false] at roles
    rcases roles with e | e | e | e <;> · rw [e]; rfl

theorem promoteBytes_elsewhere (b : Berth) {st : Station} (h : st ≠ gateIn) : promoteBytes b (roleOf st) = zeros 5 := by
  cases e : roleOf st with
  | gateIn => exact absurd (eq_gateIn_of_roleOf e) h
  | crane | gateOut | gang | unassigned | self => rfl

/-- The orders of a slot, at their places of the eight bytes. -/
theorem slotBytes_fields (sl : Slot) :
    (sl.current = none → slice sl.bytes 0 5 = [0, 0xFF, 0xFF, 0, 0])
    ∧ (∀ o, sl.current = some o → byteAt sl.bytes 0 = o.body.kind ∧ word16At sl.bytes 1 = o.body.shown
        ∧ byteAt sl.bytes 3 = natByte o.attempts ∧ byteAt sl.bytes 4 = boolByte o.inFlight)
    ∧ (sl.upcoming = none → slice sl.bytes 5 3 = [0, 0xFF, 0xFF])
    ∧ ∀ o, sl.upcoming = some o → byteAt sl.bytes 5 = o.body.kind ∧ word16At sl.bytes 6 = o.body.shown := by
  obtain ⟨current, upcoming⟩ := sl
  refine ⟨?_, ?_, ?_, ?_⟩
  · rintro rfl; rfl
  · rintro o rfl; exact ⟨rfl, bytes16_join _, rfl, rfl⟩
  · rintro rfl; cases current <;> rfl
  · rintro o rfl; cases current <;> exact ⟨rfl, bytes16_join _⟩

theorem stationWindow_orders {b : Berth} {st : Station} {sl : Slot} (h : b.slotOf (roleOf st) = sl) :
    let w := stationWindow b (finByte st)
    (sl.current = none → slice w 5 5 = [0, 0xFF, 0xFF, 0, 0])
    ∧ (∀ o, sl.current = some o → byteAt w 5 = o.body.kind ∧ word16At w 6 = o.body.shown
        ∧ byteAt w 8 = natByte o.attempts ∧ byteAt w 9 = boolByte o.inFlight)
    ∧ (sl.upcoming = none → slice w 10 3 = [0, 0xFF, 0xFF])
    ∧ ∀ o, sl.upcoming = some o → byteAt w 10 = o.body.kind ∧ word16At w 11 = o.body.shown := by
  have fields := slotBytes_fields sl
  rw [← h, ← stationWindow_slot, h] at fields
  simp (disch := decide) only [byteAt_slice, word16At_slice, slice_slice] at fields
  exact fields

theorem stationWindow_gateIn (b : Berth) : let w := stationWindow b (finByte gateIn)
    byteAt w 13 = natByte b.qlc.promotes.length ∧ (b.qlc.promotes = [] → slice w 14 4 = zeros 4)
    ∧ ∀ o tag, b.qlc.promotes.head? = some o → o.body.promoteTag = some tag →
      word24At w 14 = tag ∧ byteAt w 17 = natByte o.attempts := by
  have bytes : slice (stationWindow b (finByte gateIn)) 13 5 = promoteBytes b .gateIn := stationWindow_promotes b gateIn
  refine ⟨?_, fun none_ => ?_, fun o tag head named => ?_⟩
  · rw [← byteAt_slice (i := 13) (j := 0) (k := 5) (by decide), bytes]; rfl
  · rw [← slice_slice (i := 13) (j := 1) (n := 5) (by decide), bytes, promoteBytes, none_]; rfl
  · rw [← word24At_slice (i := 13) (j := 1) (k := 5) (by decide), ← byteAt_slice (i := 13) (j := 4) (k := 5) (by decide), bytes,
      promoteBytes, head, Option.bind_some, named]
    exact ⟨bytes24_join _, rfl⟩

end Sys2Proof.Machine

/-! # Rule, clock, notice, result and configuration windows, and the codes (O6) -/

namespace Sys2Proof.Machine

/-! ## Rules (R98) -/

theorem ruleWindow_beyond {b : Berth} {x : Byte} (h : b.sizes.ruleSlots ≤ x.toNat) : ruleWindow b x = ones 16 :=
  if_neg (Nat.not_lt.2 h)

/-- An owner field shorter than its place is followed by zeros. -/
theorem window_of_short {n : Nat} {l : List Byte} (h : l.length ≤ n) : window n l = l ++ zeros (n - l.length) := by
  rw [window, List.take_append, List.take_of_length_le h, zeros, List.take_replicate, Nat.min_eq_left (Nat.sub_le ..)]
  rfl

theorem exists_bytes4 {l : List Byte} (h : l.length = 4) : ∃ a b c d, l = [a, b, c, d] := by
  match l, h with
  | [a, b, c, d], _ => exact ⟨a, b, c, d, rfl⟩

theorem ruleWindow_fields {b : Berth} {x : Byte} {r : Rule} (slot : x.toNat < b.sizes.ruleSlots)
    (named : b.shu.rules[x.toNat]? = some r) (short : r.owner.length ≤ 4) : let w := ruleWindow b x
    byteAt w 0 = x ∧ byteAt w 1 = boolByte r.enabled ∧ word24At w 2 = r.tagLo ∧ word24At w 5 = r.tagHi
    ∧ byteAt w 8 = r.chassis.setWidth 8 ∧ byteAt w 9 = (r.cond.map CargoCond.code).getD 0
    ∧ slice w 10 4 = r.owner ++ zeros (4 - r.owner.length) ∧ byteAt w 14 = (r.action.map RuleAction.code).getD 0
    ∧ byteAt w 15 = r.mask := by
  rw [← window_of_short short]
  obtain ⟨o0, o1, o2, o3, owner⟩ := exists_bytes4 (window_length 4 r.owner)
  simp only [ruleWindow, if_pos slot, named, owner]
  simp (disch := decide) only [byteAt_window, word24At_window]
  simp only [bytes24, List.cons_append, List.nil_append]
  refine ⟨rfl, rfl, bytes24_join _, bytes24_join _, rfl, ?_, rfl, ?_, rfl⟩
  · cases r.cond <;> rfl
  · cases r.action <;> rfl

/-! ## The clock, the notices and the result -/

theorem clockWindow_fields (b : Berth) : let w := clockWindow b
    word32At w 0 = b.clock.time.secs ∧ byteAt w 4 = b.clock.time.six.setWidth 8 ∧ byteAt w 5 = boolByte b.clock.running
    ∧ byteAt w 6 = b.clock.shiftIndex.setWidth 8
    ∧ word32At w 7 = BitVec.ofInt 32 (shiftNumber b.params b.clock.time.secs) ∧ byteAt w 11 = 0 := by
  unfold clockWindow
  simp (disch := decide) only [byteAt_window, word32At_window]
  exact ⟨bytes32_join _, rfl, rfl, rfl, bytes32_join _, rfl⟩

theorem noticeWindow_fields (b : Berth) : let w := noticeWindow b
    word16At w 0 = b.nu.raw ∧ word16At w 2 = b.nu.enable ∧ word16At w 4 = b.nu.raw &&& b.nu.enable
    ∧ byteAt w 6 = (if b.nu.raw &&& b.nu.enable = 0 then 0 else 1) ∧ byteAt w 7 = 0 := by
  refine ⟨bytes16_join _, bytes16_join _, bytes16_join _, ?_, rfl⟩
  show boolByte (b.nu.raw &&& b.nu.enable != 0) = _
  by_cases h : b.nu.raw &&& b.nu.enable = 0 <;> simp [boolByte, h]

theorem resultBytes_fields (r : Result) : byteAt r.bytes 0 = r.code.code ∧ byteAt r.bytes 1 = r.command
    ∧ word16At r.bytes 2 = r.entity ∧ byteAt r.bytes 4 = r.detail ∧ byteAt r.bytes 5 = r.mode.code
    ∧ word16At r.bytes 6 = r.free :=
  ⟨rfl, rfl, bytes16_join _, rfl, rfl, bytes16_join _⟩

/-! ## The configuration (R219) -/

theorem switches_bits (p : Params) : p.switches.getLsbD 0 = p.lenient ∧ p.switches.getLsbD 1 = p.dualCycle
    ∧ p.switches.getLsbD 2 = p.routeReject ∧ p.switches.getLsbD 3 = p.autoRetire ∧ p.switches.extractLsb' 4 4 = 0 := by
  have bits : ∀ l d r a : Bool, let x := boolByte l + 2 * boolByte d + 4 * boolByte r + 8 * boolByte a
      x.getLsbD 0 = l ∧ x.getLsbD 1 = d ∧ x.getLsbD 2 = r ∧ x.getLsbD 3 = a ∧ x.extractLsb' 4 4 = 0 := by decide
  exact bits _ _ _ _

theorem configWindow_fields (b : Berth) : let w := configWindow b; let p := b.params; let z := b.sizes
    byteAt w 0 = b.mode.code ∧ byteAt w 1 = natByte p.clear ∧ byteAt w 2 = natByte p.deckMargin
    ∧ (∀ c : Crane, byteAt w (3 + c.val) = p.laneSets[c].setWidth 8) ∧ word16At w 11 = BitVec.ofNat 16 p.grantTime
    ∧ byteAt w 13 = natByte p.attemptLimit ∧ word16At w 14 = BitVec.ofNat 16 p.starveTime
    ∧ byteAt w 16 = natByte p.holdDepth ∧ byteAt w 17 = natByte p.holdMark ∧ byteAt w 18 = natByte p.poolMark
    ∧ ((byteAt w 19).getLsbD 0 = p.lenient ∧ (byteAt w 19).getLsbD 1 = p.dualCycle
        ∧ (byteAt w 19).getLsbD 2 = p.routeReject ∧ (byteAt w 19).getLsbD 3 = p.autoRetire
        ∧ (byteAt w 19).extractLsb' 4 4 = 0)
    ∧ word16At w 20 = BitVec.ofNat 16 p.shiftLength ∧ byteAt w 22 = natByte p.shiftCount ∧ word32At w 23 = p.shiftOrigin
    ∧ byteAt w 27 = b.shu.openLanes.setWidth 8 ∧ word16At w 28 = BitVec.ofNat 16 z.ticketSlots
    ∧ word16At w 30 = BitVec.ofNat 16 z.taskSlots ∧ byteAt w 32 = natByte z.ruleSlots
    ∧ word16At w 33 = BitVec.ofNat 16 (z.ticketSlots + z.taskSlots + z.ruleSlots)
    ∧ byteAt w 35 = boolByte (decide (z.ticketSlots + z.taskSlots + z.ruleSlots ≤ 1600))
    ∧ word16At w 36 = BitVec.ofNat 16 (min z.taskSlots (1600 - z.ticketSlots - z.ruleSlots))
    ∧ word16At w 38 = BitVec.ofNat 16 b.freeTickets ∧ word16At w 40 = BitVec.ofNat 16 b.ltu.tasks.length
    ∧ byteAt w 42 = natByte b.ltu.reserved ∧ word16At w 43 = BitVec.ofNat 16 b.freeTasks
    ∧ byteAt w 45 = natByte b.occupancy ∧ w.drop 46 = zeros 2 := by
  unfold configWindow
  simp (disch := omega) only [byteAt_window, word16At_window, word32At_window]
  simp only [allCranes, List.map_cons, List.map_nil, bytes32, nat16, bytes16, List.cons_append, List.nil_append]
  refine ⟨rfl, rfl, rfl, fun c => ?_, bytes16_join _, rfl, bytes16_join _, rfl, rfl, rfl, switches_bits b.params,
    bytes16_join _, rfl, bytes32_join _, rfl, bytes16_join _, bytes16_join _, rfl, bytes16_join _, rfl, bytes16_join _,
    bytes16_join _, bytes16_join _, rfl, bytes16_join _, rfl, rfl⟩
  fin_cases c <;> rfl

/-! ## The marks -/

theorem marks_bits (m : Marks) : m.code.getLsbD 0 = m.halted ∧ m.code.getLsbD 1 = m.missed ∧ m.code.getLsbD 2 = m.fault
    ∧ m.code.getLsbD 3 = m.late ∧ m.code.getLsbD 4 = m.manual ∧ m.code.getLsbD 5 = m.forced
    ∧ m.code.extractLsb' 6 2 = 0 := by
  have bits : ∀ h m f l u o : Bool, let x := Marks.code ⟨h, m, f, l, u, o⟩
      x.getLsbD 0 = h ∧ x.getLsbD 1 = m ∧ x.getLsbD 2 = f ∧ x.getLsbD 3 = l ∧ x.getLsbD 4 = u ∧ x.getLsbD 5 = o
      ∧ x.extractLsb' 6 2 = 0 := by decide
  exact bits _ _ _ _ _ _

/-! ## Lengths -/

theorem ones_length (n : Nat) : (ones n).length = n := List.length_replicate

theorem ticketWindow_length (b : Berth) (n : TicketNo) : (ticketWindow b n).length = 64 := by
  unfold ticketWindow
  cases b.ticket? n with
  | none => rfl
  | some t => exact window_length ..

theorem craneWindow_length (b : Berth) (x : Byte) : (craneWindow b x).length = 32 := by
  unfold craneWindow
  split <;> [exact ones_length _; exact window_length ..]

theorem standWindow_length (b : Berth) (x : Byte) : (standWindow b x).length = 256 := by
  unfold standWindow
  split <;> [exact ones_length _; exact window_length ..]

theorem holdingWindow_length (b : Berth) (x : Byte) : (holdingWindow b x).length = 48 := by
  obtain ⟨rest, e⟩ := holdingWindow_head b x
  rw [e, window_length]

theorem gangWindow_length (b : Berth) (x : Byte) : (gangWindow b x).length = 40 := by
  unfold gangWindow
  split <;> [exact ones_length _; exact window_length ..]

theorem taskWindow_length (b : Berth) (n : TaskNo) : (taskWindow b n).length = 16 := by
  unfold taskWindow
  split
  · split <;> exact window_length ..
  · exact ones_length _

theorem stationWindow_length (b : Berth) (x : Byte) : (stationWindow b x).length = 24 := by
  unfold stationWindow
  split <;> [exact ones_length _; exact window_length ..]

theorem ruleWindow_length (b : Berth) (x : Byte) : (ruleWindow b x).length = 16 := by
  unfold ruleWindow
  split
  · split <;> exact window_length ..
  · exact ones_length _

/-! ## The obligation -/

/-- A claim's bay and standing, as windows show them. -/
theorem claimBytes {o : Option GangClaim} {x y : Byte} (bay : x = (o.map (·.bay)).getD 0)
    (standing : y = (o.map (·.standing.code)).getD 0) :
    (o = none → x = 0 ∧ y = 0) ∧ ∀ k, o = some k → x = k.bay ∧ y = k.standing.code := by
  subst bay standing
  exact ⟨fun e => by rw [e]; exact ⟨rfl, rfl⟩, fun k e => by rw [e]; exact ⟨rfl, rfl⟩⟩

/-- Settles O6, window by window, then the codes. -/
theorem windowContents : Obligations.WindowContents := by
  unfold Obligations.WindowContents
  refine ⟨fun s x n => ?_, ⟨fun b n h => ?_, fun b n t h ids => ticketWindow_fields h ids⟩,
    ⟨fun b x h => ?_, craneWindow_fields⟩, fun b c ids => ⟨standWindow_fields ids, standWindow_tail ids⟩, holdingWindow_fields,
    ⟨fun b x h => ?_, fun b g => ?_⟩, fun b n => ⟨taskWindow_beyond, fun slot => ⟨taskWindow_free slot,
      fun t h => taskWindow_fields slot h⟩⟩, fun b => ?_, ⟨fun b x h => ?_, fun b st => ?_, fun b st sl h =>
      stationWindow_orders (slotOf_roleOf h), stationWindow_gateIn⟩, fun b x => ⟨ruleWindow_beyond, fun r slot named short =>
      ruleWindow_fields slot named short⟩, clockWindow_fields, noticeWindow_fields, resultBytes_fields, configWindow_fields,
    by decide, by decide, ?_, marks_bits, by decide⟩
  · exact ⟨rfl, ticketWindow_length .., craneWindow_length .., standWindow_length .., holdingWindow_length .., gangWindow_length ..,
      taskWindow_length .., window_length .., stationWindow_length .., ruleWindow_length .., window_length .., rfl, window_length ..⟩
  · simp only [ticketWindow, h, Option.elim_none]
  · simp only [craneWindow, craneOf?_none h]
  · simp only [gangWindow, gangOf?_none h]
  · obtain ⟨number, duty, activity, relief, served, roster, online, count, bay, standing, rest⟩ := gangWindow_fields b g
    obtain ⟨unclaimed, claimed⟩ := claimBytes bay standing
    exact ⟨number, duty, activity, relief, served, roster, online, count, gangWindow_tasks b g, unclaimed, claimed, rest⟩
  · refine ⟨fun c => ?_, fun g => ?_, claimsWindow_head b (by decide), claimsWindow_waiters b, claimsWindow_tail b⟩
    · rw [claimsWindow_head b (by omega), claimsHead_crane]
    · have gang := claimsHead_gang b g
      rw [← claimsWindow_head b (by omega), ← claimsWindow_head b (by omega)] at gang
      exact claimBytes gang.1 gang.2
  · simp only [stationWindow, stationOf?_none h]
  · refine ⟨stationWindow_head b st (by decide), stationWindow_head b st (by decide), stationWindow_head b st (by decide),
      stationWindow_head b st (by decide), stationWindow_head b st (by decide), fun other => ?_, stationWindow_drop b st⟩
    rw [stationWindow_promotes, promoteBytes_elsewhere b other]
  · exact ⟨fun _ _ _ _ _ _ _ _ => ⟨rfl, rfl⟩, fun _ _ _ => ⟨rfl, rfl⟩, fun _ _ _ _ => ⟨rfl, rfl⟩, fun _ _ => ⟨rfl, rfl⟩,
      fun _ => ⟨rfl, rfl⟩⟩

end Sys2Proof.Machine

/-! # Withdrawals (O49) -/

namespace Sys2Proof.Machine

/-! ## Withdrawal, step by step -/

/-- The berth once the bound entry waits again and the reservation is given back. -/
def unbound (b : Berth) (c : Crane) : Berth := (unbindTruck b c).giveBackSlot c

/-- The crane record as a withdrawal leaves it. -/
def CraneRec.withdrawn (r : CraneRec) (cause : Cause) (now : QTime) : CraneRec :=
  let e := if cause = .expiry then { r.emptied with lastExpired := r.expiredPair } else r.emptied
  if cause.waits then e.startWaiting now else e.goIdle

/-- A withdrawal before its claim is released. -/
def ungranted (b : Berth) (c : Crane) (cause : Cause) : Berth :=
  ((unbound b c).modTickets (b.crane c).lift (cause.ticket (cause.counted && b.lastAttempt c) b.nowSecs)).modCrane c
    fun r => r.withdrawn cause b.now

/-- The WITHDRAW of a grant record, where one is posted. -/
def postWithdraw (b : Berth) (c : Crane) (cause : Cause) (r : CraneRec) : Berth :=
  match cause, r.grantTicket, r.grantId with
  | .offline, _, _ => b
  | _, some n, some id => b.postCrane c (.withdraw n r.grantPartner id)
  | _, _, _ => b

/-- The notice of a withdrawal, where it counts. -/
def raiseMissed (b : Berth) (cause : Cause) (last : Bool) : Berth :=
  if cause.counted && last then b.raise ticketFailed else if cause.counted then b.raise grantMissed else b

theorem withdraw_eq (b : Berth) (c : Crane) (cause : Cause) : withdraw b c cause =
    raiseMissed ((postWithdraw (releaseCraneClaim (ungranted b c cause) c) c cause (b.crane c)).craneReasons c) cause
      (b.lastAttempt c) := rfl

/-- A posting writes the crane's order slot at most. -/
theorem postWithdraw_cases (b : Berth) (c : Crane) (cause : Cause) (r : CraneRec) :
    postWithdraw b c cause r = b ∨ ∃ o, postWithdraw b c cause r = b.postCrane c o := by
  unfold postWithdraw
  split
  · exact Or.inl rfl
  · exact Or.inr ⟨_, rfl⟩
  · exact Or.inl rfl

theorem raiseMissed_cases (b : Berth) (cause : Cause) (last : Bool) :
    raiseMissed b cause last = b ∨ ∃ x, raiseMissed b cause last = b.raise x := by
  unfold raiseMissed
  split
  · exact Or.inr ⟨_, rfl⟩
  · split
    · exact Or.inr ⟨_, rfl⟩
    · exact Or.inl rfl

/-- A reading that no notice, wait reason or crane order changes is that of the berth as its claim is released. -/
theorem withdraw_keeps {α : Type} (f : Berth → α) (notice : ∀ (b : Berth) x, f (b.raise x) = f b) {c : Crane}
    (reasons : ∀ b : Berth, f (b.craneReasons c) = f b) (posted : ∀ (b : Berth) o, f (b.postCrane c o) = f b) (b : Berth)
    (cause : Cause) : f (withdraw b c cause) = f (releaseCraneClaim (ungranted b c cause) c) := by
  rw [withdraw_eq]
  have noticed : ∀ (b : Berth) last, f (raiseMissed b cause last) = f b := fun b last => by
    rcases raiseMissed_cases b cause last with e | ⟨x, e⟩ <;> rw [e]
    exact notice b x
  rw [noticed, reasons]
  rcases postWithdraw_cases (releaseCraneClaim (ungranted b c cause) c) c cause (b.crane c) with e | ⟨o, e⟩ <;> rw [e]
  exact posted _ o

/-! ## The truck's part and the reservation -/

theorem unbindTruck_standOnly (b : Berth) (c : Crane) : StandOnly c (unbindTruck b c) b := by
  obtain ⟨l, e | e⟩ := unbindTruck_frame b c
  · exact Or.inr ⟨l, e⟩
  · exact Or.inl e

/-- A reading that a freed reservation and a change of the crane's stand leave. -/
theorem unbound_keeps {α : Type} (f : Berth → α) (slot : ∀ b : Berth, f b.unreserve = f b) {c : Crane}
    (truck : ∀ (b : Berth) l, f (b.modStand c l) = f b) (b : Berth) : f (unbound b c) = f b := by
  have waiting := (unbindTruck_standOnly b c).eq f (truck b)
  unfold unbound Berth.giveBackSlot
  split
  · rw [slot, waiting]
  · exact waiting

theorem unbound_stand (b : Berth) (c d : Crane) : (unbound b c).stand d = (unbindTruck b c).stand d := by
  unfold unbound Berth.giveBackSlot
  split <;> rfl

theorem unbound_ltu (b : Berth) (c : Crane) : (unbound b c).ltu =
    { b.ltu with reserved := if b.liftReserved c then b.ltu.reserved - 1 else b.ltu.reserved } := by
  have truck := unbindTruck_standOnly b c
  have reserved : (unbindTruck b c).liftReserved c = b.liftReserved c := truck.eq (fun b => b.liftReserved c) fun _ => rfl
  have ltu : (unbindTruck b c).ltu = b.ltu := truck.eq (fun b => b.ltu) fun _ => rfl
  unfold unbound Berth.giveBackSlot
  rw [reserved]
  split
  · show ({ (unbindTruck b c).ltu with reserved := (unbindTruck b c).ltu.reserved - 1 } : Lashing) = _
    rw [ltu]
  · exact ltu

/-! ## The records left -/

section

variable (b : Berth) (c : Crane) (cause : Cause)

theorem withdraw_claim_same : (withdraw b c cause).craneClaim c = none :=
  (withdraw_keeps (fun b => b.craneClaim c) (fun _ _ => rfl) (fun _ => rfl) (fun _ _ => rfl) b cause).trans
    (releaseCraneClaim_same ..)

theorem withdraw_crane (d : Crane) : (withdraw b c cause).crane d = (ungranted b c cause).crane d := by
  rw [withdraw_keeps (fun b => b.crane d) (fun _ _ => rfl) (fun _ => rfl) fun _ _ => rfl]
  simp only [Berth.crane, releaseCraneClaim_cranes]

theorem withdraw_crane_same : (withdraw b c cause).crane c = (b.crane c).withdrawn cause b.now := by
  rw [withdraw_crane, ungranted, Berth.crane_modCrane]
  exact congrArg (·.withdrawn cause b.now) (unbound_keeps (fun b => b.crane c) (fun _ => rfl) (fun _ _ => rfl) b)

theorem withdraw_stand (d : Crane) : (withdraw b c cause).stand d = (unbindTruck b c).stand d := by
  rw [withdraw_keeps (fun b => b.stand d) (fun _ _ => rfl) (fun _ => rfl) fun _ _ => rfl, ← unbound_stand]
  simp only [Berth.stand, releaseCraneClaim_shu]
  rfl

theorem withdraw_elsewhere {d : Crane} (h : d ≠ c) : (withdraw b c cause).craneClaim d = b.craneClaim d
    ∧ (withdraw b c cause).crane d = b.crane d ∧ (withdraw b c cause).stand d = b.stand d := by
  refine ⟨?_, ?_, ?_⟩
  · rw [withdraw_keeps (fun b => b.craneClaim d) (fun _ _ => rfl) (fun _ => rfl) fun _ _ => rfl]
    exact (releaseCraneClaim_other _ _ _ h).trans
      (unbound_keeps (fun b => b.craneClaim d) (fun _ => rfl) (fun _ _ => rfl) b)
  · rw [withdraw_crane, ungranted, Berth.crane_modCrane_other _ _ _ _ h]
    exact unbound_keeps (fun b => b.crane d) (fun _ => rfl) (fun _ _ => rfl) b
  · rw [withdraw_stand, (unbindTruck_standOnly b c).others h]

theorem withdraw_holding : (withdraw b c cause).shu.holding = b.shu.holding := by
  rw [withdraw_keeps (fun b => b.shu.holding) (fun _ _ => rfl) (fun _ => rfl) fun _ _ => rfl, releaseCraneClaim_shu]
  exact unbound_keeps (fun b => b.shu.holding) (fun _ => rfl) (fun _ _ => rfl) b

theorem withdraw_ltu : (withdraw b c cause).ltu =
    { b.ltu with reserved := if b.liftReserved c then b.ltu.reserved - 1 else b.ltu.reserved } := by
  rw [withdraw_keeps (fun b => b.ltu) (fun _ _ => rfl) (fun _ => rfl) fun _ _ => rfl, ← unbound_ltu]
  exact releaseCraneClaim_ltu ..

/-- R51: the notice of a withdrawal that counts, and no other. -/
theorem raiseMissed_raw (last : Bool) : (raiseMissed b cause last).nu.raw =
    b.nu.raw ||| (if cause.counted then if last then ticketFailed else grantMissed else 0) := by
  unfold raiseMissed
  cases cause.counted <;> cases last
  · exact BitVec.or_zero.symm
  · exact BitVec.or_zero.symm
  · rfl
  · rfl

theorem withdraw_raw : (withdraw b c cause).nu.raw =
    b.nu.raw ||| (if cause.counted then if b.lastAttempt c then ticketFailed else grantMissed else 0) := by
  have kept : (postWithdraw (releaseCraneClaim (ungranted b c cause) c) c cause (b.crane c)).nu = b.nu := by
    have released : (releaseCraneClaim (ungranted b c cause) c).nu = b.nu :=
      (releaseCraneClaim_nu ..).trans (unbound_keeps (fun b => b.nu) (fun _ => rfl) (fun _ _ => rfl) b)
    rcases postWithdraw_cases (releaseCraneClaim (ungranted b c cause) c) c cause (b.crane c) with e | ⟨o, e⟩ <;> rw [e]
    · exact released
    · exact released
  rw [withdraw_eq, raiseMissed_raw, Berth.craneReasons_nu, kept]

/-- R49: the crane slots are those of the posting. -/
theorem withdraw_craneSlots : (withdraw b c cause).qlc.craneSlots =
    (postWithdraw (releaseCraneClaim (ungranted b c cause) c) c cause (b.crane c)).qlc.craneSlots := by
  rw [withdraw_eq]
  rcases raiseMissed_cases ((postWithdraw (releaseCraneClaim (ungranted b c cause) c) c cause (b.crane c)).craneReasons c)
    cause (b.lastAttempt c) with e | ⟨x, e⟩ <;> rw [e] <;> rfl

theorem released_craneSlots : (releaseCraneClaim (ungranted b c cause) c).qlc.craneSlots = b.qlc.craneSlots :=
  (releaseCraneClaim_qlc_craneSlots ..).trans
    (unbound_keeps (fun b => b.qlc.craneSlots) (fun _ => rfl) (fun _ _ => rfl) b)

theorem withdraw_offline_slots : (withdraw b c .offline).qlc.craneSlots = b.qlc.craneSlots :=
  (withdraw_craneSlots ..).trans (released_craneSlots ..)

variable {b c cause}

theorem withdraw_posts {n : TicketNo} {id : Nat} (posts : cause ≠ .offline) (ticket : (b.crane c).grantTicket = some n)
    (grant : (b.crane c).grantId = some id) : (withdraw b c cause).qlc.craneSlots[c] =
      (b.qlc.craneSlots[c]).post (.withdraw n (b.crane c).grantPartner id) b.now := by
  have posted : ∀ x : Berth, postWithdraw x c cause (b.crane c) = x.postCrane c (.withdraw n (b.crane c).grantPartner id) := by
    intro x
    unfold postWithdraw
    rw [ticket, grant]
    cases cause with
    | offline => exact absurd rfl posts
    | _ => rfl
  have now : (releaseCraneClaim (ungranted b c cause) c).now = b.now := by
    simp only [Berth.now, releaseCraneClaim_clock]
    exact unbound_keeps (fun b => b.clock.time) (fun _ => rfl) (fun _ _ => rfl) b
  rw [withdraw_craneSlots, posted]
  show (modAt _ c _)[c] = _
  rw [modAt_same, released_craneSlots, now]

end

/-! ## The tickets left -/

theorem Cause.ticket_attempts (cause : Cause) (fails : Bool) (now : Secs) (t : Ticket) :
    (cause.ticket fails now t).attempts.val = if cause.counted then min 7 (t.attempts.val + 1) else t.attempts.val := by
  cases cause
  case expiry | undelivered => exact count_attempts t
  all_goals rfl

/-- R50: MISSED where the cause counts, HALTED for a halt. -/
theorem Cause.ticket_marks (cause : Cause) (fails : Bool) (now : Secs) (t : Ticket) : (cause.ticket fails now t).marks =
    { t.marks with missed := t.marks.missed || cause.counted, halted := t.marks.halted || cause == .halt } := by
  cases cause <;> simp [Cause.ticket, Ticket.mark, Ticket.leave, Ticket.count, Cause.counted, beq_eq_decide]

/-- R49, R50, R51: what becomes of a ticket of the grant. -/
theorem Cause.ticket_eq (cause : Cause) (fails : Bool) (now : Secs) (t : Ticket) : let u := cause.ticket fails now t
    u = { t with
      attempts := u.attempts, truck := none, lane := none
      state := cause.stateAfter fails t.number
      reason := if cause.stateAfter fails t.number = .pending then .crane else .none
      lashState := if t.lashState = .reserved then .notNeeded else t.lashState
      doneAt := if (cause.stateAfter fails t.number).live then t.doneAt else some now
      marks := { t.marks with missed := t.marks.missed || cause.counted
                              halted := t.marks.halted || cause == .halt } } := by
  rw [← Cause.ticket_marks cause fails now t]
  cases cause <;> rfl

/-- R39: CRANE is the reason that a ticket back in PENDING has already. -/
theorem Cause.ticket_reason (cause : Cause) (fails : Bool) (now : Secs) (t : Ticket) (q : Bool) :
    (if q && (cause.ticket fails now t).state == .pending then { cause.ticket fails now t with reason := .crane }
      else cause.ticket fails now t) = cause.ticket fails now t := by
  have e := Cause.ticket_eq cause fails now t
  split
  · next pending =>
    have back : (cause.ticket fails now t).state = .pending := beq_iff_eq.1 (Bool.and_eq_true_iff.1 pending).2
    have reason : (cause.ticket fails now t).reason = .crane := by
      rw [e] at back ⊢
      exact if_pos back
    rw [← reason]
  · rfl

section

variable {b : Berth} {c : Crane} (cause : Cause) {t : Ticket} (mem : t ∈ b.tickets)
include mem

theorem withdraw_mem_lift (lifted : (b.crane c).lift.contains t.number = true) :
    cause.ticket (cause.counted && b.lastAttempt c) b.nowSecs t ∈ (withdraw b c cause).tickets := by
  rw [withdraw_tickets]
  exact List.mem_map.2 ⟨_, List.mem_map.2 ⟨t, mem, if_pos lifted⟩, Cause.ticket_reason ..⟩

theorem withdraw_mem_other (other : (b.crane c).lift.contains t.number = false) :
    (if t.crane = c ∧ t.state = .pending then { t with reason := .crane } else t) ∈ (withdraw b c cause).tickets := by
  rw [withdraw_tickets]
  refine List.mem_map.2 ⟨t, List.mem_map.2 ⟨t, mem, if_neg (by simpa using other)⟩, ?_⟩
  exact if_congr (by simp) rfl rfl

end

/-! ## The obligation -/

theorem liftReserved_iff (b : Berth) (c : Crane) : b.liftReserved c = true ↔
    ∃ n ∈ (b.crane c).lift, ∃ t, b.ticket? n = some t ∧ t.lashState = .reserved := by
  simp [Berth.liftReserved, Option.any_eq_true]

theorem lastAttempt_iff (b : Berth) (c : Crane) : b.lastAttempt c = true ↔ (b.crane c).oneShot = true
    ∨ ∃ n ∈ (b.crane c).lift, ∃ t, b.ticket? n = some t ∧ (t.oneShot = true ∨ b.params.attemptLimit ≤ t.attempts.val + 1) := by
  simp [Berth.lastAttempt, Option.any_eq_true]

/-- R49, R50: the crane record holds no grant, and the crane is WAITING or IDLE as the cause says. -/
theorem CraneRec.withdrawn_emptied (r : CraneRec) (cause : Cause) (now : QTime) : let w := r.withdrawn cause now
    w.lift = [] ∧ w.grantBay = none ∧ w.due = none ∧ (w.work = if cause.waits then .waiting else .idle)
    ∧ (cause = .expiry → w.lastExpired = r.expiredPair) := by
  unfold CraneRec.withdrawn
  dsimp only
  refine ⟨?_, ?_, ?_, ?_, fun expiry => ?_⟩
  · split <;> split <;> rfl
  · split <;> split <;> rfl
  · split <;> split <;> rfl
  · split <;> rfl
  · rw [if_pos expiry]; split <;> rfl

/-- Settles O49, one lemma per record that a withdrawal leaves. -/
theorem withdrawalUndoes : Obligations.WithdrawalUndoes := by
  unfold Obligations.WithdrawalUndoes
  refine ⟨fun b c cause => ?_, liftReserved_iff, lastAttempt_iff⟩
  obtain ⟨lift, bay, due, work, expired⟩ := (b.crane c).withdrawn_emptied cause b.now
  rw [← withdraw_crane_same b c cause] at lift bay due work expired
  exact ⟨withdraw_claim_same b c cause, lift, bay, due, work, fun d other => withdraw_elsewhere b c cause other,
    withdraw_raw b c cause, expired, fun t mem lifted => ⟨_, withdraw_mem_lift cause mem lifted, Cause.ticket_attempts .., Cause.ticket_eq ..⟩,
    fun t mem other => withdraw_mem_other cause mem other, (withdraw_stand ..).trans (unbindTruck_stand b c),
    withdraw_holding b c cause, withdraw_ltu b c cause, fun offline => offline ▸ withdraw_offline_slots b c,
    fun n id posts ticket grant => withdraw_posts posts ticket grant⟩

end Sys2Proof.Machine

/-! # CRANE_HALT and CRANE_RESUME (O18) -/

namespace Sys2Proof.Machine

section

variable {s : State} {body : List Byte} {b : Berth} {r : Res} (ready : PortReady s)
include ready

theorem exec_craneHalt (c : Crane) (own : ownCraneHalt s.berth [finByte c] = (b, r)) :
    exec (.craneHalt [finByte c]) s = .next (applied 0x30 b r s) :=
  congrArg _ (hostWrite_owned (code := 0x30) ready rfl rfl le_rfl le_rfl (by cases s.berth.mode <;> rfl) own)

theorem exec_craneResume (c : Crane) (own : ownCraneResume s.berth [finByte c] = (b, r)) :
    exec (.craneResume [finByte c]) s = .next (applied 0x31 b r s) :=
  congrArg _ (hostWrite_owned (code := 0x31) ready rfl rfl le_rfl le_rfl (by cases s.berth.mode <;> rfl) own)

end

theorem ownCraneHalt_crane (b : Berth) (c : Crane) :
    ownCraneHalt b [finByte c] = (settle (haltCrane b c), okRes (fin16 c)) := by
  have named : craneOf? (byteAt [finByte c] 0) = some c := craneOf?_finByte c
  simp only [ownCraneHalt, named]

theorem ownCraneResume_crane (b : Berth) (c : Crane) :
    ownCraneResume b [finByte c] = (b.modCrane c fun r => { r with halt := false }, okRes (fin16 c)) := by
  have named : craneOf? (byteAt [finByte c] 0) = some c := craneOf?_finByte c
  simp only [ownCraneResume, named]

/-! ## The halt flag and the PENDING tickets -/

/-- What a CRANE_HALT writes before the crane leaves WAITING or its grant is withdrawn. -/
def halted (b : Berth) (c : Crane) : Berth :=
  (b.modCrane c fun r => { r with halt := true }).modTicketsIf (fun t => t.crane == c && t.state == .pending) Ticket.haltHeld

theorem pendingOf_nil (b : Berth) (c : Crane) : b.pendingOf c = [] ↔ ∀ t ∈ b.tickets, t.crane = c → t.state ≠ .pending := by
  simp [Berth.pendingOf]

theorem halted_crane (b : Berth) (c : Crane) : (halted b c).crane c = { b.crane c with halt := true } :=
  Berth.crane_modCrane ..

theorem halted_tickets (b : Berth) (c : Crane) : (halted b c).tickets =
    b.tickets.map fun t => if t.crane == c && t.state == .pending then t.haltHeld else t := rfl

/-- R55: a PENDING ticket of the crane is HELD with HALTED. -/
theorem halted_mem {b : Berth} {c : Crane} {t : Ticket} (mem : t ∈ b.tickets) (own : t.crane = c) (pending : t.state = .pending) :
    t.haltHeld ∈ (halted b c).tickets :=
  List.mem_map.2 ⟨t, mem, if_pos (by simp [own, pending])⟩

theorem halted_pendingOf (b : Berth) (c : Crane) : (halted b c).pendingOf c = [] := by
  rw [pendingOf_nil, halted_tickets]
  intro t mem
  obtain ⟨u, -, rfl⟩ := List.mem_map.1 mem
  split
  · simp [Ticket.haltHeld]
  · next other => exact fun own pending => other (by simp [own, pending])

/-- A wait reason is written to a ticket that stays in its state and with its crane. -/
theorem craneReasons_pendingOf_nil {b : Berth} {c : Crane} (none_ : b.pendingOf c = []) : (b.craneReasons c).pendingOf c = [] := by
  rw [pendingOf_nil] at none_ ⊢
  intro t mem
  obtain ⟨u, hu, rfl⟩ := List.mem_map.1 mem
  split
  · exact none_ u hu
  · exact none_ u hu

theorem haltCrane_granted {b : Berth} {c : Crane} (granted : (b.crane c).work = .granted) :
    haltCrane b c = withdraw (halted b c) c .halt := by
  simp only [haltCrane, Berth.crane_modTicketsIf, Berth.crane_modCrane, granted]
  rfl

theorem haltCrane_waiting {b : Berth} {c : Crane} (waiting : (b.crane c).work = .waiting) :
    haltCrane b c = endWaiting (halted b c) c := by
  simp only [haltCrane, Berth.crane_modTicketsIf, Berth.crane_modCrane, waiting]
  rfl

theorem haltCrane_busy {b : Berth} {c : Crane} (work : (b.crane c).work ∈ [WorkState.idle, .lifting]) :
    haltCrane b c = halted b c := by
  simp only [List.mem_cons, List.not_mem_nil, or_false] at work
  simp only [haltCrane, Berth.crane_modTicketsIf, Berth.crane_modCrane]
  obtain work | work := work <;> rw [work] <;> rfl

/-! ## The halt of a crane that is not GRANTED -/

/-- R55: nothing is PENDING, the flag is set, and the crane is IDLE or LIFTING. -/
theorem haltCrane_free {b : Berth} {c : Crane} (free : (b.crane c).work ≠ .granted) : (haltCrane b c).pendingOf c = []
    ∧ ((haltCrane b c).crane c).halt = true ∧ ((haltCrane b c).crane c).work ∈ [WorkState.idle, .lifting]
    ∧ ∀ t ∈ b.tickets, t.crane = c → t.state = .pending → t.haltHeld ∈ (haltCrane b c).tickets := by
  have busy (work : (b.crane c).work ∈ [WorkState.idle, .lifting]) : (haltCrane b c).pendingOf c = []
      ∧ ((haltCrane b c).crane c).halt = true ∧ ((haltCrane b c).crane c).work ∈ [WorkState.idle, .lifting]
      ∧ ∀ t ∈ b.tickets, t.crane = c → t.state = .pending → t.haltHeld ∈ (haltCrane b c).tickets := by
    rw [haltCrane_busy work, halted_crane]
    exact ⟨halted_pendingOf b c, rfl, work, fun t mem own pending => halted_mem mem own pending⟩
  cases work : (b.crane c).work with
  | idle => exact busy (by simp [work])
  | lifting => exact busy (by simp [work])
  | granted => exact absurd work free
  | waiting =>
    have crane : (endWaiting (halted b c) c).crane c = ((halted b c).crane c).goIdle := Berth.crane_modCrane ..
    rw [haltCrane_waiting work, crane, halted_crane]
    refine ⟨craneReasons_pendingOf_nil (halted_pendingOf b c), rfl, List.mem_cons_self, fun t mem own pending => ?_⟩
    exact craneReasons_mem (halted_mem mem own pending) (by simp [Ticket.haltHeld])

/-! ## The halt of a GRANTED crane -/

/-- R50: a withdrawal with the cause halt sends every ticket of the grant to HELD. -/
theorem withdraw_halt_pendingOf {b : Berth} {c : Crane} (none_ : b.pendingOf c = []) :
    (withdraw b c .halt).pendingOf c = [] := by
  rw [pendingOf_nil] at none_ ⊢
  rw [withdraw_tickets]
  intro t mem
  obtain ⟨v, hv, rfl⟩ := List.mem_map.1 mem
  have left : v.crane = c → v.state ≠ .pending := by
    obtain ⟨u, hu, rfl⟩ := List.mem_map.1 hv
    split
    · simp [Cause.ticket, Ticket.mark, Ticket.leave]
    · exact none_ u hu
  split
  · exact left
  · exact left

/-- The ticket of a halted grant, whether the halt found it PENDING or not. -/
theorem halt_ticket (t : Ticket) (p fails : Bool) (now : Secs) :
    Cause.halt.ticket fails now (if p then t.haltHeld else t) =
      { t with state := .held, reason := .none, truck := none, lane := none, marks := { t.marks with halted := true }
               lashState := if t.lashState = .reserved then .notNeeded else t.lashState } := by
  cases p <;> rfl

theorem haltCrane_withdraws {b : Berth} {c : Crane} (granted : (b.crane c).work = .granted) : let b' := haltCrane b c
    (b'.crane c).halt = true ∧ (b'.crane c).work = .idle ∧ (b'.crane c).lift = [] := by
  dsimp only
  rw [haltCrane_granted granted, withdraw_crane_same, halted_crane]
  exact ⟨rfl, rfl, rfl⟩

theorem haltCrane_mem_lift {b : Berth} {c : Crane} {t : Ticket} (granted : (b.crane c).work = .granted) (mem : t ∈ b.tickets)
    (lifted : (b.crane c).lift.contains t.number = true) :
    { t with state := .held, reason := .none, truck := none, lane := none, marks := { t.marks with halted := true }
             lashState := if t.lashState = .reserved then .notNeeded else t.lashState } ∈ (haltCrane b c).tickets := by
  rw [haltCrane_granted granted, ← halt_ticket t (t.crane == c && t.state == .pending)
    (Cause.halt.counted && (halted b c).lastAttempt c) (halted b c).nowSecs]
  refine withdraw_mem_lift .halt (b := halted b c) (c := c) (List.mem_map.2 ⟨t, mem, rfl⟩) ?_
  have number : (if t.crane == c && t.state == .pending then t.haltHeld else t).number = t.number := by split <;> rfl
  rw [halted_crane, number]
  exact lifted

theorem haltCrane_mem_other {b : Berth} {c : Crane} {t : Ticket} (granted : (b.crane c).work = .granted) (mem : t ∈ b.tickets)
    (other : (b.crane c).lift.contains t.number = false) (own : t.crane = c) (pending : t.state = .pending) :
    t.haltHeld ∈ (haltCrane b c).tickets := by
  have kept := withdraw_mem_other .halt (b := halted b c) (c := c) (halted_mem mem own pending)
    (by rw [halted_crane]; exact other)
  rw [if_neg (by simp [Ticket.haltHeld])] at kept
  rw [haltCrane_granted granted]
  exact kept

/-- Settles O18. -/
theorem haltAndResume : Obligations.HaltAndResume := by
  refine ⟨fun s c ready => ⟨exec_craneHalt ready c (ownCraneHalt_crane ..), exec_craneResume ready c (ownCraneResume_crane ..)⟩,
    fun b c granted => ?_, fun b c free => haltCrane_free free⟩
  obtain ⟨halt, work, lift⟩ := haltCrane_withdraws granted
  refine ⟨haltCrane_granted granted, ?_, halt, work, lift, ?_, fun t mem lifted => haltCrane_mem_lift granted mem lifted,
    fun t mem other own pending => haltCrane_mem_other granted mem other own pending, fun n id ticket grant => ?_⟩
  · rw [haltCrane_granted granted]
    exact withdraw_halt_pendingOf (halted_pendingOf b c)
  · rw [haltCrane_granted granted]
    exact withdraw_claim_same ..
  · have crane := halted_crane b c
    have posted := withdraw_posts (b := halted b c) (c := c) (cause := .halt) (n := n) (id := id) (by simp)
      (by rw [crane]; exact ticket) (by rw [crane]; exact grant)
    rw [haltCrane_granted granted, posted, crane]
    rfl

end Sys2Proof.Machine

/-! # CRANE_MODE, LANE_SET and CLEAR_TABLES (O19, O30) -/

namespace Sys2Proof.Machine

/-! ## CRANE_MODE -/

@[simp] theorem seqModeOf?_code (m : SeqMode) : seqModeOf? m.code = some m := by cases m <;> rfl

@[simp] theorem boolOf?_boolByte (p : Bool) : boolOf? (boolByte p) = some p := by cases p <;> rfl

@[simp] theorem controlOf?_code (k : Control) : controlOf? k.code = some k := by cases k <;> rfl

/-- R33: the control that a CRANE_MODE sets. -/
def setControl (k : Control) (b : Berth) (c : Crane) : Berth :=
  match k with
  | .manual => setManual b c
  | .auto => setAuto b c

/-- R33: the owner's part of CRANE_MODE. -/
theorem ownCraneMode_crane (b : Berth) (c : Crane) (m : SeqMode) (o : Bool) (k : Control) :
    ownCraneMode b [finByte c, m.code, boolByte o, k.code] =
      (settle (setControl k (b.modCrane c fun r => { r with seqMode := m, oneShot := o }) c), okRes (fin16 c)) := by
  have crane : craneOf? (byteAt [finByte c, m.code, boolByte o, k.code] 0) = some c := craneOf?_finByte c
  have seqMode : seqModeOf? (byteAt [finByte c, m.code, boolByte o, k.code] 1) = some m := seqModeOf?_code m
  have oneShot : boolOf? (byteAt [finByte c, m.code, boolByte o, k.code] 2) = some o := boolOf?_boolByte o
  have control : controlOf? (byteAt [finByte c, m.code, boolByte o, k.code] 3) = some k := controlOf?_code k
  simp only [ownCraneMode, crane, seqMode, oneShot, control]
  rfl

theorem exec_craneMode {s : State} {body : List Byte} {b : Berth} {r : Res} (ready : PortReady s) (long : body.length = 4)
    (own : ownCraneMode s.berth body = (b, r)) : exec (.craneMode body) s = .next (applied 0x32 b r s) :=
  congrArg _ (hostWrite_owned (code := 0x32) ready rfl rfl long.ge long.le (by cases s.berth.mode <;> rfl) own)

/-! ## LANE_SET -/

@[simp] theorem laneOf?_finByte (l : Lane) : laneOf? (finByte l) = some l := by revert l; decide

/-- R82: a lane that is to change is closed, or opened with a promotion check owed. -/
theorem ownLaneSet_changes {b : Berth} {l : Lane} {opened : Bool} (differs : inSet b.shu.openLanes l.val = !opened) :
    ownLaneSet b [finByte l, boolByte opened] = (settle { b with shu := { b.shu with
      openLanes := b.shu.openLanes ^^^ laneMask l, promotionDue := opened || b.shu.promotionDue } }, okRes (fin16 l)) := by
  have lane : laneOf? (byteAt [finByte l, boolByte opened] 0) = some l := laneOf?_finByte l
  have state : boolOf? (byteAt [finByte l, boolByte opened] 1) = some opened := boolOf?_boolByte opened
  have changes : ¬ inSet b.shu.openLanes l.val = opened := by simp [differs]
  simp only [ownLaneSet, lane, state, changes, if_false]
  cases opened <;> rfl

theorem exec_laneSet {s : State} {body : List Byte} {b : Berth} {r : Res} (ready : PortReady s) (run : s.berth.mode = .run)
    (long : body.length = 2) (own : ownLaneSet s.berth body = (b, r)) : exec (.laneSet body) s = .next (applied 0x38 b r s) :=
  congrArg _ (hostWrite_owned (code := 0x38) ready rfl rfl long.ge long.le (by rw [run]; rfl) own)

theorem inSet_laneMask (l m : Lane) : inSet (laneMask l) m.val = decide (m = l) := by revert l m; decide

/-- R82: of the lane set a LANE_SET changes one lane alone. -/
theorem inSet_xor_laneMask (set : BitVec 6) (l m : Lane) :
    inSet (set ^^^ laneMask l) m.val = if m = l then !inSet set m.val else inSet set m.val := by
  have bit : inSet (set ^^^ laneMask l) m.val = (inSet set m.val ^^ inSet (laneMask l) m.val) := BitVec.getLsbD_xor
  rw [bit, inSet_laneMask]
  split
  · next same => simp [same]
  · next other => simp [other]

/-- Settles O19. -/
theorem craneModeAndLaneWrites : Obligations.CraneModeAndLaneWrites := by
  refine ⟨fun s c m o ready => ⟨exec_craneMode ready rfl (ownCraneMode_crane s.berth c m o .manual),
      exec_craneMode ready rfl (ownCraneMode_crane s.berth c m o .auto)⟩,
    fun s l ready run => ⟨fun opened => ?_, fun closed => ?_, fun m => inSet_xor_laneMask _ l m⟩⟩
  · exact exec_laneSet ready run rfl (ownLaneSet_changes (opened := false) opened)
  · exact exec_laneSet ready run rfl (ownLaneSet_changes (opened := true) closed)

/-! ## CLEAR_TABLES -/

theorem exec_clearTables {s : State} (ready : PortReady s) (config : s.berth.mode = .config) :
    exec .clearTables s = .next (applied 0x63 (settle (clearAll s.berth)) (okRes 0 0) s) :=
  congrArg _ (hostWrite_owned (code := 0x63) ready rfl rfl le_rfl le_rfl (by rw [config]; rfl) rfl)

/-- R218: what becomes of a crane's records. -/
theorem clearAll_crane (b : Berth) (c : Crane) : (clearAll b).stand c = [] ∧ (clearAll b).craneClaim c = none
    ∧ (clearAll b).qlc.craneSlots[c] = Slot.empty ∧ (clearAll b).crane c = (b.crane c).cleared := by
  have crane : (clearAll b).crane c = (Vector.ofFn fun i : Crane => b.cranes[i].cleared)[c] := rfl
  refine ⟨Vector.getElem_replicate c.isLt, Vector.getElem_replicate c.isLt, Vector.getElem_replicate c.isLt, ?_⟩
  rw [crane]
  exact Vector.getElem_ofFn c.isLt

/-- R141, R218: what becomes of a gang's records. -/
theorem clearAll_gang (b : Berth) (g : Gang) : (clearAll b).gangClaim g = none
    ∧ (clearAll b).qlc.gangSlots[g] = Slot.empty ∧ (clearAll b).gang g = (b.gang g).cleared := by
  have gang : (clearAll b).gang g = (Vector.ofFn fun i : Gang => b.ltu.gangs[i].cleared)[g] := rfl
  refine ⟨Vector.getElem_replicate g.isLt, Vector.getElem_replicate g.isLt, ?_⟩
  rw [gang]
  exact Vector.getElem_ofFn g.isLt

theorem gangCleared_duty (r : GangRec) : r.cleared = { r with
    activity := .idle, tasks := [], reliefDue := false, onDuty := if r.reliefDue then false else r.onDuty } := by
  unfold GangRec.cleared
  cases r.reliefDue <;> simp

theorem clearAll_edges (b : Berth) : (clearAll b).nu.raw &&& edgeCauses = 0 := by
  have disjoint : levelCauses &&& edgeCauses = 0 := by decide
  show (b.nu.raw &&& levelCauses) &&& edgeCauses = 0
  rw [BitVec.and_assoc, disjoint]
  exact BitVec.and_zero

/-- Settles O30. -/
theorem clearTables : Obligations.ClearTables := by
  refine ⟨fun s ready config => exec_clearTables ready config, fun b => ⟨rfl, rfl, rfl, rfl, rfl, rfl, clearAll_crane b,
    fun g => ?_, clearAll_edges b, rfl, rfl, rfl, rfl, rfl, rfl, rfl⟩⟩
  rw [← gangCleared_duty]
  exact clearAll_gang b g

end Sys2Proof.Machine

/-! # Crane reports (O31, O33, O34) -/

namespace Sys2Proof.Machine

/-! ## A crane's frame in RUN -/

/-- A report of an ONLINE crane in RUN is its owner's (R166). -/
theorem craneFrame {s : State} {c : Crane} (speaks : CraneSpeaks s c) {kind : Byte} {body : List Byte}
    (sends : (Role.crane c).kinds.contains kind = true) (report : kind ≠ kindReply ∧ classOf kind = 1)
    (allowed : lengthAllowed kind body = true) (short : body.length ≤ maxFrameBody) {b : Berth} {r : Reply}
    (own : ownReport (heardFrom s.berth (craneStation c)) (.crane c) kind body = (b, r)) :
    Host.Outcome.next (φ := Fault) (ρ := Refusal) (berthEvent (frameEvent kind (frameOf (craneStation c) 1 body)) s) =
      .next (replied s (craneStation c) b r) := by
  obtain ⟨notReply, cls⟩ := report
  have role := roleOf_craneStation c
  rw [frameEvent_run speaks (craneStation_lt c) notReply (by rw [role]; exact sends) cls.symm allowed short, role, own]

/-! ## HELLO, ASK, STANDBY, POSITION, MANUAL and AUTO (O31) -/

theorem askReport_idle {b : Berth} {c : Crane} (idle : (b.crane c).work = .idle) (going : (b.crane c).halt = false)
    (auto : (b.crane c).control = .auto) : askReport b c = (b.modCrane c fun r => r.startWaiting b.now, accept) := by
  simp [askReport, idle, going, auto]

theorem standbyReport_waiting {b : Berth} {c : Crane} (waiting : (b.crane c).work = .waiting) :
    standbyReport b c = (endWaiting b c, accept) := by
  simp [standbyReport, waiting]

theorem positionReport_free {b : Berth} {c : Crane} {bay : Bay} (free : (b.crane c).work ∈ [WorkState.idle, .waiting])
    (low : bay.toNat ≤ 127) : positionReport b c bay = (b.modCrane c fun r => { r with position := bay }, accept) := by
  simp only [List.mem_cons, List.not_mem_nil, or_false] at free
  obtain work | work := free <;> simp [positionReport, work, low]

/-! ## What MANUAL, AUTO and the end of a waiting period leave -/

theorem setManual_manual {b : Berth} {c : Crane} (manual : (b.crane c).control = .manual) : setManual b c = b := by
  simp [setManual, manual]

/-- Two changes of one record are one change. -/
theorem modCrane_modCrane (b : Berth) (c : Crane) (f g : CraneRec → CraneRec) :
    (b.modCrane c f).modCrane c g = b.modCrane c fun r => g (f r) := by
  simp [Berth.modCrane, modAt]

/-! R57: MANUAL of a crane in AUTO, by its work state. -/

section

variable {b : Berth} {c : Crane} (auto : (b.crane c).control = .auto)
include auto

theorem setManual_busy (busy : (b.crane c).work ∈ [WorkState.idle, .lifting]) :
    setManual b c = b.modCrane c fun r => { r with control := .manual } := by
  simp only [List.mem_cons, List.not_mem_nil, or_false] at busy
  obtain work | work := busy <;> simp [setManual, auto, work]

theorem setManual_waiting (waiting : (b.crane c).work = .waiting) : setManual b c =
    (b.modCrane c fun r => { r with control := .manual, work := .idle, starveStart := none }).craneReasons c := by
  have ended : setManual b c = endWaiting (b.modCrane c fun r => { r with control := .manual }) c := by
    simp [setManual, auto, waiting]
  rw [ended, endWaiting, modCrane_modCrane]
  rfl

theorem setManual_granted (granted : (b.crane c).work = .granted) :
    setManual b c = withdraw (b.modCrane c fun r => { r with control := .manual }) c .manual := by
  simp [setManual, auto, granted]

end

theorem setManual_control (b : Berth) (c : Crane) : ((setManual b c).crane c).control = .manual := by
  cases control : (b.crane c).control with
  | manual => rw [setManual_manual control, control]
  | auto =>
    cases work : (b.crane c).work with
    | idle | lifting => rw [setManual_busy control (by simp [work]), Berth.crane_modCrane]
    | waiting => rw [setManual_waiting control work, Berth.crane_craneReasons, Berth.crane_modCrane]
    | granted =>
      rw [setManual_granted control work, withdraw_crane_same, Berth.crane_modCrane]
      rfl

theorem setAuto_auto {b : Berth} {c : Crane} (auto : (b.crane c).control = .auto) : setAuto b c = b := by
  simp [setAuto, auto]

theorem setAuto_manual {b : Berth} {c : Crane} (manual : (b.crane c).control = .manual) :
    setAuto b c = (b.modCrane c fun r => { r with control := .auto }).owePromotion := by
  simp [setAuto, manual]

/-- R36: the wait reasons written. -/
theorem craneReasons_tickets (b : Berth) (c : Crane) : (b.craneReasons c).tickets =
    b.tickets.map fun t => if t.crane = c ∧ t.state = .pending then { t with reason := .crane } else t :=
  List.map_congr_left fun t _ => if_congr (by simp) rfl rfl

/-- R35: the end of a waiting period. -/
theorem endWaiting_records (b : Berth) (c : Crane) : let b' := endWaiting b c
    b'.crane c = { b.crane c with work := .idle, starveStart := none } ∧ (∀ d, d ≠ c → b'.crane d = b.crane d)
    ∧ b'.tickets = b.tickets.map (fun t => if t.crane = c ∧ t.state = .pending then { t with reason := .crane } else t) :=
  ⟨Berth.crane_modCrane .., fun _ other => Berth.crane_modCrane_other _ _ _ _ other, craneReasons_tickets _ c⟩

/-- Settles O31. -/
theorem craneReports : Obligations.CraneReports := by
  refine ⟨fun s c speaks => ?_, fun b c => ?_, fun b c => ⟨setAuto_auto, setAuto_manual⟩, endWaiting_records⟩
  · refine ⟨craneFrame speaks rfl (by decide) rfl (by decide) rfl, fun idle going auto => ?_, fun waiting => ?_,
      fun free bay low => ?_, craneFrame speaks rfl (by decide) rfl (by decide) rfl,
      craneFrame speaks rfl (by decide) rfl (by decide) rfl⟩
    · exact craneFrame speaks rfl (by decide) rfl (by decide) (askReport_idle idle going auto)
    · exact craneFrame speaks rfl (by decide) rfl (by decide) (standbyReport_waiting waiting)
    · exact craneFrame (body := [bay]) speaks rfl (by decide) rfl (by simp [maxFrameBody])
        (positionReport_free free low)
  · exact ⟨setManual_manual, fun auto => ⟨setManual_busy auto, setManual_waiting auto, setManual_granted auto⟩,
      setManual_control b c⟩

/-! ## Refusals (O33) -/

theorem lifted_iff (w : WorkState) : w.lifted = true ↔ w = .granted ∨ w = .lifting := by cases w <;> simp [WorkState.lifted]

theorem not_lifted_iff (w : WorkState) : w.lifted = false ↔ w = .idle ∨ w = .waiting := by cases w <;> simp [WorkState.lifted]

/-- Settles O33. -/
theorem reportRefusals : Obligations.ReportRefusals := by
  refine ⟨fun b c => ⟨?_, ?_, ?_, ?_, ?_⟩, fun b c n => ⟨?_, ?_, ?_, ?_, ?_, ?_⟩, fun b c n tag => ⟨?_, ?_, ?_, ?_⟩⟩
  · intro halt
    simp [askReport, halt]
  · intro going manual
    simp [askReport, going, manual]
  · intro going auto busy
    obtain work | work := (lifted_iff _).1 busy <;> simp [askReport, going, auto, work]
  · intro busy
    obtain work | work := (lifted_iff _).1 busy <;> simp [standbyReport, positionReport, work]
  · intro free bay high
    obtain work | work := (not_lifted_iff _).1 free <;> simp [positionReport, work, Nat.not_le.2 high]
  · intro auto other expired
    simp only [lockOnReport, auto, other, expired, and_false, Bool.false_eq_true, if_false, if_true]
  · intro auto other unexpired
    simp only [lockOnReport, auto, other, unexpired, and_false, Bool.false_eq_true, if_false]
  · intro lifting own
    have own : n ∈ (b.crane c).lift := by simpa using own
    simp [lockOnReport, lifting, own]
  · intro idle k
    simp [setDownReport, abandonReport, idle]
  · intro lifting other k
    have other : n ∉ (b.crane c).lift := by simpa using other
    simp [setDownReport, abandonReport, lifting, other]
  · intro lifting own gone k
    have own : n ∈ (b.crane c).lift := by simpa using own
    simp [setDownReport, lifting, own, gone]
  · intro unknown
    simp [manualPick, unknown]
  · intro t named halt
    simp [manualPick, named, halt]
  · intro t named going state
    simp [manualPick, named, going, state]
  · intro t e named going own pending fails
    simp [manualPick, named, going, own, pending, fails]

/-! ## LOCK_ON, SET_DOWN and ABANDON (O34) -/

@[simp] theorem word24At_after16 (n : BitVec 16) (tag : Tag) : word24At (bytes16 n ++ bytes24 tag) 2 = tag := bytes24_join tag

section

variable {b : Berth} {c : Crane} {n : TicketNo} (own : (b.crane c).lift.contains n = true)
include own

theorem lockOnReport_granted (granted : (b.crane c).work = .granted) (tag : Option Tag) :
    lockOnReport b c n tag = (lockOn b c, accept) := by
  simp only [lockOnReport, granted, own, and_self, if_true]

theorem setDownReport_lands (lifting : (b.crane c).work = .lifting) (target : b.targetGone c = false) (k : Bool) :
    setDownReport b c n k = (land b c k, accept) := by
  simp only [setDownReport, lifting, own, target, ne_eq, not_true_eq_false, Bool.not_true, Bool.false_eq_true, if_false]

theorem abandonReport_abandons (lifting : (b.crane c).work = .lifting) : abandonReport b c n = (abandonLift b c, accept) := by
  simp only [abandonReport, lifting, own, ne_eq, not_true_eq_false, Bool.not_true, Bool.false_eq_true, if_false]

end

theorem lockOnReport_pick {b : Berth} {c : Crane} (idle : (b.crane c).work = .idle) (manual : (b.crane c).control = .manual)
    (n : TicketNo) (tag : Option Tag) : lockOnReport b c n tag = manualPick b c n tag := by
  simp [lockOnReport, idle, manual]

/-- Settles O34. -/
theorem liftReports : Obligations.LiftReports := by
  refine ⟨fun s c n speaks => ?_, fun s c n speaks => ?_⟩
  · intro st b own
    refine ⟨fun granted => ?_, fun lifting target x => ?_, fun lifting => ?_⟩
    · refine craneFrame speaks rfl (by decide) rfl (by simp [maxFrameBody]) ?_
      show lockOnReport b c (word16At (bytes16 n) 0) none = _
      rw [word16At_bytes16_nil, lockOnReport_granted own granted]
    · refine craneFrame speaks rfl (by decide) rfl (by simp [maxFrameBody]) ?_
      show setDownReport b c (word16At (bytes16 n ++ [x]) 0) (x != 0) = _
      rw [word16At_bytes16, setDownReport_lands own lifting target]
    · refine craneFrame speaks rfl (by decide) rfl (by simp [maxFrameBody]) ?_
      show abandonReport b c (word16At (bytes16 n) 0) = _
      rw [word16At_bytes16_nil, abandonReport_abandons own lifting]
  · intro st b idle manual
    refine ⟨?_, fun tag => ?_⟩
    · refine craneFrame speaks rfl (by decide) rfl (by simp [maxFrameBody]) ?_
      show lockOnReport b c (word16At (bytes16 n) 0) none = _
      rw [word16At_bytes16_nil, lockOnReport_pick idle manual]
    · refine craneFrame speaks rfl (by decide) rfl (by simp [maxFrameBody]) ?_
      show lockOnReport b c (word16At (bytes16 n ++ bytes24 tag) 0) (tagOf? (word24At (bytes16 n ++ bytes24 tag) 2)) = _
      rw [word16At_bytes16, word24At_after16, lockOnReport_pick idle manual]

end Sys2Proof.Machine

/-! # Link states (R161, R162)

No report of a station and no report of an order writes a station record. -/

namespace Sys2Proof.Machine

/-! ## What follows a change -/

@[simp] theorem settle_stations (b : Berth) : (settle b).qlc.stations = b.qlc.stations := by
  have fixed := settle_fixed b
  simp only [Berth.fixed, Prod.mk.injEq] at fixed
  obtain ⟨-, -, -, -, -, stations, -⟩ := fixed
  exact stations

@[simp] theorem makeGrant_stations (b : Berth) (c : Crane) (k : Candidate) (truck : Option Truck) (pick : Bool) :
    (makeGrant b c k truck pick).qlc.stations = b.qlc.stations := by
  have fixed := makeGrant_fixed b c k truck pick
  simp only [Berth.fixed, Prod.mk.injEq] at fixed
  obtain ⟨-, -, -, -, -, stations, -⟩ := fixed
  exact stations

@[simp] theorem settleIf_stations (b b' : Berth) : (settleIf b b').qlc.stations = b'.qlc.stations := by
  unfold settleIf
  split
  · next same => rw [same]
  · exact settle_stations b'

/-! ## Gangs -/

@[simp] theorem leaveDeckRequest_stations (b : Berth) (g : Gang) : (leaveDeckRequest b g).qlc.stations = b.qlc.stations := by
  unfold leaveDeckRequest; dsimp only; split <;> simp

@[simp] theorem giveUpTasks_stations (b : Berth) (g : Gang) : (b.giveUpTasks g).qlc.stations = b.qlc.stations :=
  foldl_keeps (·.qlc.stations) _ (fun b n => congrArg (·.stations) (Berth.setTaskState_qlc b n .opened)) ..

@[simp] theorem keepActive_stations (b : Berth) (g : Gang) : (keepActive b g).qlc.stations = b.qlc.stations :=
  foldl_keeps (fun b : Berth => b.qlc.stations) _ (by intros; rfl) ..

@[simp] theorem deckRequest_stations (b : Berth) (g : Gang) (n : TaskNo) :
    (deckRequest b g n).1.qlc.stations = b.qlc.stations := by
  unfold deckRequest
  dsimp only
  split
  · rfl
  · repeat' split
    all_goals rfl

@[simp] theorem taskDoneReport_stations (b : Berth) (g : Gang) (n : TaskNo) :
    (taskDoneReport b g n).1.qlc.stations = b.qlc.stations := by
  unfold taskDoneReport
  dsimp only
  split
  · rfl
  · split
    · split <;> [(split <;> rfl); rfl]
    · rfl

@[simp] theorem dropIfOwedToNobody_stations (b : Berth) (g : Gang) :
    (dropIfOwedToNobody b g).qlc.stations = b.qlc.stations := by
  unfold dropIfOwedToNobody; split <;> [(split <;> rfl); rfl]

@[simp] theorem comeOffDeck_stations (b : Berth) (g : Gang) (giveUp : Bool) :
    (comeOffDeck b g giveUp).qlc.stations = b.qlc.stations := by
  unfold comeOffDeck
  dsimp only
  split
  · simp
  · split
    · simp
    · split
      · split <;> simp
      · simp

@[simp] theorem offDeckReport_stations (b : Berth) (g : Gang) : (offDeckReport b g).1.qlc.stations = b.qlc.stations := by
  unfold offDeckReport; split <;> simp

@[simp] theorem gangDelivered_stations (b : Berth) (g : Gang) (body : OrderBody) :
    (gangDelivered b g body).qlc.stations = b.qlc.stations := by
  unfold gangDelivered; split <;> [(split <;> rfl); rfl]

@[simp] theorem gangUndelivered_stations (b : Berth) (g : Gang) (body : OrderBody) :
    (gangUndelivered b g body).qlc.stations = b.qlc.stations := by
  unfold gangUndelivered
  split
  · split <;> simp
  · split <;> [(split <;> simp); rfl]
  · rfl

@[simp] theorem gangOffline_stations (b : Berth) (g : Gang) : (gangOffline b g).qlc.stations = b.qlc.stations := by
  unfold gangOffline; dsimp only; split <;> simp

/-! ## Trucks -/

@[simp] theorem admitToHolding_stations (b : Berth) (t : Truck) : (admitToHolding b t).1.qlc.stations = b.qlc.stations := by
  unfold admitToHolding; split <;> [(dsimp only; split <;> rfl); rfl]

@[simp] theorem admitToStand_stations (b : Berth) (t : Truck) (c : Crane) (l : Lane) :
    (admitToStand b t c l).1.qlc.stations = b.qlc.stations := by
  unfold admitToStand; dsimp only; split <;> rfl

@[simp] theorem takeIn_stations (b : Berth) (tag : Tag) (chassis : Chassis) (cargo : List ContainerId) (u : Bool) :
    (takeIn b tag chassis cargo u).1.qlc.stations = b.qlc.stations := by
  unfold takeIn
  dsimp only
  split
  · rfl
  · simp
  · split <;> [simp; (split <;> simp)]

@[simp] theorem arriveReport_stations (b : Berth) (body : List Byte) :
    (arriveReport b body).1.qlc.stations = b.qlc.stations := by
  unfold arriveReport
  dsimp only
  split
  · rfl
  · split <;> [rfl; (split <;> [rfl; (split <;> [rfl; simp])])]

/-! ## Grants and lifts -/

@[simp] theorem withdraw_stations (b : Berth) (c : Crane) (cause : Cause) :
    (withdraw b c cause).qlc.stations = b.qlc.stations := by
  rw [withdraw_keeps (fun b => b.qlc.stations) (fun _ _ => rfl) (fun _ => rfl) fun _ _ => rfl, releaseCraneClaim_qlc_stations]
  exact unbound_keeps (fun b => b.qlc.stations) (fun _ => rfl) (fun _ _ => rfl) b

@[simp] theorem lockOn_stations (b : Berth) (c : Crane) : (lockOn b c).qlc.stations = b.qlc.stations :=
  lockOn_keeps (·.qlc.stations) (fun _ _ _ _ _ => rfl) b c

@[simp] theorem land_stations (b : Berth) (c : Crane) (k : Bool) : (land b c k).qlc.stations = b.qlc.stations := by
  rw [OffTable.eq (f := fun b => b.qlc.stations) (fun _ => rfl) (land_offTable b c k), releaseCraneClaim_qlc_stations]
  exact (landOnTruck_standOnly b c).eq (fun b => b.qlc.stations) fun _ => rfl

@[simp] theorem abandonLift_stations (b : Berth) (c : Crane) : (abandonLift b c).qlc.stations = b.qlc.stations := by
  rw [abandonLift_keeps (fun b => b.qlc.stations) fun _ _ => rfl]
  exact (releaseCraneClaim_qlc_stations ..).trans (givenBack_keeps (fun b => b.qlc.stations) (fun _ => rfl) (fun _ _ => rfl) b)

@[simp] theorem removeTruck_stations (b : Berth) (p : Place) : (removeTruck b p).qlc.stations = b.qlc.stations := by
  have dropped : ∀ (b : Berth) (c : Crane) (t : Truck), (dropEntry b c t).qlc.stations = b.qlc.stations := fun _ _ _ => rfl
  unfold removeTruck
  split
  · rfl
  · split
    · split
      · rw [dropped, withdraw_stations]
      · rw [dropped]; rfl
      · exact dropped ..
      · exact dropped ..
    · exact dropped ..

@[simp] theorem setManual_stations (b : Berth) (c : Crane) : (setManual b c).qlc.stations = b.qlc.stations := by
  unfold setManual; dsimp only; split <;> [rfl; (split <;> simp [endWaiting])]

@[simp] theorem setAuto_stations (b : Berth) (c : Crane) : (setAuto b c).qlc.stations = b.qlc.stations := by
  unfold setAuto; split <;> rfl

@[simp] theorem craneOffline_stations (b : Berth) (c : Crane) : (craneOffline b c).qlc.stations = b.qlc.stations := by
  unfold craneOffline; split <;> simp [endWaiting]

@[simp] theorem askReport_stations (b : Berth) (c : Crane) : (askReport b c).1.qlc.stations = b.qlc.stations := by
  unfold askReport; dsimp only; split <;> [rfl; (split <;> [rfl; (split <;> rfl)])]

@[simp] theorem standbyReport_stations (b : Berth) (c : Crane) : (standbyReport b c).1.qlc.stations = b.qlc.stations := by
  unfold standbyReport; split <;> rfl

@[simp] theorem positionReport_stations (b : Berth) (c : Crane) (bay : Bay) :
    (positionReport b c bay).1.qlc.stations = b.qlc.stations := by
  unfold positionReport
  split
  case h_1 | h_2 => rfl
  all_goals split <;> rfl

@[simp] theorem manualPick_stations (b : Berth) (c : Crane) (n : TicketNo) (tag : Option Tag) :
    (manualPick b c n tag).1.qlc.stations = b.qlc.stations := by
  unfold manualPick
  dsimp only
  split <;> [rfl; (split <;> [rfl; (split <;> [rfl; (split <;> simp)])])]

@[simp] theorem lockOnReport_stations (b : Berth) (c : Crane) (n : TicketNo) (tag : Option Tag) :
    (lockOnReport b c n tag).1.qlc.stations = b.qlc.stations := by
  unfold lockOnReport
  dsimp only
  split
  · simp
  · split
    · rfl
    · split <;> split <;> simp

@[simp] theorem setDownReport_stations (b : Berth) (c : Crane) (n : TicketNo) (k : Bool) :
    (setDownReport b c n k).1.qlc.stations = b.qlc.stations := by
  unfold setDownReport; dsimp only; split <;> [rfl; (split <;> [rfl; (split <;> [rfl; simp])])]

@[simp] theorem abandonReport_stations (b : Berth) (c : Crane) (n : TicketNo) :
    (abandonReport b c n).1.qlc.stations = b.qlc.stations := by
  unfold abandonReport; dsimp only; split <;> [rfl; (split <;> [rfl; simp])]

@[simp] theorem departReport_stations (b : Berth) (tag : Tag) : (departReport b tag).1.qlc.stations = b.qlc.stations := by
  unfold departReport; split <;> simp

/-! ## Reports -/

/-- R166: an owner's report writes no station record. -/
@[simp] theorem ownReport_stations (b : Berth) (r : Role) (kind : Byte) (body : List Byte) :
    (ownReport b r kind body).1.qlc.stations = b.qlc.stations := by
  unfold ownReport
  split
  · rfl
  · split
    all_goals
      repeat' split
      all_goals simp

/-- R176: nor does an owner's taking of an order's report. -/
@[simp] theorem ownerReport_stations (b : Berth) (r : Role) (body : OrderBody) (d : Bool) :
    (ownerReport b r body d).qlc.stations = b.qlc.stations := by
  have crane : ∀ c, (craneUndelivered b c body).qlc.stations = b.qlc.stations := fun c => by
    unfold craneUndelivered; split <;> [(split <;> simp); rfl]
  have returned : ∀ (b : Berth) (c : Crane) (t : Truck), (returnToHolding b c t).qlc.stations = b.qlc.stations :=
    fun _ _ _ => rfl
  have promote : (promoteUndelivered b body).qlc.stations = b.qlc.stations := by
    unfold promoteUndelivered
    split
    · split
      · rfl
      · split
        · rfl
        · rw [returned, withdraw_stations]
        · rfl
    · rfl
  unfold ownerReport
  split
  · split <;> [rfl; exact crane _]
  · split <;> simp
  · rw [Berth.owePromotion_qlc]; split <;> [rfl; exact promote]
  all_goals rfl

theorem station_congr {b b' : Berth} (h : b'.qlc.stations = b.qlc.stations) (st : Station) : b'.station st = b.station st :=
  congrArg (·[st]) h

end Sys2Proof.Machine

/-! # A station's good frame (O32) -/

namespace Sys2Proof.Machine

/-! ## The return of a station -/

/-- R162: what makes an OFFLINE station ONLINE. -/
def returned (b : Berth) (st : Station) : Berth := b.modStation st fun r => { r with online := true, fails := 0 }

/-- R100: the return of a crane or of GATE-IN owes a promotion check. -/
def Role.owesPromotion : Role → Bool
  | .crane _ | .gateIn => true
  | .gateOut | .gang _ | .unassigned | .self => false

theorem roleOf_owesPromotion (st : Station) : (roleOf st).owesPromotion = (decide (st.val < 8) || st == gateIn) := by
  revert st; decide

theorem makeOnline_offline {b : Berth} {st : Station} (offline : b.online st = false) : makeOnline b st =
    if (roleOf st).owesPromotion then (returned b st).owePromotion else returned b st := by
  simp only [makeOnline, offline, Bool.false_eq_true, if_false]
  cases roleOf st <;> rfl

theorem makeOnline_stations {b : Berth} {st : Station} (offline : b.online st = false) :
    (makeOnline b st).qlc.stations = (returned b st).qlc.stations := by
  rw [makeOnline_offline offline]
  split <;> rfl

/-- R162: the return writes the station's record and owes a promotion check where its role asks for one. -/
theorem makeOnline_records {b : Berth} {st : Station} (offline : b.online st = false) :
    (makeOnline b st).station st = { online := true, fails := 0, heard := (b.station st).heard }
    ∧ (∀ x, x ≠ st → (makeOnline b st).station x = b.station x)
    ∧ makeOnline b st = { b with
        qlc := { b.qlc with stations := (makeOnline b st).qlc.stations }
        shu := { b.shu with promotionDue := b.shu.promotionDue || st.val < 8 || st == gateIn } } := by
  have stations := makeOnline_stations offline
  refine ⟨?_, fun x other => ?_, ?_⟩
  · rw [station_congr stations]
    exact Berth.station_modStation ..
  · rw [station_congr stations]
    exact Berth.station_modStation_other _ _ _ _ other
  · rw [stations, Bool.or_assoc, ← roleOf_owesPromotion, makeOnline_offline offline]
    cases (roleOf st).owesPromotion
    · simp only [Bool.false_eq_true, if_false, Bool.or_false]; rfl
    · simp only [if_true, Bool.or_true]; rfl

/-- R162: after its good frame a station is ONLINE, with fail count 0 if it was OFFLINE. -/
theorem makeOnline_station (b : Berth) (st : Station) : (makeOnline b st).station st =
    { online := true, fails := if b.online st then (b.station st).fails else 0, heard := (b.station st).heard } := by
  cases link : b.online st with
  | true =>
    rw [makeOnline_online link]
    have online : (b.station st).online = true := link
    simp only [← online, if_true]
  | false => exact (makeOnline_records link).1

/-! ## HELLO -/

theorem ownReport_hello (b : Berth) (r : Role) : ownReport b r kindHello [] = (b, accept) := by
  cases r <;> rfl

theorem kinds_hello {st : Station} (low : st.val < 14) : (roleOf st).kinds.contains kindHello = true := by
  revert st; decide

/-- A frame that passes the checks of R163 and R164 where no window is open is handed to its owner. -/
theorem goodFrame_handed {b : Berth} {st : Station} {cls : BitVec 2} {kind : Byte} {body : List Byte}
    (closed : b.qlc.window = none) (low : st.val < 14) (report : kind ≠ kindReply)
    (sends : (roleOf st).kinds.contains kind = true) (cls_ : cls = classOf kind) (allowed : lengthAllowed kind body = true) :
    goodFrame b st cls kind body = handFrame (heardFrom b st) st kind body := by
  have window : (heardFrom b st).qlc.window = none := closed
  have taken : goodFrame b st cls kind body = takeFrame (heardFrom b st) st cls kind body := by
    show (match (heardFrom b st).qlc.window with
      | some a => _
      | none => takeFrame (heardFrom b st) st cls kind body) = _
    rw [window]
  have known : ¬ (14 ≤ st.val ∨ kind = kindReply) := by
    rintro (high | reply)
    · omega
    · exact report reply
  have matched : ¬ ((!(roleOf st).kinds.contains kind || cls != classOf kind) = true) := by rw [sends, cls_]; simp
  rw [taken, takeFrame, if_neg known, if_neg matched, if_neg (by simp [allowed])]

theorem handFrame_hello {b : Berth} {st : Station} (mode : b.mode = .run ∨ b.mode = .config) :
    handFrame b st kindHello [] = sendReply (settleIf b (makeOnline b st)) st accept := by
  unfold handFrame
  obtain mode | mode := mode
  · rw [mode]
    dsimp only
    rw [ownReport_hello]
  · rw [mode]
    dsimp only
    rw [if_pos (by decide), ownReport_hello]

theorem exec_hello {s : State} {st : Station} (ready : LinkReady s) (mode : s.berth.mode = .run ∨ s.berth.mode = .config)
    (low : st.val < 14) : exec (.hello (frameOf st 1 [])) s =
      .next (replied s st (makeOnline (heardFrom s.berth st) st) accept) := by
  obtain ⟨live, closed⟩ := ready
  refine congrArg Host.Outcome.next ?_
  rw [berthEvent_taken _ _ live]
  have frame : frameEvent kindHello (frameOf st 1 []) s.berth = handFrame (heardFrom s.berth st) st kindHello [] :=
    goodFrame_handed (cls := 1) closed low (by decide) (kinds_hello low) (by decide) rfl
  rw [frame, handFrame_hello (by exact mode)]
  rfl

/-! ## Every frame that is handed on -/

theorem handFrame_stations {b : Berth} (st : Station) (kind : Byte) (body : List Byte) (mode : b.mode ≠ .monitor) :
    (handFrame b st kind body).qlc.stations = (makeOnline b st).qlc.stations := by
  have sent : ∀ x r, (sendReply (settleIf b x) st r).qlc.stations = x.qlc.stations := fun x r => settleIf_stations b x
  unfold handFrame
  split
  · next monitor => exact absurd monitor mode
  · dsimp only
    rw [sent]
    split
    · exact ownReport_stations ..
    · rfl
  · dsimp only
    rw [sent, ownReport_stations]

theorem heardFrom_station (b : Berth) (st : Station) : (heardFrom b st).station st = { b.station st with heard := true } :=
  Berth.station_modStation ..

/-- Settles O32. -/
theorem stationsReturn : Obligations.StationsReturn := by
  refine ⟨fun s st ready mode low => exec_hello ready mode low, fun b st => ⟨makeOnline_online, makeOnline_records⟩,
    fun b st cls kind body closed mode low report sends cls_ allowed => ?_⟩
  rw [goodFrame_handed closed low report sends cls_ allowed]
  rw [station_congr (handFrame_stations st kind body (b := heardFrom b st) mode), makeOnline_station, heardFrom_online, heardFrom_station]

end Sys2Proof.Machine

/-! # The truck match and the checks (R39, R87, R88; O47) -/

namespace Sys2Proof.Machine

/-! ## The entries to match -/

/-- R59: the entries of a stand that a pick's tag leaves. -/
def Berth.pinned (b : Berth) (c : Crane) (pin : Option Tag) : List Truck :=
  (b.stand c).filter fun t => pin == none || pin == some t.tag

theorem pinned_mem {b : Berth} {c : Crane} {pin : Option Tag} {t : Truck} (mem : t ∈ b.pinned c pin) : t ∈ b.stand c :=
  List.mem_of_mem_filter mem

theorem pinned_none (b : Berth) (c : Crane) : b.pinned c none = b.stand c := by simp [Berth.pinned]

theorem pinned_some (b : Berth) (c : Crane) (tag : Tag) : b.pinned c (some tag) = (b.stand c).filter fun t => t.tag == tag := by
  refine List.filter_congr fun t _ => ?_
  show (false || tag == t.tag) = (t.tag == tag)
  rw [Bool.false_or, Bool.beq_comm]

/-- Check 4 of R39, by the candidate's kind. -/
theorem truckMatch_eq (b : Berth) (c : Crane) (k : Candidate) (pin : Option Tag) :
    (k.lead.kind ∈ [Kind.restow, .hatch] → truckMatch b c k pin = .ok none)
    ∧ (k.lead.kind = .discharge → truckMatch b c k pin = (matchDischarge (b.pinned c pin) k).map some)
    ∧ (k.lead.kind = .load → truckMatch b c k pin = (matchLoad (b.pinned c pin) k).map some) := by
  refine ⟨fun kind => ?_, fun kind => ?_, fun kind => ?_⟩
  · simp only [List.mem_cons, List.not_mem_nil, or_false] at kind
    obtain kind | kind := kind <;> simp only [truckMatch, kind]
  · cases pin <;> simp only [truckMatch, kind, pinned_none, pinned_some]
  · cases pin <;> simp only [truckMatch, kind, pinned_none, pinned_some]

/-! ## DISCHARGE (R87) -/

/-- R87: an entry that can take a candidate's landed containers. -/
def Candidate.carriedBy (k : Candidate) (t : Truck) : Prop := t.state = .waiting ∧ t.cargo = []
  ∧ (k.other = none → compatible k.lead.size t.chassis = true) ∧ (k.other ≠ none → t.chassis = .twin)

def Candidate.carriedTest (k : Candidate) (t : Truck) : Bool := t.state == .waiting && t.cargo.isEmpty &&
  (if k.other.isSome then t.chassis == .twin else compatible k.lead.size t.chassis)

theorem carriedTest_iff (k : Candidate) (t : Truck) : k.carriedTest t = true ↔ k.carriedBy t := by
  unfold Candidate.carriedTest Candidate.carriedBy
  cases k.other <;> simp [and_assoc]

theorem matchDischarge_eq (stand : List Truck) (k : Candidate) :
    matchDischarge stand k = match stand.find? k.carriedTest with
      | some t => .ok t
      | none => .error .truck := rfl

theorem matchDischarge_none {stand : List Truck} {k : Candidate} (none_ : ∀ t ∈ stand, ¬ k.carriedBy t) :
    matchDischarge stand k = .error .truck := by
  have found : stand.find? k.carriedTest = none := List.find?_eq_none.2 fun t mem => by
    rw [carriedTest_iff]; exact none_ t mem
  rw [matchDischarge_eq, found]

theorem matchDischarge_first {xs ys : List Truck} {t : Truck} {k : Candidate} (carries : k.carriedBy t)
    (first : ∀ u ∈ xs, ¬ k.carriedBy u) : matchDischarge (xs ++ t :: ys) k = .ok t := by
  have found : (xs ++ t :: ys).find? k.carriedTest = some t :=
    List.find?_eq_some_iff_append.2 ⟨(carriedTest_iff ..).2 carries, xs, ys, rfl, fun u mem => by
      simpa [← carriedTest_iff] using first u mem⟩
  rw [matchDischarge_eq, found]

theorem matchDischarge_mem {stand : List Truck} {k : Candidate} {t : Truck} (h : matchDischarge stand k = .ok t) :
    t ∈ stand ∧ t.state = .waiting := by
  rw [matchDischarge_eq] at h
  split at h
  · next found =>
    cases h
    exact ⟨List.mem_of_find?_eq_some found, ((carriedTest_iff ..).1 (List.find?_some found)).1⟩
  · cases h

/-- R87: which chassis carries which size. -/
theorem compatible_iff (size : Size) (ch : Chassis) : compatible size ch = true ↔
    (size = .s20 ∧ ch ∈ [Chassis.s20, .s40, .twin]) ∨ (size = .s40 ∧ ch ∈ [Chassis.s40, .x45, .twin])
    ∨ (size = .s45 ∧ ch = .x45) := by
  cases size <;> cases ch <;> simp [compatible]

/-! ## LOAD (R88) -/

/-- R88: an entry that waits with every container of a candidate. -/
def Candidate.heldBy (k : Candidate) (t : Truck) : Prop :=
  t.state = .waiting ∧ ∀ x ∈ k.tickets, ∃ id ∈ t.cargo, x.container = some id

def Candidate.heldTest (k : Candidate) (t : Truck) : Bool :=
  t.state == .waiting && k.tickets.all fun x => x.container.any fun id => t.cargo.contains id

theorem heldTest_iff (k : Candidate) (t : Truck) : k.heldTest t = true ↔ k.heldBy t := by
  simp [Candidate.heldTest, Candidate.heldBy, Option.any_eq_true, and_comm]

theorem matchLoad_eq (stand : List Truck) (k : Candidate) :
    matchLoad stand k = match stand.find? fun t => k.heldTest t && !t.unverified with
      | some t => .ok t
      | none => .error (if (stand.filter k.heldTest).isEmpty then .truck else .truckUnverified) := by
  have found : (stand.filter k.heldTest).find? (fun t => !t.unverified) =
      stand.find? fun t => k.heldTest t && !t.unverified := by
    rw [List.find?_filter]; congr; funext t; simp
  rw [← found]; rfl

theorem matchLoad_none {stand : List Truck} {k : Candidate} (none_ : ∀ t ∈ stand, ¬ k.heldBy t) :
    matchLoad stand k = .error .truck := by
  have unheld : ∀ t ∈ stand, ¬ k.heldTest t = true := fun t mem => by rw [heldTest_iff]; exact none_ t mem
  have found : (stand.find? fun t => k.heldTest t && !t.unverified) = none := List.find?_eq_none.2 fun t mem both =>
    unheld t mem (Bool.and_eq_true_iff.1 both).1
  rw [matchLoad_eq, found, List.filter_eq_nil_iff.2 unheld]
  rfl

theorem matchLoad_unverified {stand : List Truck} {k : Candidate} (some_ : ∃ t ∈ stand, k.heldBy t)
    (unverified : ∀ t ∈ stand, k.heldBy t → t.unverified = true) : matchLoad stand k = .error .truckUnverified := by
  have found : (stand.find? fun t => k.heldTest t && !t.unverified) = none := List.find?_eq_none.2 fun t mem both => by
    obtain ⟨held, verified⟩ := Bool.and_eq_true_iff.1 both
    rw [unverified t mem ((heldTest_iff ..).1 held)] at verified
    cases verified
  obtain ⟨t, mem, held⟩ := some_
  have nonempty : (stand.filter k.heldTest).isEmpty = false :=
    List.isEmpty_eq_false_iff.2 (List.ne_nil_of_mem (List.mem_filter.2 ⟨mem, (heldTest_iff ..).2 held⟩))
  rw [matchLoad_eq, found, nonempty]
  rfl

theorem matchLoad_first {xs ys : List Truck} {t : Truck} {k : Candidate} (held : k.heldBy t) (verified : t.unverified = false)
    (first : ∀ u ∈ xs, k.heldBy u → u.unverified = true) : matchLoad (xs ++ t :: ys) k = .ok t := by
  have found : ((xs ++ t :: ys).find? fun t => k.heldTest t && !t.unverified) = some t :=
    List.find?_eq_some_iff_append.2 ⟨by rw [(heldTest_iff ..).2 held, verified]; rfl, xs, ys, rfl, fun u mem => by
      cases test : k.heldTest u with
      | false => rfl
      | true => rw [first u mem ((heldTest_iff ..).1 test)]; rfl⟩
  rw [matchLoad_eq, found]

theorem matchLoad_mem {stand : List Truck} {k : Candidate} {t : Truck} (h : matchLoad stand k = .ok t) :
    t ∈ stand ∧ t.state = .waiting := by
  rw [matchLoad_eq] at h
  split at h
  · next found =>
    cases h
    have test := List.find?_some (p := fun t => k.heldTest t && !t.unverified) found
    exact ⟨List.mem_of_find?_eq_some found, ((heldTest_iff ..).1 (Bool.and_eq_true_iff.1 test).1).1⟩
  · cases h

/-! ## The candidate that passes -/

theorem map_some_ok {x : Except Reason Truck} {t : Truck} (h : x.map some = .ok (some t)) : x = .ok t := by
  cases x with
  | error e => cases h
  | ok u => cases h; rfl

/-- Check 4 matches an entry of the crane's stand that waits. -/
theorem truckMatch_mem {b : Berth} {c : Crane} {k : Candidate} {pin : Option Tag} {t : Truck}
    (h : truckMatch b c k pin = .ok (some t)) : t ∈ b.stand c ∧ t.state = .waiting := by
  obtain ⟨free, discharge, load⟩ := truckMatch_eq b c k pin
  cases kind : k.lead.kind with
  | discharge =>
    obtain ⟨mem, waiting⟩ := matchDischarge_mem (map_some_ok ((discharge kind).symm.trans h))
    exact ⟨pinned_mem mem, waiting⟩
  | load =>
    obtain ⟨mem, waiting⟩ := matchLoad_mem (map_some_ok ((load kind).symm.trans h))
    exact ⟨pinned_mem mem, waiting⟩
  | restow | hatch => rw [free (by simp [kind])] at h; cases h

/-- R39: what is so of a candidate that passes the checks. -/
theorem checkCandidate_passed {b : Berth} {c : Crane} {k : Candidate} {pin : Option Tag} {e : Option Truck}
    (h : checkCandidate b c k pin = .ok e) : b.deckFree k.lead.bay = true ∧ b.clearanceFree c k.lead.bay = true
    ∧ (k.lashAfter = true → b.freeTasks ≠ 0) ∧ (∀ t ∈ k.tickets, t.lashState ≠ .awaiting)
    ∧ (k.lead.partner ≠ none → k.other ≠ none) ∧ truckMatch b c k pin = .ok e := by
  unfold checkCandidate at h
  split at h
  · cases h
  · next twin =>
    split at h
    · cases h
    · next lash =>
      split at h
      · cases h
      · next matched =>
        split_ifs at h with deck clearance pool
        cases h
        refine ⟨by simpa using deck, by simpa using clearance, fun after full => pool (by simp [after, full]),
          by simpa using lash, fun partner alone => twin ?_, matched⟩
        simp [alone, Option.isSome_iff_ne_none, partner]

end Sys2Proof.Machine

/-! # What a grant makes (R41, R60; O47) -/

namespace Sys2Proof.Machine

/-! ## The grant, step by step -/

/-- The crane record as a grant or a pick leaves it. -/
def CraneRec.grantedTo (r : CraneRec) (k : Candidate) (e : Option Truck) (due : Option QTime) (id : Nat) : CraneRec :=
  { r with
    work := .granted, grantTicket := some k.lead.number, grantPartner := k.other.map (·.number),
    grantBay := some k.lead.bay, grantTruck := e.map (·.tag), grantLane := e.bind (·.lane), due,
    lastExpired := none, starveStart := none, grantId := some id, liftStay := none }

/-- The tickets' and the crane record's parts of a grant. -/
def recorded (b : Berth) (c : Crane) (k : Candidate) (e : Option Truck) (pick : Bool) : Berth :=
  ({ b.modTickets k.numbers (grantTicketPart b.nowSecs e) with grants := b.grants + 1 } : Berth).modCrane c
    fun r => r.grantedTo k e (if pick then none else some (b.now.addSecs b.params.grantTime)) b.grants

/-- The matched entry is BOUND. -/
def bindTruck (b : Berth) (c : Crane) (e : Option Truck) : Berth :=
  match e with
  | some e => b.modEntries c (fun t => t.stay == e.stay) fun t => { t with state := .bound }
  | none => b

/-- The records of a grant and its claim. -/
def claimed (b : Berth) (c : Crane) (k : Candidate) (e : Option Truck) (pick : Bool) : Berth :=
  (bindTruck (recorded b c k e pick) c e).setCraneClaim c (some k.lead.bay)

def reserveFor (b : Berth) (k : Candidate) : Berth := if k.lashAfter then b.reserve else b

/-- The GRANT order of a candidate (R41). -/
def Candidate.order (k : Candidate) (e : Option Truck) (id : Nat) : OrderBody :=
  .grant k.lead.number (k.other.map (·.number)) k.lead.bay k.lead.row k.lead.tier (e.map (·.tag)) (e.bind (·.lane)) id

def postGrant (b : Berth) (c : Crane) (k : Candidate) (e : Option Truck) (pick : Bool) (id : Nat) : Berth :=
  if pick then b else b.postCrane c (k.order e id)

theorem makeGrant_eq (b : Berth) (c : Crane) (k : Candidate) (e : Option Truck) (pick : Bool) : makeGrant b c k e pick =
    (postGrant (reserveFor (claimed b c k e pick) k) c k e pick b.grants).craneReasons c := rfl

theorem bindTruck_standOnly (b : Berth) (c : Crane) (e : Option Truck) : StandOnly c (bindTruck b c e) b := by
  cases e with
  | none => exact Or.inl rfl
  | some e => exact Or.inr ⟨_, rfl⟩

theorem postGrant_keeps {α : Type} (f : Berth → α) {c : Crane} (posted : ∀ (b : Berth) o, f (b.postCrane c o) = f b) (b : Berth)
    (k : Candidate) (e : Option Truck) (pick : Bool) (id : Nat) : f (postGrant b c k e pick id) = f b := by
  cases pick
  · exact posted b _
  · rfl

theorem reserveFor_keeps {α : Type} (f : Berth → α) (slot : ∀ b : Berth, f b.reserve = f b) (b : Berth) (k : Candidate) :
    f (reserveFor b k) = f b := by
  unfold reserveFor
  split <;> [exact slot b; rfl]

/-- A reading that no wait reason, crane order or reservation changes is that of the records and the claim. -/
theorem makeGrant_keeps {α : Type} (f : Berth → α) {c : Crane} (reasons : ∀ b : Berth, f (b.craneReasons c) = f b)
    (posted : ∀ (b : Berth) o, f (b.postCrane c o) = f b) (slot : ∀ b : Berth, f b.reserve = f b) (b : Berth) (k : Candidate)
    (e : Option Truck) (pick : Bool) : f (makeGrant b c k e pick) = f (claimed b c k e pick) := by
  rw [makeGrant_eq, reasons, postGrant_keeps f posted, reserveFor_keeps f slot]

/-- A reading that the truck's part does not write either. -/
theorem claimed_keeps {α : Type} (f : Berth → α) {c : Crane} (claim : ∀ (b : Berth) x, f (b.setCraneClaim c x) = f b)
    (truck : ∀ (b : Berth) l, f (b.modStand c l) = f b) (b : Berth) (k : Candidate) (e : Option Truck) (pick : Bool) :
    f (claimed b c k e pick) = f (recorded b c k e pick) := by
  rw [claimed, claim]
  exact (bindTruck_standOnly _ c e).eq f (truck _)

section

variable (b : Berth) (c : Crane) (k : Candidate) (e : Option Truck) (pick : Bool)

/-! ## The records left -/

theorem makeGrant_crane (d : Crane) : (makeGrant b c k e pick).crane d = (recorded b c k e pick).crane d := by
  rw [makeGrant_keeps (fun b => b.crane d) (fun _ => rfl) (fun _ _ => rfl) fun _ => rfl]
  exact claimed_keeps (fun b => b.crane d) (fun _ _ => rfl) (fun _ _ => rfl) b k e pick

theorem makeGrant_crane_same : (makeGrant b c k e pick).crane c =
    (b.crane c).grantedTo k e (if pick then none else some (b.now.addSecs b.params.grantTime)) b.grants := by
  rw [makeGrant_crane]
  exact Berth.crane_modCrane ..

theorem makeGrant_claim_same : (makeGrant b c k e pick).craneClaim c = some k.lead.bay := by
  rw [makeGrant_keeps (fun b => b.craneClaim c) (fun _ => rfl) (fun _ _ => rfl) fun _ => rfl]
  exact Berth.craneClaim_setCraneClaim ..

theorem makeGrant_elsewhere {d : Crane} (h : d ≠ c) : (makeGrant b c k e pick).craneClaim d = b.craneClaim d
    ∧ (makeGrant b c k e pick).crane d = b.crane d ∧ (makeGrant b c k e pick).stand d = b.stand d := by
  have truck := bindTruck_standOnly (recorded b c k e pick) c e
  refine ⟨?_, ?_, ?_⟩
  · rw [makeGrant_keeps (fun b => b.craneClaim d) (fun _ => rfl) (fun _ _ => rfl) fun _ => rfl]
    exact (Berth.craneClaim_setCraneClaim_other _ _ _ _ h).trans (truck.eq (fun b => b.craneClaim d) fun _ => rfl)
  · rw [makeGrant_crane]
    exact Berth.crane_modCrane_other _ _ _ _ h
  · rw [makeGrant_keeps (fun b => b.stand d) (fun _ => rfl) (fun _ _ => rfl) fun _ => rfl]
    exact truck.others h

theorem makeGrant_gangClaims : (makeGrant b c k e pick).bct.gangClaims = b.bct.gangClaims := by
  rw [makeGrant_keeps (fun b => b.bct.gangClaims) (fun _ => rfl) (fun _ _ => rfl) fun _ => rfl]
  exact claimed_keeps (fun b => b.bct.gangClaims) (fun _ _ => rfl) (fun _ _ => rfl) b k e pick

theorem makeGrant_waiters : (makeGrant b c k e pick).bct.waiters = b.bct.waiters := by
  rw [makeGrant_keeps (fun b => b.bct.waiters) (fun _ => rfl) (fun _ _ => rfl) fun _ => rfl]
  exact claimed_keeps (fun b => b.bct.waiters) (fun _ _ => rfl) (fun _ _ => rfl) b k e pick

/-- R85: the matched entry is BOUND in its place. -/
theorem makeGrant_stand : (makeGrant b c k e pick).stand c =
    (b.stand c).map fun t => if e.any (fun x => x.stay == t.stay) then { t with state := .bound } else t := by
  rw [makeGrant_keeps (fun b => b.stand c) (fun _ => rfl) (fun _ _ => rfl) fun _ => rfl]
  show (bindTruck (recorded b c k e pick) c e).stand c = _
  cases e with
  | none => exact (List.map_id _).symm
  | some x =>
    refine (stand_modEntries ..).trans (List.map_congr_left fun t _ => if_congr ?_ rfl rfl)
    simp only [Option.any_some, beq_iff_eq]
    exact eq_comm

theorem makeGrant_ltu : (makeGrant b c k e pick).ltu =
    { b.ltu with reserved := if k.lashAfter then b.ltu.reserved + 1 else b.ltu.reserved } := by
  have kept : (claimed b c k e pick).ltu = b.ltu := claimed_keeps (·.ltu) (fun _ _ => rfl) (fun _ _ => rfl) b k e pick
  rw [makeGrant_eq, Berth.craneReasons_ltu, postGrant_keeps (·.ltu) fun _ _ => rfl]
  unfold reserveFor
  split
  · show ({ (claimed b c k e pick).ltu with reserved := (claimed b c k e pick).ltu.reserved + 1 } : Lashing) = _
    rw [kept]
  · exact kept

/-- The board before the GRANT is posted. -/
theorem reserved_qlc : (reserveFor (claimed b c k e pick) k).qlc = b.qlc :=
  (reserveFor_keeps (·.qlc) (fun _ => rfl) ..).trans (claimed_keeps (·.qlc) (fun _ _ => rfl) (fun _ _ => rfl) b k e pick)

theorem makeGrant_posts : (makeGrant b c k e pick).qlc.craneSlots[c] =
    if pick then b.qlc.craneSlots[c] else (b.qlc.craneSlots[c]).post (k.order e b.grants) b.now := by
  have board := reserved_qlc b c k e pick
  have now : (reserveFor (claimed b c k e pick) k).now = b.now :=
    (reserveFor_keeps (·.now) (fun _ => rfl) ..).trans (claimed_keeps (·.now) (fun _ _ => rfl) (fun _ _ => rfl) b k e pick)
  rw [makeGrant_eq, Berth.craneReasons_qlc]
  cases pick with
  | true => exact congrArg (·.craneSlots[c]) board
  | false =>
    show (modAt (reserveFor (claimed b c k e false) k).qlc.craneSlots c _)[c] = _
    rw [modAt_same, now, board]
    rfl

/-- R60: a pick posts no order. -/
theorem makeGrant_pick_qlc : (makeGrant b c k e true).qlc = b.qlc := reserved_qlc b c k e true

/-! ## The tickets left -/

theorem makeGrant_tickets : (makeGrant b c k e pick).tickets =
    ((b.modTickets k.numbers (grantTicketPart b.nowSecs e)).craneReasons c).tickets := by
  have kept : (postGrant (reserveFor (claimed b c k e pick) k) c k e pick b.grants).tickets =
      (b.modTickets k.numbers (grantTicketPart b.nowSecs e)).tickets :=
    (postGrant_keeps (·.tickets) (fun _ _ => rfl) ..).trans ((reserveFor_keeps (·.tickets) (fun _ => rfl) ..).trans
      (claimed_keeps (·.tickets) (fun _ _ => rfl) (fun _ _ => rfl) b k e pick))
  rw [makeGrant_eq]
  exact congrArg (List.map _) kept

variable {b c k e pick}

theorem makeGrant_mem {t : Ticket} (mem : t ∈ b.tickets) (own : t.number ∈ k.numbers) :
    grantTicketPart b.nowSecs e t ∈ (makeGrant b c k e pick).tickets := by
  rw [makeGrant_tickets]
  exact craneReasons_mem (List.mem_map.2 ⟨t, mem, if_pos (by simpa using own)⟩) (by simp [grantTicketPart])

/-- What a grant and the wait reasons after it make of a ticket. -/
def regranted (secs : BitVec 32) (ns : List TicketNo) (c : Crane) (e : Option Truck) (t : Ticket) : Ticket :=
  if ns.contains t.number then grantTicketPart secs e t
  else if t.crane = c ∧ t.state = .pending then { t with reason := .crane } else t

theorem makeGrant_tickets_map : (makeGrant b c k e pick).tickets = b.tickets.map (regranted b.nowSecs k.numbers c e) := by
  rw [makeGrant_tickets, craneReasons_tickets]
  refine List.map_map.trans (List.map_congr_left fun t _ => ?_)
  unfold regranted
  by_cases own : k.numbers.contains t.number = true
  · simp only [Function.comp, if_pos own]
    exact if_neg fun pending => by simp [grantTicketPart] at pending
  · simp only [Function.comp, if_neg own]

theorem regranted_pending {secs : BitVec 32} {ns : List TicketNo} {t : Ticket} :
    ((regranted secs ns c e t).crane = c ∧ (regranted secs ns c e t).state = .pending) ↔
      (t.crane = c ∧ t.state = .pending) ∧ ns.contains t.number = false := by
  unfold regranted
  split_ifs with own pending
  · exact ⟨fun h => by simp [grantTicketPart] at h, fun h => absurd own (by rw [h.2]; decide)⟩
  · exact ⟨fun h => ⟨h, Bool.eq_false_iff.2 own⟩, And.left⟩
  · exact ⟨fun h => absurd h pending, fun h => absurd h.1 pending⟩

theorem filter_map_filterMap {α : Type} {p : α → Bool} {f : α → α} {g : α → Option α}
    (point : ∀ x, (if p (f x) then some (f x) else none) = if p x then g x else none) (l : List α) :
    (l.map f).filter p = (l.filter p).filterMap g := by
  induction l with
  | nil => rfl
  | cons x xs ih =>
    have here := point x
    rw [List.map_cons, List.filter_cons, List.filter_cons, ih]
    cases before : p x <;> cases after : p (f x) <;> rw [before, after] at here
    · rfl
    · cases here
    · simp [← show none = g x from here]
    · simp [← show some (f x) = g x from here]

/-- R36, R41: the other tickets stay PENDING, with CRANE. -/
theorem makeGrant_pendingOf : (makeGrant b c k e pick).pendingOf c = (b.pendingOf c).filterMap fun t =>
    if k.numbers.contains t.number then none else some { t with reason := .crane } := by
  refine (congrArg _ makeGrant_tickets_map).trans (filter_map_filterMap (fun t => ?_) _)
  simp only [Bool.and_eq_true, beq_iff_eq, regranted_pending]
  by_cases pending : t.crane = c ∧ t.state = .pending
  · cases own : k.numbers.contains t.number with
    | true => rw [if_neg (by simp), if_pos pending, if_pos rfl]
    | false => rw [if_pos ⟨pending, rfl⟩, if_pos pending, regranted, own, if_neg (by decide), if_pos pending]; rfl
  · rw [if_neg fun h => pending h.1, if_neg pending]

end

/-! ## The pick of an operator (R59, R60) -/

/-- The grant of a pick, with its tickets marked MANUAL. -/
def picked (b : Berth) (c : Crane) (k : Candidate) (e : Option Truck) : Berth :=
  (makeGrant b c k e true).modTickets k.numbers fun t => t.mark fun m => { m with manual := true }

theorem manualPick_ok {b : Berth} {c : Crane} {t : Ticket} {tag : Option Tag} {e : Option Truck}
    (known : b.ticket? t.number = some t) (runs : (b.crane c).halt = false) (own : t.crane = c) (pending : t.state = .pending)
    (passes : checkCandidate b c (b.candidateOf t) tag = .ok e) :
    manualPick b c t.number tag = (lockOn (picked b c (b.candidateOf t) e) c, accept) := by
  unfold manualPick
  rw [known]
  simp only [runs, own, pending, passes, ne_eq, not_true_eq_false, or_self, Bool.false_eq_true, if_false]
  rfl

section

variable (b : Berth) (c : Crane) (k : Candidate) (e : Option Truck)

theorem picked_crane : (picked b c k e).crane c = (b.crane c).grantedTo k e none b.grants := makeGrant_crane_same b c k e true

theorem picked_lift : ((picked b c k e).crane c).lift = k.numbers := by
  rw [picked_crane]
  show k.lead.number :: (k.other.map (·.number)).toList = k.lead.number :: k.other.toList.map (·.number)
  rw [Option.toList_map]

theorem lockOn_picked_crane : ((lockOn (picked b c k e) c).crane c).work = .lifting
    ∧ ((lockOn (picked b c k e) c).crane c).lift = k.numbers ∧ ((lockOn (picked b c k e) c).crane c).due = none
    ∧ ((lockOn (picked b c k e) c).crane c).lastExpired = none
    ∧ ((lockOn (picked b c k e) c).crane c).position = k.lead.bay := by
  refine ⟨lockOn_crane (·.work) (fun _ _ => rfl) .., (lockOn_crane (·.lift) (fun _ _ => rfl) ..).trans (picked_lift b c k e),
    lockOn_crane (·.due) (fun _ _ => rfl) .., ?_, ?_⟩
  · rw [lockOn_crane (·.lastExpired) fun _ _ => rfl, picked_crane]; rfl
  · rw [lockOn_crane (·.position) fun _ _ => rfl, picked_crane]; rfl

theorem lockOn_picked_mem {u : Ticket} (mem : u ∈ b.tickets) (own : u.number ∈ k.numbers) :
    { u with state := .lifting, reason := .none, grantedAt := some b.nowSecs, truck := e.map (·.tag), lane := e.bind (·.lane),
             marks := { u.marks with manual := true },
             lashState := if u.lash = .lashAfter then .reserved else u.lashState } ∈ (lockOn (picked b c k e) c).tickets := by
  have granted : grantTicketPart b.nowSecs e u ∈ (makeGrant b c k e true).tickets := makeGrant_mem mem own
  have marked : (grantTicketPart b.nowSecs e u).mark (fun m => { m with manual := true }) ∈ (picked b c k e).tickets :=
    List.mem_map.2 ⟨_, granted, if_pos (by simpa [grantTicketPart] using own)⟩
  rw [lockOn_keeps (·.tickets) fun _ _ _ _ _ => rfl]
  show _ ∈ List.map _ (picked b c k e).tickets
  rw [picked_lift]
  exact List.mem_map.2 ⟨_, marked, if_pos (by simpa [Ticket.mark, grantTicketPart] using own)⟩

end

/-! ## The obligation -/

/-- Settles O47, from the checks, the truck match, the steps of a grant and a pick's lock-on. -/
theorem grantReserves : Obligations.GrantReserves := by
  refine ⟨fun b c k pin e passes => ?_, compatible_iff, fun b c k pin => ?_, fun b c k e pick => ?_,
    fun b c t tag e known runs own pending => ?_⟩
  · obtain ⟨deck, clearance, pool, lash, twin, matched⟩ := checkCandidate_passed passes
    exact ⟨deck, clearance, pool, lash, twin, matched, fun t found => truckMatch_mem (found ▸ matched)⟩
  · obtain ⟨free, discharge, load⟩ := truckMatch_eq b c k pin
    refine ⟨free, fun kind => ?_, fun kind => ?_⟩
    · rw [discharge kind]
      refine ⟨fun none_ => congrArg _ (matchDischarge_none none_), fun xs t ys stand carries first => ?_⟩
      rw [show b.pinned c pin = xs ++ t :: ys from stand]
      exact congrArg _ (matchDischarge_first carries first)
    · rw [load kind]
      refine ⟨fun none_ => congrArg _ (matchLoad_none none_),
        fun some_ unverified => congrArg _ (matchLoad_unverified some_ unverified),
        fun xs t ys stand held verified first => ?_⟩
      rw [show b.pinned c pin = xs ++ t :: ys from stand]
      exact congrArg _ (matchLoad_first held verified first)
  · exact ⟨makeGrant_crane_same .., makeGrant_claim_same .., makeGrant_gangClaims .., makeGrant_waiters ..,
      fun d => makeGrant_elsewhere b c k e pick, makeGrant_stand .., makeGrant_ltu .., makeGrant_posts ..,
      fun t => makeGrant_mem, makeGrant_pendingOf⟩
  · intro k passes r
    have result : r = (lockOn (picked b c k e) c, accept) := manualPick_ok known runs own pending passes
    obtain ⟨work, lift, due, expired, position⟩ := lockOn_picked_crane b c k e
    rw [result]
    refine ⟨rfl, work, lift, due, expired, position, ?_, ?_, ?_, fun u mem own => lockOn_picked_mem b c k e mem own⟩
    · exact (lockOn_keeps (fun b => b.craneClaim c) (fun _ _ _ _ _ => rfl) ..).trans (makeGrant_claim_same b c k e true)
    · exact (lockOn_keeps (·.qlc) (fun _ _ _ _ _ => rfl) ..).trans (makeGrant_pick_qlc b c k e)
    · exact (lockOn_keeps (·.ltu.reserved) (fun _ _ _ _ _ => rfl) ..).trans
        (congrArg (·.reserved) (makeGrant_ltu b c k e true))

end Sys2Proof.Machine

/-! # What the end of a change leaves (R37, R42, R61, R200; O53) -/

namespace Sys2Proof.Machine

/-! ## Readings that the parts of the dispatch keep -/

/-- A reading that neither a pass's wait reasons nor a grant of the crane writes. -/
theorem selectionPass_keeps {α : Type} (f : Berth → α) {c : Crane} (reasons : ∀ (b : Berth) ns r, f (b.setReasons ns r) = f b)
    (grant : ∀ (b : Berth) k e, f (makeGrant b c k e false) = f b) (b : Berth) : f (selectionPass b c) = f b := by
  have written : ∀ (b : Berth) (k : Candidate), f (writeFailures c b k) = f b := fun b k => by
    unfold writeFailures
    split
    · exact reasons ..
    · rfl
  unfold selectionPass
  split
  · unfold passStrict
    split
    · rfl
    · dsimp only
      split
      · rw [reasons, reasons]
      · rw [grant, reasons]
  · unfold passPriority
    dsimp only
    split
    · exact foldl_keeps f _ written ..
    · split
      · rw [reasons, foldl_keeps f _ written]
      · rw [grant, foldl_keeps f _ written]

/-- A reading that neither the gangs' records and tasks nor their orders are part of. -/
theorem gangWork_keeps {α : Type} (f : Berth → α) (gang : ∀ (b : Berth) g r, f (b.modGang g r) = f b)
    (task : ∀ (b : Berth) n s, f (b.setTaskState n s) = f b) (posted : ∀ (b : Berth) g o, f (b.postGang g o) = f b) (b : Berth) :
    f (gangWork b) = f b := by
  have assigned : ∀ b t, f (assignTask b t) = f b := fun b t => by
    unfold assignTask
    split
    · rfl
    · rw [task, gang]
  have dispatched : ∀ b g, f (dispatchGang b g) = f b := fun b g => by
    unfold dispatchGang
    dsimp only
    split
    · split
      · rw [posted, gang, task]
      · rfl
    · rfl
  unfold gangWork assignPass
  rw [foldl_keeps f _ dispatched, foldl_keeps f _ assigned]

/-- A reading that no promotion writes. -/
theorem promoteDue_keeps {α : Type} (f : Berth → α) (shu : ∀ (b : Berth) x, f { b with shu := x } = f b)
    (promoted : ∀ (b : Berth) c l t, f (promote b c l t) = f b) (b : Berth) : f (promoteDue b) = f b := by
  have into : ∀ (c : Crane) (fuel : Nat) (b : Berth), f (promoteInto c fuel b) = f b := by
    intro c fuel
    induction fuel with
    | zero => intro b; rfl
    | succ n ih =>
      intro b
      unfold promoteInto
      split
      · split
        · rw [ih, promoted]
        · rfl
      · rfl
  have each : ∀ (b : Berth) (c : Crane), f (if b.takesTrucks c then promoteInto c 6 b else b) = f b := fun b c => by
    split
    · exact into ..
    · rfl
  unfold promoteDue promotionCheck
  split
  · split
    · rw [foldl_keeps f _ each, shu]
    · exact shu ..
  · rfl

theorem orderTaken_keeps {α : Type} (f : Berth → α) (consult : ∀ b : Berth, f b.consult = f b) (b : Berth) :
    f b.orderTaken = f b := by
  unfold Berth.orderTaken
  split
  · exact consult b
  · rfl

/-! ## The cranes that wait -/

theorem mem_waitingCranes {b : Berth} {c : Crane} : c ∈ b.waitingCranes ↔ (b.crane c).work = .waiting := by
  simp [Berth.waitingCranes, mem_allCranes]

/-- R42: the cranes that wait run their passes, in the order taken. -/
theorem mem_passOrder {b : Berth} {c : Crane} : c ∈ b.passOrder ↔ (b.crane c).work = .waiting := by
  rw [← mem_waitingCranes]
  unfold Berth.passOrder
  split
  · next none_ => rw [none_]
  · next alone => rw [alone]
  · exact mem_sortBy ..

/-! ## A crane that is not waiting -/

/-- What the dispatch of a crane writes of the crane itself. -/
def Berth.standing (b : Berth) (c : Crane) : CraneRec × Option Bay := (b.crane c, b.craneClaim c)

theorem busy_of_standing {b b' : Berth} {c : Crane} (kept : b'.standing c = b.standing c) (busy : (b.crane c).work ≠ .waiting) :
    (b'.crane c).work ≠ .waiting := by
  rw [show b'.crane c = b.crane c from congrArg Prod.fst kept]
  exact busy

theorem starveCheck_standing {b : Berth} {c : Crane} (busy : (b.crane c).work ≠ .waiting) (d : Crane) :
    (starveCheck b d).standing c = b.standing c := by
  unfold starveCheck
  split
  · next met =>
    have other : c ≠ d := fun same => busy (same ▸ ((starveMet_iff ..).1 met).2.1)
    exact congrArg (·, b.craneClaim c) (Berth.crane_modCrane_other _ _ _ _ other)
  · rfl

theorem starveSweep_standing {b : Berth} {c : Crane} (busy : (b.crane c).work ≠ .waiting) :
    (starveSweep b).standing c = b.standing c := by
  have swept : ∀ (l : List Crane) (b : Berth), (b.crane c).work ≠ .waiting → (l.foldl starveCheck b).standing c = b.standing c := by
    intro l
    induction l with
    | nil => exact fun b _ => rfl
    | cons d ds ih =>
      intro b busy
      have checked := starveCheck_standing busy d
      exact (ih _ (busy_of_standing checked busy)).trans checked
  exact swept allCranes b busy

/-- A pass writes the record and the claim of its own crane alone. -/
theorem passAndCheck_standing {b : Berth} {c d : Crane} (other : c ≠ d) (busy : (b.crane c).work ≠ .waiting) :
    (passAndCheck b d).standing c = b.standing c := by
  have passed : (selectionPass b d).standing c = b.standing c :=
    selectionPass_keeps (fun b => b.standing c) (fun _ _ _ => rfl) (fun b k e => by
      obtain ⟨claim, crane, -⟩ := makeGrant_elsewhere b d k e false other
      simp only [Berth.standing, claim, crane]) b
  exact (starveCheck_standing (busy_of_standing passed busy) d).trans passed

theorem scanPasses_standing {c : Crane} (cs : List Crane) (b : Berth) (absent : c ∉ cs) (busy : (b.crane c).work ≠ .waiting) :
    (scanPasses cs b).1.standing c = b.standing c := by
  induction cs generalizing b with
  | nil => rfl
  | cons d ds ih =>
    obtain ⟨other, absent⟩ := not_or.1 (mt List.mem_cons.2 absent)
    have passed := passAndCheck_standing other busy
    unfold scanPasses
    dsimp only
    split
    · exact (ih _ absent (busy_of_standing passed busy)).trans passed
    · exact passed

theorem passRounds_standing {c : Crane} (fuel : Nat) (b : Berth) (busy : (b.crane c).work ≠ .waiting) :
    (passRounds fuel b).standing c = b.standing c := by
  induction fuel generalizing b with
  | zero => rfl
  | succ n ih =>
    have taken : b.orderTaken.standing c = b.standing c := orderTaken_keeps (fun b => b.standing c) (fun _ => rfl) b
    have scanned := (scanPasses_standing b.passOrder b.orderTaken (fun mem => busy (mem_passOrder.1 mem))
      (busy_of_standing taken busy)).trans taken
    unfold passRounds
    dsimp only
    split
    · exact (ih _ (busy_of_standing scanned busy)).trans scanned
    · exact scanned

theorem runPasses_standing {b : Berth} {c : Crane} (busy : (b.crane c).work ≠ .waiting) :
    (runPasses b).standing c = b.standing c := passRounds_standing 9 b busy

theorem gangWork_standing (b : Berth) (c : Crane) : (gangWork b).standing c = b.standing c :=
  gangWork_keeps (fun b => b.standing c) (fun _ _ _ => rfl) (fun _ _ _ => rfl) (fun _ _ _ => rfl) b

theorem promoteDue_standing (b : Berth) (c : Crane) : (promoteDue b).standing c = b.standing c :=
  promoteDue_keeps (fun b => b.standing c) (fun _ _ => rfl) (fun _ _ _ _ => rfl) b

theorem consult_standing (b : Berth) (c : Crane) : b.consult.standing c = b.standing c := rfl

theorem markLates_standing (b : Berth) (c : Crane) : (markLates b).standing c = b.standing c := by
  unfold markLates
  split <;> rfl

/-- The dispatch of RUN before its last passes (log 5). -/
def beforePasses (b : Berth) : Berth :=
  let b := gangWork b
  if b.promotionMeetsPasses && !Config.promotionFirst b.free then promoteDue (runPasses b.consult)
  else promoteDue (if b.promotionMeetsPasses then b.consult else b)

theorem evalLevels_standing (b : Berth) (c : Crane) : b.evalLevels.standing c = b.standing c := rfl

theorem runWork_eq (b : Berth) : runWork b = runPasses (beforePasses b) := by
  unfold runWork beforePasses
  dsimp only
  split <;> rfl

theorem beforePasses_standing {b : Berth} {c : Crane} (busy : (b.crane c).work ≠ .waiting) :
    (beforePasses b).standing c = b.standing c := by
  have gangs := gangWork_standing b c
  have consulted := (consult_standing (gangWork b) c).trans gangs
  unfold beforePasses
  dsimp only
  split
  · rw [promoteDue_standing, runPasses_standing (busy_of_standing consulted busy)]
    exact consulted
  · rw [promoteDue_standing]
    split
    · exact consulted
    · exact gangs

theorem runWork_standing {b : Berth} {c : Crane} (busy : (b.crane c).work ≠ .waiting) : (runWork b).standing c = b.standing c := by
  have before := beforePasses_standing busy
  rw [runWork_eq, runPasses_standing (busy_of_standing before busy), before]

/-- The dispatch that a change brings with it in its mode. -/
def changeWork (b : Berth) : Berth :=
  if b.mode = .run then runWork b else { b with shu := { b.shu with promotionDue := false } }

theorem settle_eq (b : Berth) : settle b = (starveSweep (changeWork (markLates b))).evalLevels := rfl

theorem changeWork_standing {b : Berth} {c : Crane} (busy : (b.crane c).work ≠ .waiting) :
    (changeWork b).standing c = b.standing c := by
  unfold changeWork
  split
  · exact runWork_standing busy
  · rfl

theorem settle_standing {b : Berth} {c : Crane} (busy : (b.crane c).work ≠ .waiting) : (settle b).standing c = b.standing c := by
  have marked := markLates_standing b c
  have worked := (changeWork_standing (busy_of_standing marked busy)).trans marked
  rw [settle_eq, evalLevels_standing, starveSweep_standing (busy_of_standing worked busy), worked]

/-! ## The level notices (R200) -/

theorem flag_and {p : Bool} {cause m : BitVec 16} (within : cause &&& m = cause) : flag p cause &&& m = flag p cause := by
  cases p
  · exact BitVec.zero_and
  · exact within

theorem levels_and (b : Berth) : b.levels &&& levelCauses = b.levels := by
  unfold Berth.levels
  rw [BitVec.and_or_distrib_right, BitVec.and_or_distrib_right, BitVec.and_or_distrib_right, flag_and (by decide),
    flag_and (by decide), flag_and (by decide), flag_and (by decide)]

/-- R200: an evaluation leaves the level notices as their conditions have them. -/
theorem evalLevels_agree (b : Berth) : b.evalLevels.nu.raw &&& levelCauses = b.evalLevels.levels := by
  show ((b.nu.raw &&& edgeCauses) ||| b.levels) &&& levelCauses = b.levels
  have apart : edgeCauses &&& levelCauses = 0 := by decide
  rw [BitVec.and_or_distrib_right, BitVec.and_assoc, apart, levels_and]
  simp

/-! ## The end of a change in CONFIG or MONITOR with the clock stopped -/

theorem starveSweep_stopped {b : Berth} (stopped : b.clock.running = false) : starveSweep b = b := by
  have checked : ∀ c, starveCheck b c = b := fun c => if_neg (by simp [starveMet_iff, stopped])
  unfold starveSweep
  induction allCranes with
  | nil => rfl
  | cons c cs ih => rw [List.foldl_cons, checked, ih]

theorem settle_quiet {b : Berth} (quiet : Quiet b) : settle b = { b with
    shu := { b.shu with promotionDue := false }
    nu := { b.nu with raw := (b.nu.raw &&& edgeCauses) ||| b.levels } } := by
  obtain ⟨mode, stopped⟩ := quiet
  have work : changeWork b = { b with shu := { b.shu with promotionDue := false } } := if_neg mode
  have swept : starveSweep (changeWork b) = changeWork b := starveSweep_stopped (by rw [work]; exact stopped)
  rw [settle_eq, markLates_stopped stopped, swept, work]
  rfl

/-! ## The obligation -/

/-- Settles O53, from the fixed records and the crane records that each part of the end of a change keeps. -/
theorem endOfChange : Obligations.EndOfChange := by
  refine ⟨fun b => ?_, fun b => settle_quiet⟩
  have fixed := settle_fixed b
  simp only [Berth.fixed, Prod.mk.injEq] at fixed
  obtain ⟨mode, params, sizes, clock, enable, stations, window, lanes, rules, gangs, waiters, numbers⟩ := fixed
  refine ⟨mode, params, sizes, clock, enable, stations, window, lanes, rules, gangs, waiters, numbers, evalLevels_agree _,
    fun c busy => ?_⟩
  have kept := settle_standing busy
  exact ⟨congrArg Prod.fst kept, congrArg Prod.snd kept⟩

end Sys2Proof.Machine

/-! # What the choice of a candidate reads (R38, R39, R61; O51)

A pass that grants nothing writes wait reasons, and the starve check after it a mark of the crane and a notice.  None of them
is read in the choice of a candidate or in its checks, so the berth without them shows what a crane can choose. -/

namespace Sys2Proof.Machine

/-! ## Records without their reasons -/

def Ticket.unreasoned (t : Ticket) : Ticket := { t with reason := .none }

def CraneRec.unreported (r : CraneRec) : CraneRec := { r with starveReported := false }

def Candidate.unreasoned (k : Candidate) : Candidate := { lead := k.lead.unreasoned, other := k.other.map Ticket.unreasoned }

/-- The berth without what a pass that grants nothing can write. -/
def Berth.unmarked (b : Berth) : Berth :=
  { b with tickets := b.tickets.map Ticket.unreasoned, cranes := b.cranes.map CraneRec.unreported,
           nu := { raw := 0, enable := 0 }, free := 0 }

theorem crane_unmarked (b : Berth) (c : Crane) : b.unmarked.crane c = (b.crane c).unreported := by
  simp [Berth.unmarked, Berth.crane]

theorem ticket?_unmarked (b : Berth) (n : TicketNo) : b.unmarked.ticket? n = (b.ticket? n).map Ticket.unreasoned := by
  simp only [Berth.unmarked, Berth.ticket?, List.find?_map]
  rfl

theorem pendingOf_unmarked (b : Berth) (c : Crane) : b.unmarked.pendingOf c = (b.pendingOf c).map Ticket.unreasoned := by
  simp only [Berth.unmarked, Berth.pendingOf, List.filter_map]
  rfl

theorem candidateOf_unmarked (b : Berth) (t : Ticket) :
    b.unmarked.candidateOf t.unreasoned = (b.candidateOf t).unreasoned := by
  have partner : b.unmarked.pendingPartner t.unreasoned = (b.pendingPartner t).map Ticket.unreasoned := by
    unfold Berth.pendingPartner
    have found : t.unreasoned.partner.bind b.unmarked.ticket? = (t.partner.bind b.ticket?).map Ticket.unreasoned := by
      cases partner : t.partner with
      | none => simp [Ticket.unreasoned, partner]
      | some n => simp [Ticket.unreasoned, partner, ticket?_unmarked]
    rw [found]
    cases t.partner.bind b.ticket? with
    | none => rfl
    | some p => by_cases pending : p.state = .pending <;> simp [Option.filter, Ticket.unreasoned, pending]
  unfold Berth.candidateOf
  rw [partner]
  cases b.pendingPartner t with
  | none => rfl
  | some p =>
    show (if t.number.toNat ≤ p.number.toNat then _ else _) = _
    dsimp only
    split <;> rfl

theorem firstLeast_map {α β : Type} {lt : α → α → Bool} {lt' : β → β → Bool} (f : α → β) (same : ∀ x y, lt' (f x) (f y) = lt x y)
    (l : List α) : firstLeast lt' (l.map f) = (firstLeast lt l).map f := by
  induction l with
  | nil => rfl
  | cons x xs ih =>
    simp only [List.map_cons, firstLeast, ih]
    cases firstLeast lt xs with
    | none => rfl
    | some y =>
      simp only [Option.map_some, same]
      split <;> rfl

theorem headCandidate_unmarked (b : Berth) (c : Crane) :
    b.unmarked.headCandidate c = (b.headCandidate c).map Candidate.unreasoned := by
  unfold Berth.headCandidate
  rw [pendingOf_unmarked, firstLeast_map (lt := fun x y : Ticket => x.seq.toNat < y.seq.toNat) Ticket.unreasoned fun _ _ => rfl]
  cases firstLeast (fun x y : Ticket => decide (x.seq.toNat < y.seq.toNat)) (b.pendingOf c) with
  | none => rfl
  | some t => exact congrArg some (candidateOf_unmarked b t)

theorem candidates_unmarked (b : Berth) (c : Crane) :
    b.unmarked.candidates c = (b.candidates c).map Candidate.unreasoned := by
  unfold Berth.candidates
  rw [pendingOf_unmarked, List.filter_map, List.map_map, List.map_map]
  have leads : ((fun t => (b.unmarked.candidateOf t).lead.number == t.number) ∘ Ticket.unreasoned)
      = fun t => (b.candidateOf t).lead.number == t.number := by
    funext t
    simp only [Function.comp, candidateOf_unmarked]
    rfl
  rw [leads]
  exact List.map_congr_left fun t _ => candidateOf_unmarked b t

/-! ## The checks -/

theorem clearanceFree_unmarked (b : Berth) (c : Crane) (bay : Bay) : b.unmarked.clearanceFree c bay = b.clearanceFree c bay := by
  have nearest : ∀ cs, b.unmarked.nearestPosition cs = b.nearestPosition cs := fun cs => by
    simp only [Berth.nearestPosition, crane_unmarked]
    rfl
  simp only [Berth.clearanceFree, nearest]
  rfl

/-- R39: the checks read no reason, of the candidate or of the berth. -/
theorem checkCandidate_unmarked (b : Berth) (c : Crane) (k : Candidate) (pin : Option Tag) :
    checkCandidate b.unmarked c k.unreasoned pin = checkCandidate b c k pin := by
  have clearance : b.unmarked.clearanceFree c k.unreasoned.lead.bay = b.clearanceFree c k.lead.bay := clearanceFree_unmarked ..
  unfold checkCandidate
  rw [clearance]
  obtain ⟨lead, other⟩ := k
  cases other <;> rfl

/-! ## The candidates that a crane can choose from -/

/-- R38: the head in STRICT, every candidate in PRIORITY. -/
def Berth.choices (b : Berth) (c : Crane) : List Candidate :=
  match (b.crane c).seqMode with
  | .strict => (b.headCandidate c).toList
  | .priority => b.candidates c

/-- No candidate that the crane can choose passes its checks. -/
def Berth.stuck (b : Berth) (c : Crane) : Prop := ∀ k ∈ b.choices c, ∀ e, checkCandidate b c k none ≠ .ok e

theorem choices_strict {b : Berth} {c : Crane} (mode : (b.crane c).seqMode = .strict) : b.choices c = (b.headCandidate c).toList := by
  unfold Berth.choices; rw [mode]

theorem choices_priority {b : Berth} {c : Crane} (mode : (b.crane c).seqMode = .priority) : b.choices c = b.candidates c := by
  unfold Berth.choices; rw [mode]

theorem choices_unmarked (b : Berth) (c : Crane) : b.unmarked.choices c = (b.choices c).map Candidate.unreasoned := by
  have same : (b.unmarked.crane c).seqMode = (b.crane c).seqMode := by rw [crane_unmarked]; rfl
  cases mode : (b.crane c).seqMode with
  | strict => rw [choices_strict (same.trans mode), choices_strict mode, headCandidate_unmarked, Option.toList_map]
  | priority => rw [choices_priority (same.trans mode), choices_priority mode, candidates_unmarked]

theorem stuck_unmarked (b : Berth) (c : Crane) : b.unmarked.stuck c ↔ b.stuck c := by
  unfold Berth.stuck
  rw [choices_unmarked]
  simp only [List.forall_mem_map, checkCandidate_unmarked]

theorem stuck_congr {b b' : Berth} (same : b'.unmarked = b.unmarked) (c : Crane) : b'.stuck c ↔ b.stuck c := by
  rw [← stuck_unmarked b', same, stuck_unmarked]

theorem work_congr {b b' : Berth} (same : b'.unmarked = b.unmarked) (c : Crane) : (b'.crane c).work = (b.crane c).work := by
  have record := congrArg (fun b : Berth => (b.crane c).work) same
  simp only [crane_unmarked] at record
  exact record

theorem waitingCranes_congr {b b' : Berth} (same : b'.unmarked = b.unmarked) : b'.waitingCranes = b.waitingCranes := by
  simp only [Berth.waitingCranes, work_congr same]

/-! ## What marks a berth only -/

theorem setReasons_unmarked (b : Berth) (ns : List TicketNo) (r : Reason) : (b.setReasons ns r).unmarked = b.unmarked := by
  have tickets : (b.setReasons ns r).tickets.map Ticket.unreasoned = b.tickets.map Ticket.unreasoned := by
    refine List.map_map.trans (List.map_congr_left fun t _ => ?_)
    simp only [Function.comp]
    split <;> rfl
  unfold Berth.unmarked
  rw [tickets]
  rfl

theorem writeFailures_unmarked (c : Crane) (b : Berth) (k : Candidate) : (writeFailures c b k).unmarked = b.unmarked := by
  unfold writeFailures
  split
  · exact setReasons_unmarked ..
  · rfl

theorem modAt_map {α β : Type} {n : Nat} (v : Vector α n) (i : Fin n) {f : α → α} {g : α → β} (same : ∀ x, g (f x) = g x) :
    (modAt v i f).map g = v.map g := by
  refine Vector.ext fun j lt => ?_
  have entry := modAt_get v i ⟨j, lt⟩ f
  simp only [Fin.getElem_fin] at entry
  rw [Vector.getElem_map, Vector.getElem_map, entry]
  split
  · next here => cases here; exact same _
  · rfl

theorem reported_unmarked (b : Berth) (c : Crane) :
    (b.modCrane c fun r => { r with starveReported := true }).unmarked = b.unmarked :=
  congrArg (fun records => { b.unmarked with cranes := records })
    (modAt_map b.cranes c (f := fun r => { r with starveReported := true }) (g := CraneRec.unreported) fun _ => rfl)

theorem starveCheck_unmarked (b : Berth) (c : Crane) : (starveCheck b c).unmarked = b.unmarked := by
  unfold starveCheck
  split
  · exact reported_unmarked b c
  · rfl

theorem starveSweep_unmarked (b : Berth) : (starveSweep b).unmarked = b.unmarked := foldl_keeps _ _ starveCheck_unmarked ..

theorem evalLevels_unmarked (b : Berth) : b.evalLevels.unmarked = b.unmarked := rfl

theorem orderTaken_unmarked (b : Berth) : b.orderTaken.unmarked = b.unmarked := orderTaken_keeps Berth.unmarked (fun _ => rfl) b

end Sys2Proof.Machine

/-! # Passes (R37, R38, R40, R42, R61; O51) -/

namespace Sys2Proof.Machine

/-! ## The head in STRICT -/

/-- The least of a list by a key, the first of those of equal key. -/
theorem firstLeast_key {α : Type} (key : α → Nat) {l : List α} {x : α}
    (least : firstLeast (fun x y => decide (key x < key y)) l = some x) :
    ∃ xs ys, l = xs ++ x :: ys ∧ (∀ u ∈ xs, key x < key u) ∧ ∀ u ∈ ys, key x ≤ key u := by
  induction l generalizing x with
  | nil => cases least
  | cons y ys ih =>
    simp only [firstLeast] at least
    split at least
    · next none_ =>
      cases least
      rw [firstLeast_none] at none_
      exact ⟨[], ys, rfl, by simp, by simp [none_]⟩
    · next z found =>
      obtain ⟨as, bs, split_, before, after⟩ := ih found
      split at least
      · next less =>
        cases least
        refine ⟨y :: as, bs, by rw [split_]; rfl, fun u mem => ?_, after⟩
        rcases List.mem_cons.1 mem with rfl | mem
        · simpa using less
        · exact before u mem
      · next notLess =>
        cases least
        have floor : key y ≤ key z := by simpa using notLess
        refine ⟨[], ys, rfl, by simp, fun u mem => ?_⟩
        rw [split_] at mem
        rcases List.mem_append.1 mem with mem | mem
        · exact floor.trans (before u mem).le
        · rcases List.mem_cons.1 mem with rfl | mem
          · exact floor
          · exact floor.trans (after u mem)

theorem headCandidate_none (b : Berth) (c : Crane) : b.headCandidate c = none ↔ b.pendingOf c = [] := by
  unfold Berth.headCandidate
  rw [Option.map_eq_none_iff, firstLeast_none]

/-- Ticket numbers ascend, so that no two tickets share one. -/
def Berth.ascending (b : Berth) : Prop := (b.tickets.map fun t => t.number.toNat).Pairwise (· < ·)

theorem pendingOf_ascending {b : Berth} (kept : b.ascending) (c : Crane) :
    (b.pendingOf c).Pairwise fun t u => t.number.toNat < u.number.toNat :=
  (List.pairwise_map.1 kept).sublist List.filter_sublist

/-- R38: the head holds the PENDING ticket of lowest seq, ties to the lowest number. -/
theorem headCandidate_least {b : Berth} (kept : b.ascending) {c : Crane} {k : Candidate} (head : b.headCandidate c = some k) :
    ∃ t ∈ b.pendingOf c, k = b.candidateOf t
      ∧ ∀ u ∈ b.pendingOf c, t.seq.toNat < u.seq.toNat ∨ (t.seq = u.seq ∧ t.number.toNat ≤ u.number.toNat) := by
  obtain ⟨t, least, rfl⟩ := Option.map_eq_some_iff.1 head
  refine ⟨t, firstLeast_mem _ least, rfl, fun u mem => ?_⟩
  obtain ⟨xs, ys, split_, before, after⟩ := firstLeast_key (fun t : Ticket => t.seq.toNat) least
  have order := pendingOf_ascending kept c
  rw [split_] at mem order
  rcases List.mem_append.1 mem with mem | mem
  · exact Or.inl (before u mem)
  · rcases List.mem_cons.1 mem with rfl | mem
    · exact Or.inr ⟨rfl, le_rfl⟩
    · have later := List.rel_of_pairwise_cons (List.pairwise_append.1 order).2.1 mem
      rcases (after u mem).lt_or_eq with less | equal
      · exact Or.inl less
      · exact Or.inr ⟨BitVec.eq_of_toNat_eq equal, later.le⟩

/-! ## The pass in STRICT -/

/-- The berth whose other tickets of the crane have SEQUENCE. -/
def Berth.sequenced (b : Berth) (c : Crane) (k : Candidate) : Berth :=
  b.setReasons (((b.pendingOf c).filter fun t => !k.numbers.contains t.number).map (·.number)) .sequence

theorem selectionPass_strict {b : Berth} {c : Crane} (mode : (b.crane c).seqMode = .strict) :
    (b.headCandidate c = none → selectionPass b c = b)
    ∧ ∀ k, b.headCandidate c = some k →
      (∀ e, checkCandidate b c k none = .ok e → selectionPass b c = makeGrant (b.sequenced c k) c k e false)
      ∧ ∀ r, checkCandidate b c k none = .error r → selectionPass b c = (b.sequenced c k).setReasons k.numbers r := by
  have pass : selectionPass b c = passStrict b c := by unfold selectionPass; rw [mode]
  rw [pass]
  unfold passStrict
  refine ⟨fun none_ => by rw [none_], fun k head => ⟨fun e passes => ?_, fun r fails => ?_⟩⟩
  · simp only [head, checkCandidate_setReasons, passes]
    rfl
  · simp only [head, checkCandidate_setReasons, fails]
    rfl

/-- R38: the reasons after a pass whose head fails. -/
theorem sequenced_tickets {b : Berth} (kept : b.ascending) (c : Crane) (k : Candidate) (r : Reason) :
    ((b.sequenced c k).setReasons k.numbers r).tickets = b.tickets.map fun t =>
      if t.number ∈ k.numbers then { t with reason := r }
      else if t.crane = c ∧ t.state = .pending then { t with reason := .sequence } else t := by
  have unique : ∀ t ∈ b.tickets, ∀ u ∈ b.tickets, t.number = u.number → t = u := fun t mem u mem' same =>
    List.inj_on_of_nodup_map (kept.imp ne_of_lt) mem mem' (congrArg BitVec.toNat same)
  refine List.map_map.trans (List.map_congr_left fun t mem => ?_)
  by_cases own : t.number ∈ k.numbers
  · simp only [Function.comp, if_pos own]
    split <;> simp [own]
  · have others : (((b.pendingOf c).filter fun t => !k.numbers.contains t.number).map (·.number)).contains t.number = true ↔
        t.crane = c ∧ t.state = .pending := by
      simp only [List.contains_iff_mem, List.mem_map, List.mem_filter, Berth.pendingOf, Bool.and_eq_true, beq_iff_eq]
      constructor
      · rintro ⟨u, ⟨⟨known, pending⟩, -⟩, same⟩
        exact unique t mem u known same.symm ▸ pending
      · exact fun pending => ⟨t, ⟨⟨mem, pending⟩, by simpa using own⟩, rfl⟩
    simp only [Function.comp, others, if_neg own]
    split <;> simp [own]

/-! ## The pass in PRIORITY -/

/-- R40: the candidates that pass the checks. -/
def Berth.eligibles (b : Berth) (c : Crane) : List Candidate :=
  (b.candidates c).filter fun k => Except.passed (checkCandidate b c k none)

theorem passed_iff {α β : Type} (x : Except α β) : Except.passed x = true ↔ ∃ e, x = .ok e := by
  cases x <;> simp [Except.passed]

theorem mem_eligibles {b : Berth} {c : Crane} {k : Candidate} :
    k ∈ b.eligibles c ↔ k ∈ b.candidates c ∧ ∃ e, checkCandidate b c k none = .ok e := by
  simp [Berth.eligibles, passed_iff]

/-- The berth with the reasons of the candidates that fail. -/
def Berth.judged (b : Berth) (c : Crane) : Berth := (b.candidates c).foldl (writeFailures c) b

theorem checkCandidate_foldl (l : List Candidate) (b : Berth) (c : Crane) (k : Candidate) :
    checkCandidate (l.foldl (writeFailures c) b) c k none = checkCandidate b c k none :=
  foldl_keeps (fun b => checkCandidate b c k none) _ (fun b x => checkCandidate_writeFailures b c c x k none) l b

theorem selectionPass_priority {b : Berth} {c : Crane} (mode : (b.crane c).seqMode = .priority) :
    (firstLeast Candidate.before (b.eligibles c) = none → selectionPass b c = b.judged c)
    ∧ ∀ k e, firstLeast Candidate.before (b.eligibles c) = some k → checkCandidate b c k none = .ok e →
      selectionPass b c = makeGrant (b.judged c) c k e false := by
  have pass : selectionPass b c = passPriority b c := by unfold selectionPass; rw [mode]
  rw [pass]
  unfold passPriority
  dsimp only
  refine ⟨fun none_ => ?_, fun k e first passes => ?_⟩
  · rw [show firstLeast Candidate.before ((b.candidates c).filter _) = none from none_]
    rfl
  · rw [show firstLeast Candidate.before ((b.candidates c).filter _) = some k from first]
    simp only [checkCandidate_foldl, passes]
    rfl

theorem before_iff (x y : Candidate) : x.before y = true ↔ y.effective < x.effective ∨ (x.effective = y.effective
    ∧ (x.seq < y.seq ∨ (x.seq = y.seq ∧ x.lead.number.toNat < y.lead.number.toNat))) := by
  simp [Candidate.before]

theorem before_asymm {x y : Candidate} (h : x.before y = true) : y.before x = false := by
  rw [Bool.eq_false_iff, Ne, before_iff]
  rw [before_iff] at h
  omega

theorem before_irrefl (x : Candidate) : x.before x = false := by
  rw [Bool.eq_false_iff, Ne, before_iff]
  omega

/-! ## The reasons of the candidates that fail (R39) -/

/-- A ticket after the reasons of some candidates. -/
def failed (b : Berth) (c : Crane) (l : List Candidate) (t : Ticket) (r : Reason) : Prop :=
  ((∃ k ∈ l, t.number ∈ k.numbers) → ∃ k ∈ l, t.number ∈ k.numbers ∧ checkCandidate b c k none = .error r)
    ∧ ((∀ k ∈ l, t.number ∉ k.numbers) → r = t.reason)

theorem writeFailures_failing {b m : Berth} {c : Crane} {k : Candidate} {r : Reason}
    (same : checkCandidate m c k none = checkCandidate b c k none) (fails : checkCandidate b c k none = .error r) :
    writeFailures c m k = m.setReasons k.numbers r := by
  unfold writeFailures
  rw [same, fails]

/-- R39: every ticket of a candidate has the reason of one that fails and holds it; the others keep theirs. -/
theorem foldl_writeFailures_mem {b : Berth} {c : Crane} (l : List Candidate)
    (fails : ∀ k ∈ l, ∀ e, checkCandidate b c k none ≠ .ok e) {t : Ticket} (mem : t ∈ b.tickets) :
    ∃ r, { t with reason := r } ∈ (l.foldl (writeFailures c) b).tickets ∧ failed b c l t r := by
  induction l using List.reverseRecOn with
  | nil => exact ⟨t.reason, mem, fun held => by simp at held, fun _ => rfl⟩
  | append_singleton l k ih =>
    obtain ⟨r, there, byOne, byNone⟩ := ih fun x mem => fails x (List.mem_append_left _ mem)
    cases check : checkCandidate b c k none with
    | ok e => exact absurd check (fails k (by simp) e)
    | error r' =>
      have step : (l ++ [k]).foldl (writeFailures c) b = (l.foldl (writeFailures c) b).setReasons k.numbers r' := by
        rw [List.foldl_append, List.foldl_cons, List.foldl_nil]
        exact writeFailures_failing (checkCandidate_foldl ..) check
      rw [step]
      by_cases own : t.number ∈ k.numbers
      · refine ⟨r', List.mem_map.2 ⟨_, there, by simp [own]⟩, fun _ => ⟨k, by simp, own, check⟩, fun none_ => ?_⟩
        exact absurd own (none_ k (by simp))
      · refine ⟨r, List.mem_map.2 ⟨_, there, by simp [own]⟩, fun held => ?_, fun none_ => ?_⟩
        · obtain ⟨x, among, held⟩ := held
          rcases List.mem_append.1 among with among | last
          · obtain ⟨y, among, rest⟩ := byOne ⟨x, among, held⟩
            exact ⟨y, List.mem_append_left _ among, rest⟩
          · exact absurd (List.mem_singleton.1 last ▸ held) own
        · exact byNone fun x among => none_ x (List.mem_append_left _ among)

end Sys2Proof.Machine

/-! # Passes of the waiting cranes, to the last (R37, R42, R61; O51) -/

namespace Sys2Proof.Machine

/-! ## A pass and its starve check -/

theorem starveMet_busy {b : Berth} {c : Crane} (busy : (b.crane c).work ≠ .waiting) : b.starveMet c = false := by
  rw [Bool.eq_false_iff]
  exact fun met => busy ((starveMet_iff ..).1 met).2.1

theorem starveCheck_unmet {b : Berth} {c : Crane} (unmet : b.starveMet c = false) : starveCheck b c = b :=
  if_neg (by simp [unmet])

theorem makeGrant_work (b : Berth) (c : Crane) (k : Candidate) (e : Option Truck) (pick : Bool) :
    ((makeGrant b c k e pick).crane c).work = .granted := by
  rw [makeGrant_crane_same]
  rfl

/-- R37: a pass that leaves its crane waiting had nothing to grant and marks the berth only. -/
theorem selectionPass_waiting {b : Berth} {c : Crane} (waits : ((selectionPass b c).crane c).work = .waiting) :
    (selectionPass b c).unmarked = b.unmarked ∧ b.stuck c := by
  have granting : ∀ m k e, selectionPass b c ≠ makeGrant m c k e false := fun m k e same => by
    rw [same, makeGrant_work] at waits
    cases waits
  cases mode : (b.crane c).seqMode with
  | strict =>
    obtain ⟨alone, headed⟩ := selectionPass_strict mode
    cases head : b.headCandidate c with
    | none => exact ⟨by rw [alone head], by simp [Berth.stuck, choices_strict mode, head]⟩
    | some k =>
      obtain ⟨grants, fails⟩ := headed k head
      cases check : checkCandidate b c k none with
      | ok e => exact (granting _ _ _ (grants e check)).elim
      | error r =>
        refine ⟨?_, by simp [Berth.stuck, choices_strict mode, head, check]⟩
        rw [fails r check, setReasons_unmarked]
        exact setReasons_unmarked ..
  | priority =>
    obtain ⟨judges, grants⟩ := selectionPass_priority mode
    cases first : firstLeast Candidate.before (b.eligibles c) with
    | none =>
      refine ⟨?_, fun k among e passes => ?_⟩
      · rw [judges first]
        exact foldl_keeps Berth.unmarked _ (writeFailures_unmarked c) ..
      · have eligible : k ∈ b.eligibles c := mem_eligibles.2 ⟨choices_priority mode ▸ among, e, passes⟩
        rw [(firstLeast_none _).1 first] at eligible
        cases eligible
    | some k =>
      obtain ⟨-, e, passes⟩ := mem_eligibles.1 (firstLeast_mem _ first)
      exact (granting _ _ _ (grants k e first passes)).elim

theorem passAndCheck_waiting {b : Berth} {c : Crane} (waits : ((passAndCheck b c).crane c).work = .waiting) :
    (passAndCheck b c).unmarked = b.unmarked ∧ b.stuck c := by
  have checked : (passAndCheck b c).unmarked = (selectionPass b c).unmarked := starveCheck_unmarked ..
  have waited : ((selectionPass b c).crane c).work = .waiting := (work_congr checked c).symm.trans waits
  obtain ⟨passed, stuck⟩ := selectionPass_waiting waited
  exact ⟨checked.trans passed, stuck⟩

theorem judged_crane (b : Berth) (c : Crane) : (b.judged c).crane c = b.crane c := by
  have written : ∀ (b : Berth) (k : Candidate), (writeFailures c b k).crane c = b.crane c := fun b k => by
    unfold writeFailures
    split <;> rfl
  exact foldl_keeps (fun b : Berth => b.crane c) _ written ..

/-! ## A scan of the waiting cranes -/

/-- A scan that grants nothing leaves every crane of it without an eligible candidate. -/
theorem scanPasses_ungranted (cs : List Crane) (b : Berth) (ungranted : (scanPasses cs b).2 = false) :
    (scanPasses cs b).1.unmarked = b.unmarked ∧ ∀ c ∈ cs, b.stuck c := by
  induction cs generalizing b with
  | nil => exact ⟨rfl, by simp⟩
  | cons c cs ih =>
    unfold scanPasses at ungranted ⊢
    dsimp only at ungranted ⊢
    split at ungranted
    · next waits =>
      rw [if_pos waits]
      obtain ⟨passed, stuck⟩ := passAndCheck_waiting waits
      obtain ⟨scanned, rest⟩ := ih _ ungranted
      refine ⟨scanned.trans passed, fun d mem => ?_⟩
      rcases List.mem_cons.1 mem with rfl | mem
      · exact stuck
      · exact (stuck_congr passed d).1 (rest d mem)
    · cases ungranted

/-- A crane that stops waiting, and none that starts. -/
theorem waitingCranes_fewer {b b' : Berth} {c : Crane} (waited : (b.crane c).work = .waiting)
    (stopped : (b'.crane c).work ≠ .waiting) (others : ∀ d, (b.crane d).work ≠ .waiting → (b'.crane d).work ≠ .waiting) :
    b'.waitingCranes.length < b.waitingCranes.length := by
  have within : b'.waitingCranes = b.waitingCranes.filter fun d => (b'.crane d).work == .waiting := by
    rw [Berth.waitingCranes, Berth.waitingCranes, List.filter_filter]
    refine List.filter_congr fun d _ => ?_
    by_cases still : (b'.crane d).work = .waiting
    · have before : (b.crane d).work = .waiting := by_contra fun busy => others d busy still
      simp [still, before]
    · simp [still]
  rw [within]
  exact List.length_filter_lt_length_iff_exists.2 ⟨c, mem_waitingCranes.2 waited, by simpa using stopped⟩

theorem passAndCheck_others {b : Berth} {c : Crane} (waited : (b.crane c).work = .waiting) (d : Crane)
    (busy : (b.crane d).work ≠ .waiting) : ((passAndCheck b c).crane d).work ≠ .waiting :=
  busy_of_standing (passAndCheck_standing (fun same => busy (same ▸ waited)) busy) busy

/-- R37: a scan that grants leaves fewer cranes waiting. -/
theorem scanPasses_granted (cs : List Crane) (b : Berth) (waiting : ∀ c ∈ cs, (b.crane c).work = .waiting)
    (granted : (scanPasses cs b).2 = true) : (scanPasses cs b).1.waitingCranes.length < b.waitingCranes.length := by
  induction cs generalizing b with
  | nil => cases granted
  | cons c cs ih =>
    unfold scanPasses at granted ⊢
    dsimp only at granted ⊢
    split at granted
    · next waits =>
      rw [if_pos waits]
      obtain ⟨passed, -⟩ := passAndCheck_waiting waits
      rw [← waitingCranes_congr passed]
      exact ih _ (fun d mem => (work_congr passed d).trans (waiting d (List.mem_cons_of_mem _ mem))) granted
    · next stopped =>
      rw [if_neg stopped]
      have waited := waiting c List.mem_cons_self
      exact waitingCranes_fewer waited stopped (passAndCheck_others waited)

/-! ## The rounds -/

theorem passRounds_succ (n : Nat) (b : Berth) : passRounds (n + 1) b =
    if (scanPasses b.passOrder b.orderTaken).2 then passRounds n (scanPasses b.passOrder b.orderTaken).1
    else (scanPasses b.passOrder b.orderTaken).1 := rfl

/-- R37: rounds enough for every crane that waits end with no eligible candidate left. -/
theorem passRounds_stuck (fuel : Nat) (b : Berth) (enough : b.waitingCranes.length < fuel) (c : Crane)
    (waits : ((passRounds fuel b).crane c).work = .waiting) : (passRounds fuel b).stuck c := by
  induction fuel generalizing b with
  | zero => cases enough
  | succ n ih =>
    have taken := orderTaken_unmarked b
    rw [passRounds_succ] at waits ⊢
    cases scan : (scanPasses b.passOrder b.orderTaken).2 with
    | true =>
      rw [scan] at waits
      have fewer := scanPasses_granted b.passOrder b.orderTaken
        (fun d mem => (work_congr taken d).trans (mem_passOrder.1 mem)) scan
      rw [waitingCranes_congr taken] at fewer
      exact ih _ (by omega) waits
    | false =>
      rw [scan] at waits
      obtain ⟨scanned, stuck⟩ := scanPasses_ungranted _ _ scan
      have waited : (b.crane c).work = .waiting := (work_congr (scanned.trans taken) c).symm.trans waits
      exact (stuck_congr scanned c).2 (stuck c (mem_passOrder.2 waited))

theorem runPasses_stuck {b : Berth} {c : Crane} (waits : ((runPasses b).crane c).work = .waiting) : (runPasses b).stuck c := by
  have atMost : b.waitingCranes.length ≤ allCranes.length := List.length_filter_le ..
  exact passRounds_stuck 9 b (Nat.lt_succ_of_le atMost) c waits

/-- R42: a crane that waits alone runs its pass once. -/
theorem runPasses_single {b : Berth} {c : Crane} (alone : b.waitingCranes = [c]) : runPasses b = passAndCheck b c := by
  have order : b.passOrder = [c] := by unfold Berth.passOrder; rw [alone]
  have taken : b.orderTaken = b := if_neg (by simp [alone])
  have waited : (b.crane c).work = .waiting := mem_waitingCranes.1 (by simp [alone])
  have scan : scanPasses [c] b = (passAndCheck b c, !decide (((passAndCheck b c).crane c).work = .waiting)) := by
    simp only [scanPasses]
    split <;> simp_all
  unfold runPasses
  rw [passRounds_succ, order, taken, scan]
  by_cases waits : ((passAndCheck b c).crane c).work = .waiting
  · rw [if_neg (by simp [waits])]
  · rw [if_pos (by simp [waits])]
    have none_ : (passAndCheck b c).waitingCranes = [] := by
      have fewer := waitingCranes_fewer waited waits (passAndCheck_others waited)
      rw [alone] at fewer
      exact List.length_eq_zero_iff.1 (Nat.lt_one_iff.1 fewer)
    have order' : (passAndCheck b c).passOrder = [] := by unfold Berth.passOrder; rw [none_]
    rw [passRounds_succ, order', show (passAndCheck b c).orderTaken = _ from if_neg (by simp [none_])]
    rfl

/-! ## The end of a change in RUN -/

/-- R37: at the end of a change in RUN no waiting crane has an eligible candidate. -/
theorem settle_stuck {b : Berth} (run : b.mode = .run) {c : Crane} (waits : ((settle b).crane c).work = .waiting) :
    (settle b).stuck c := by
  have mode : (markLates b).mode = .run := (congrArg Prod.fst (markLates_fixed b)).trans run
  have worked : changeWork (markLates b) = runPasses (beforePasses (markLates b)) := (if_pos mode).trans (runWork_eq _)
  have swept : (settle b).unmarked = (runPasses (beforePasses (markLates b))).unmarked := by
    rw [settle_eq, evalLevels_unmarked, starveSweep_unmarked, worked]
  exact (stuck_congr swept c).2 (runPasses_stuck ((work_congr swept c).symm.trans waits))

/-! ## The obligation -/

/-- Settles O51, from the passes in the two modes and the rounds that end with no crane to grant. -/
theorem passChoices : Obligations.PassChoices := by
  refine ⟨fun s c kept => ?_, fun b c mode => ?_, fun b c => runPasses_single, fun b c => ?_, fun b run c waits => ?_⟩
  · obtain ⟨ascending, -⟩ := kept
    refine ⟨headCandidate_none _ c, fun k => headCandidate_least ascending, fun strict => (selectionPass_strict strict).1,
      fun strict k head => ⟨fun e passes => ?_, fun r fails => ?_⟩⟩
    · exact ((selectionPass_strict strict).2 k head).1 e passes
    · rw [((selectionPass_strict strict).2 k head).2 r fails]
      exact ⟨rfl, sequenced_tickets ascending c k r⟩
  · obtain ⟨judges, grants⟩ := selectionPass_priority mode
    refine ⟨fun k among e passes least => ?_, fun fails => ?_⟩
    · refine grants k e (firstLeast_eq _ (before_irrefl k) (mem_eligibles.2 ⟨among, e, passes⟩) fun x eligible other => ?_) passes
      obtain ⟨mem, passes'⟩ := mem_eligibles.1 eligible
      have before : k.before x = true := by
        have first := least x mem passes' other
        rw [before_iff]
        omega
      exact ⟨before, before_asymm before⟩
    · have none_ : b.eligibles c = [] := List.eq_nil_iff_forall_not_mem.2 fun k eligible => by
        obtain ⟨mem, e, passes⟩ := mem_eligibles.1 eligible
        exact fails k mem e passes
      rw [judges (by rw [none_]; rfl)]
      exact ⟨judged_crane b c, fun t mem => foldl_writeFailures_mem _ fails mem⟩
  · exact ⟨fun busy => starveCheck_unmet (starveMet_busy busy), starveCheck_unmet, fun met => if_pos met⟩
  · have stuck := settle_stuck run waits
    unfold Berth.stuck at stuck
    refine ⟨fun mode k head => ?_, fun mode k among => ?_⟩
    · rw [choices_strict mode] at stuck
      exact stuck k (by simp [head])
    · rw [choices_priority mode] at stuck
      exact stuck k among

end Sys2Proof.Machine

/-! # The reports of orders (R54, R132, R135, R176; O44) -/

namespace Sys2Proof.Machine

/-! ## The count of undelivered orders (R176, R177) -/

theorem modStation_congr {b : Berth} {st : Station} {f g : StationRec → StationRec} (same : f (b.station st) = g (b.station st)) :
    b.modStation st f = b.modStation st g := by
  have record : modAt b.qlc.stations st f = modAt b.qlc.stations st g := congrArg (b.qlc.stations.set st.val · st.isLt) same
  unfold Berth.modStation
  rw [record]

theorem countFail_below {r : StationRec} (below : r.fails.val < 2) :
    r.countFail = { r with fails := r.fails + 1 } ∧ r.countFail.fails ≠ 3 := by
  obtain ⟨online, fails, heard⟩ := r
  match fails, below with
  | 0, _ => exact ⟨rfl, (by decide : (1 : Fin 4) ≠ 3)⟩
  | 1, _ => exact ⟨rfl, (by decide : (2 : Fin 4) ≠ 3)⟩

theorem countFail_third {r : StationRec} (third : r.fails.val = 2) : r.countFail = { r with fails := 3 } := by
  obtain ⟨online, fails, heard⟩ := r
  match fails, third with
  | 2, _ => rfl

theorem reportOrder_counts (b : Berth) (st : Station) (body : OrderBody) :
    ((b.station st).fails.val < 2 → reportOrder b st (some (body, false)) =
      (ownerReport b (roleOf st) body false).modStation st fun r => { r with fails := r.fails + 1 })
    ∧ ((b.station st).fails.val = 2 → reportOrder b st (some (body, false)) =
      declareOffline ((ownerReport b (roleOf st) body false).modStation st fun r => { r with fails := 3 }) st) := by
  have kept : (ownerReport b (roleOf st) body false).station st = b.station st := station_congr (ownerReport_stations ..) st
  have counted : (((ownerReport b (roleOf st) body false).modStation st StationRec.countFail).station st) =
      (b.station st).countFail := by rw [Berth.station_modStation, kept]
  unfold reportOrder
  dsimp only
  rw [counted]
  refine ⟨fun below => ?_, fun third => ?_⟩
  · obtain ⟨count, more⟩ := countFail_below below
    rw [if_neg more]
    exact modStation_congr (by rw [kept, count])
  · have count := countFail_third third
    rw [if_pos (by rw [count])]
    exact congrArg (declareOffline · st) (modStation_congr (by rw [kept, count]))

/-! ## Examinations of other gangs -/

theorem examineWaiter_otherClaim (b : Berth) {w : Gang × Bay} {g : Gang} (other : w.1 ≠ g) :
    (examineWaiter b w).gangClaim g = b.gangClaim g := by
  have claimed : ((b.removeWaiter w.1).setGangClaim w.1 (some { bay := w.2, standing := .clearing })).gangClaim g =
      b.gangClaim g := Berth.gangClaim_setGangClaim_other _ _ _ _ other.symm
  unfold examineWaiter
  split
  · dsimp only
    split
    · exact claimed
    · exact claimed
  · rfl

theorem examine_otherClaims {g : Gang} (l : List (Gang × Bay)) (others : ∀ w ∈ l, w.1 ≠ g) (b : Berth) :
    (l.foldl examineWaiter b).gangClaim g = b.gangClaim g := by
  induction l generalizing b with
  | nil => rfl
  | cons w ws ih =>
    rw [List.foldl_cons, ih fun x mem => others x (List.mem_cons_of_mem _ mem)]
    exact examineWaiter_otherClaim b (others w List.mem_cons_self)

/-- R73: a gang that is no waiter is granted none by the examination after its release. -/
theorem releaseGangClaim_own {b : Berth} {g : Gang} (unlisted : ∀ w ∈ b.bct.waiters, w.1 ≠ g) :
    (releaseGangClaim b g).gangClaim g = none :=
  (examine_otherClaims b.bct.waiters unlisted (b.setGangClaim g none)).trans (Berth.gangClaim_setGangClaim ..)

theorem isWaiter_false {b : Berth} {g : Gang} : b.isWaiter g = false ↔ ∀ w ∈ b.bct.waiters, w.1 ≠ g := by
  simp [Berth.isWaiter]

/-- An examination takes waiters off the list only. -/
theorem examineWaiter_waiters (b : Berth) (w : Gang × Bay) : (examineWaiter b w).bct.waiters ⊆ b.bct.waiters := by
  have removed : (b.removeWaiter w.1).bct.waiters ⊆ b.bct.waiters := fun _ mem => List.mem_of_mem_filter mem
  unfold examineWaiter
  split
  · dsimp only
    split
    · exact removed
    · exact removed
  · exact List.Subset.refl _

theorem examine_waiters (l : List (Gang × Bay)) (b : Berth) : (l.foldl examineWaiter b).bct.waiters ⊆ b.bct.waiters := by
  induction l generalizing b with
  | nil => exact List.Subset.refl _
  | cons w ws ih => exact List.Subset.trans (ih _) (examineWaiter_waiters b w)

/-! ## DECK_CLEAR (R132, R74) -/

theorem awaitsDeckClear_iff (b : Berth) (g : Gang) (n : TaskNo) : b.awaitsDeckClear g n = true ↔
    ∃ bay, (b.gang g).activity = .waitDeck ∧ (b.gang g).tasks.head? = some n
      ∧ b.gangClaim g = some { bay, standing := .clearing } := by
  unfold Berth.awaitsDeckClear
  cases b.gangClaim g with
  | none => simp
  | some k =>
    obtain ⟨bay, standing⟩ := k
    simp [and_assoc]

theorem task?_setTaskState_same (b : Berth) (n : TaskNo) (x : TaskState) :
    (b.setTaskState n x).task? n = (b.task? n).map fun t => { t with state := x } := Berth.task?_modTask_same _ _ _ fun _ => rfl

theorem task?_setTaskState_other (b : Berth) {n m : TaskNo} (x : TaskState) (h : m ≠ n) :
    (b.setTaskState n x).task? m = b.task? m := Berth.task?_modTask_other _ _ (fun _ => rfl) h

theorem ownerReport_gang (b : Berth) (g : Gang) (body : OrderBody) (d : Bool) : ownerReport b (roleOf (gangStation g)) body d =
    if d then gangDelivered b g body else gangUndelivered b g body := by
  rw [roleOf_gangStation]
  rfl

/-- The berth once a gang's DECK_CLEAR is delivered. -/
def deckCleared (b : Berth) (g : Gang) (n : TaskNo) : Berth :=
  ((b.setGangClaim g ((b.gangClaim g).map fun k => { k with standing := .confirmed })).modGang g
    fun r => { r with activity := .onDeck }).setTaskState n .active

theorem deckClear_report (b : Berth) (g : Gang) (n : TaskNo) (bay : Bay) (d : Bool) :
    ownerReport b (roleOf (gangStation g)) (.deckClear n bay) d =
      if b.awaitsDeckClear g n then
        if d then deckCleared b g n else (releaseGangClaim b g).modGang g fun r => { r with activity := .assigned }
      else b := by
  rw [ownerReport_gang]
  cases d <;> cases awaited : b.awaitsDeckClear g n <;> simp [gangDelivered, gangUndelivered, awaited, deckCleared]

theorem deckCleared_records {b : Berth} {g : Gang} {bay : Bay} (n : TaskNo)
    (claim : b.gangClaim g = some { bay, standing := .clearing }) :
    (deckCleared b g n).gangClaim g = some { bay, standing := .confirmed }
    ∧ (∀ h, h ≠ g → (deckCleared b g n).gangClaim h = b.gangClaim h ∧ (deckCleared b g n).gang h = b.gang h)
    ∧ (deckCleared b g n).bct.craneClaims = b.bct.craneClaims ∧ (deckCleared b g n).bct.waiters = b.bct.waiters
    ∧ (deckCleared b g n).gang g = { b.gang g with activity := .onDeck }
    ∧ (deckCleared b g n).task? n = (b.task? n).map (fun t => { t with state := .active })
    ∧ (∀ m, m ≠ n → (deckCleared b g n).task? m = b.task? m) ∧ (deckCleared b g n).tickets = b.tickets
    ∧ (deckCleared b g n).qlc = b.qlc := by
  refine ⟨?_, fun h other => ⟨?_, ?_⟩, rfl, rfl, ?_, task?_setTaskState_same .., fun m other => task?_setTaskState_other _ _ other,
    rfl, rfl⟩
  · exact (Berth.gangClaim_setGangClaim ..).trans (by rw [claim]; rfl)
  · exact Berth.gangClaim_setGangClaim_other _ _ _ _ other
  · exact Berth.gang_modGang_other _ _ _ _ other
  · exact Berth.gang_modGang ..

theorem deckUncleared_records (b : Berth) (g : Gang) :
    let b' := (releaseGangClaim b g).modGang g fun r => { r with activity := .assigned }
    b'.bct = (releaseGangClaim b g).bct ∧ b'.qlc = (releaseGangClaim b g).qlc ∧ (b.isWaiter g = false → b'.gangClaim g = none)
    ∧ b'.gang g = { b.gang g with activity := .assigned } ∧ (∀ h, h ≠ g → b'.gang h = b.gang h) ∧ b'.ltu.tasks = b.ltu.tasks
    ∧ b'.tickets = b.tickets := by
  have gangs : ∀ h, (releaseGangClaim b g).gang h = b.gang h := fun h => by simp only [Berth.gang, releaseGangClaim_ltu]
  refine ⟨rfl, rfl, fun unlisted => releaseGangClaim_own (isWaiter_false.1 unlisted), ?_, fun h other => ?_, ?_, ?_⟩
  · rw [Berth.gang_modGang, gangs]
  · rw [Berth.gang_modGang_other _ _ _ _ other, gangs]
  · exact congrArg (·.tasks) (releaseGangClaim_ltu b g)
  · exact releaseGangClaim_tickets b g

/-! ## DISPATCH and RECALL (R135) -/

/-- The task whose DISPATCH the gang has, which still stands. -/
def Berth.dispatched (b : Berth) (g : Gang) (n : TaskNo) (t : Task) : Prop :=
  b.firstTask g = some t ∧ t.number = n ∧ t.state = .dispatched ∧ (b.gang g).activity = .assigned

theorem dispatch_stands {b : Berth} {g : Gang} {n : TaskNo} {t : Task} (stands : b.dispatched g n t) (kind : TaskKind) (bay : Bay)
    (c : Crane) : gangUndelivered b g (.dispatch n kind bay c) =
      (b.setTaskState n .queued).modGang g fun r => { r with activity := .idle } := by
  obtain ⟨first, rest⟩ := stands
  unfold gangUndelivered
  simp only [first]
  exact if_pos rest

theorem dispatch_stale {b : Berth} {g : Gang} {n : TaskNo} (stale : ∀ t, ¬ b.dispatched g n t) (kind : TaskKind) (bay : Bay)
    (c : Crane) : gangUndelivered b g (.dispatch n kind bay c) = b := by
  unfold gangUndelivered
  dsimp only
  split
  · next t first => exact if_neg fun rest => stale t ⟨first, rest⟩
  · rfl

theorem dispatched_task {b : Berth} {g : Gang} {n : TaskNo} {t : Task} (stands : b.dispatched g n t) : b.task? n = some t := by
  obtain ⟨first, number, -⟩ := stands
  obtain ⟨m, -, found⟩ := Option.bind_eq_some_iff.1 first
  rw [← number, Berth.task?_number found]
  exact found

end Sys2Proof.Machine

/-! # Stations that go OFFLINE (R62, R77, R104, R140, R177; O44) -/

namespace Sys2Proof.Machine

/-! ## The declaration -/

/-- R177: the station is OFFLINE, the notice is raised and the orders addressed to it have left the board. -/
def cutOff (b : Berth) (st : Station) (role : Role) : Berth :=
  emptyOrders ((b.modStation st fun r => { r with online := false }).raise stationOffline) role

theorem declareOffline_crane (b : Berth) (c : Crane) :
    declareOffline b (craneStation c) = craneOffline (cutOff b (craneStation c) (.crane c)) c := by
  unfold declareOffline
  dsimp only
  rw [roleOf_craneStation]
  rfl

theorem declareOffline_gang (b : Berth) (g : Gang) :
    declareOffline b (gangStation g) = gangOffline (cutOff b (gangStation g) (.gang g)) g := by
  unfold declareOffline
  dsimp only
  rw [roleOf_gangStation]
  rfl

theorem declareOffline_gateIn (b : Berth) : declareOffline b gateIn = cutOff b gateIn .gateIn := rfl

theorem cutOff_station (b : Berth) (st : Station) (role : Role) :
    (cutOff b st role).station st = { b.station st with online := false } := by
  have kept : (cutOff b st role).station st = (b.modStation st fun r => { r with online := false }).station st := by
    cases role <;> rfl
  rw [kept, Berth.station_modStation]

/-! ## A crane (R62) -/

theorem cutOff_craneSlot (b : Berth) (st : Station) (c : Crane) : (cutOff b st (.crane c)).qlc.craneSlots[c] = Slot.empty :=
  modAt_same ..

section

variable {b : Berth} {c : Crane}

theorem craneOffline_idle (work : (b.crane c).work = .idle) : craneOffline b c = b := by
  unfold craneOffline; rw [work]

theorem craneOffline_waiting (work : (b.crane c).work = .waiting) : craneOffline b c = endWaiting b c := by
  unfold craneOffline; rw [work]

theorem craneOffline_granted (work : (b.crane c).work = .granted) : craneOffline b c = withdraw b c .offline := by
  unfold craneOffline; rw [work]

/-- R62: a lift in hand stays, with the mark of its fault. -/
def faulted (b : Berth) (c : Crane) : Berth :=
  (b.modTickets (b.crane c).lift fun t => t.mark fun m => { m with fault := true }).raise liftFault

theorem craneOffline_lifting (work : (b.crane c).work = .lifting) : craneOffline b c = faulted b c := by
  unfold craneOffline; rw [work]; rfl

theorem craneOffline_slots : (craneOffline b c).qlc.craneSlots = b.qlc.craneSlots := by
  cases work : (b.crane c).work with
  | idle => rw [craneOffline_idle work]
  | waiting => rw [craneOffline_waiting work]; rfl
  | granted => rw [craneOffline_granted work, withdraw_offline_slots]
  | lifting => rw [craneOffline_lifting work]; rfl

theorem craneOffline_elsewhere {d : Crane} (other : d ≠ c) :
    (craneOffline b c).crane d = b.crane d ∧ (craneOffline b c).craneClaim d = b.craneClaim d := by
  cases work : (b.crane c).work with
  | idle => rw [craneOffline_idle work]; exact ⟨rfl, rfl⟩
  | waiting => rw [craneOffline_waiting work]; exact ⟨(endWaiting_records b c).2.1 d other, rfl⟩
  | granted =>
    obtain ⟨claim, crane, -⟩ := withdraw_elsewhere b c .offline other
    rw [craneOffline_granted work]
    exact ⟨crane, claim⟩
  | lifting => rw [craneOffline_lifting work]; exact ⟨rfl, rfl⟩

end

/-- R62, by the crane's work state. -/
theorem craneDeclared (b : Berth) (c : Crane) : let b' := declareOffline b (craneStation c)
    b'.station (craneStation c) = { b.station (craneStation c) with online := false }
    ∧ b'.qlc.craneSlots[c] = Slot.empty ∧ (∀ d, d ≠ c → b'.crane d = b.crane d ∧ b'.craneClaim d = b.craneClaim d)
    ∧ ((b.crane c).work = .idle → b'.crane c = b.crane c ∧ b'.tickets = b.tickets ∧ b'.shu = b.shu
        ∧ b'.nu.raw = b.nu.raw ||| stationOffline)
    ∧ ((b.crane c).work = .waiting → b'.crane c = { b.crane c with work := .idle, starveStart := none }
        ∧ b'.nu.raw = b.nu.raw ||| stationOffline)
    ∧ ((b.crane c).work = .granted → (b'.crane c).work = .idle ∧ b'.craneClaim c = none
        ∧ ∃ b0, b0.tickets = b.tickets ∧ b0.cranes = b.cranes ∧ b0.shu = b.shu ∧ b0.ltu = b.ltu ∧ b0.bct = b.bct
          ∧ b' = withdraw b0 c .offline)
    ∧ ((b.crane c).work = .lifting → b'.crane c = b.crane c ∧ b'.craneClaim c = b.craneClaim c ∧ b'.shu = b.shu
        ∧ b'.ltu = b.ltu ∧ b'.nu.raw = b.nu.raw ||| stationOffline ||| liftFault
        ∧ b'.tickets = b.tickets.map (fun t => if (b.crane c).lift.contains t.number then
            { t with marks := { t.marks with fault := true } } else t)) := by
  intro b'
  have declared : b' = craneOffline (cutOff b (craneStation c) (.crane c)) c := declareOffline_crane b c
  rw [declared]
  refine ⟨?_, ?_, fun d other => craneOffline_elsewhere other, fun work => ?_, fun work => ?_, fun work => ?_, fun work => ?_⟩
  · rw [station_congr (craneOffline_stations ..), cutOff_station]
  · rw [craneOffline_slots, cutOff_craneSlot]
  · rw [craneOffline_idle (b := cutOff b (craneStation c) (.crane c)) work]
    exact ⟨rfl, rfl, rfl, rfl⟩
  · rw [craneOffline_waiting (b := cutOff b (craneStation c) (.crane c)) work]
    exact ⟨(endWaiting_records (cutOff b (craneStation c) (.crane c)) c).1, rfl⟩
  · rw [craneOffline_granted (b := cutOff b (craneStation c) (.crane c)) work]
    refine ⟨?_, withdraw_claim_same .., cutOff b (craneStation c) (.crane c), rfl, rfl, rfl, rfl, rfl, rfl⟩
    rw [withdraw_crane_same]
    rfl
  · rw [craneOffline_lifting (b := cutOff b (craneStation c) (.crane c)) work]
    exact ⟨rfl, rfl, rfl, rfl, rfl, rfl⟩

/-! ## A gang's deck request (R77) -/

theorem leaveDeckRequest_cases (b : Berth) (g : Gang) :
    (∃ bay, b.gangClaim g = some { bay, standing := .clearing } ∧ leaveDeckRequest b g = releaseGangClaim (b.removeWaiter g) g)
    ∨ ((∀ bay, b.gangClaim g ≠ some { bay, standing := .clearing }) ∧ leaveDeckRequest b g = b.removeWaiter g) := by
  have claim : (b.removeWaiter g).gangClaim g = b.gangClaim g := rfl
  unfold leaveDeckRequest
  dsimp only
  rw [claim]
  cases held : b.gangClaim g with
  | none => exact Or.inr ⟨by simp, rfl⟩
  | some k =>
    obtain ⟨bay, standing⟩ := k
    cases standing with
    | clearing => exact Or.inl ⟨bay, rfl, rfl⟩
    | confirmed => exact Or.inr ⟨by simp, rfl⟩

theorem leaveDeckRequest_nu (b : Berth) (g : Gang) : (leaveDeckRequest b g).nu = b.nu := by
  rcases leaveDeckRequest_cases b g with ⟨bay, -, e⟩ | ⟨-, e⟩ <;> rw [e]
  · exact releaseGangClaim_nu ..
  · rfl

theorem leaveDeckRequest_isWaiter (b : Berth) (g : Gang) : (leaveDeckRequest b g).isWaiter g = false := by
  have removed := removeWaiter_others b g
  rcases leaveDeckRequest_cases b g with ⟨bay, -, e⟩ | ⟨-, e⟩ <;> rw [e, isWaiter_false]
  · exact fun w mem => removed w (examine_waiters _ ((b.removeWaiter g).setGangClaim g none) mem)
  · exact removed

theorem leaveDeckRequest_confirmed {b : Berth} {g : Gang} {bay : Bay}
    (held : b.gangClaim g = some { bay, standing := .confirmed }) : (leaveDeckRequest b g).gangClaim g = b.gangClaim g := by
  rcases leaveDeckRequest_cases b g with ⟨bay, clearing, -⟩ | ⟨-, e⟩
  · rw [held] at clearing
    cases clearing
  · rw [e]
    rfl

theorem leaveDeckRequest_unclaimed {b : Berth} {g : Gang} (unheld : ∀ bay, b.gangClaim g ≠ some { bay, standing := .confirmed }) :
    (leaveDeckRequest b g).gangClaim g = none := by
  rcases leaveDeckRequest_cases b g with ⟨bay, -, e⟩ | ⟨unclear, e⟩ <;> rw [e]
  · exact releaseGangClaim_own (removeWaiter_others b g)
  · show b.gangClaim g = none
    cases held : b.gangClaim g with
    | none => rfl
    | some k =>
      obtain ⟨bay, standing⟩ := k
      cases standing with
      | clearing => exact absurd held (unclear bay)
      | confirmed => exact absurd held (unheld bay)

/-! ## A gang's tasks (R140) -/

/-- Tasks of a list become OPEN. -/
def openAll (b : Berth) (l : List TaskNo) : Berth := l.foldl (fun b n => b.setTaskState n .opened) b

theorem openAll_keeps {α : Type} (f : Berth → α) (h : ∀ b n, f (Berth.setTaskState b n .opened) = f b) (b : Berth)
    (l : List TaskNo) : f (openAll b l) = f b := foldl_keeps f _ h l b

theorem openAll_other {n : TaskNo} {l : List TaskNo} (absent : n ∉ l) (b : Berth) : (openAll b l).task? n = b.task? n := by
  induction l generalizing b with
  | nil => rfl
  | cons m ms ih =>
    obtain ⟨other, absent⟩ := not_or.1 (mt List.mem_cons.2 absent)
    exact (ih absent _).trans (task?_setTaskState_other b _ other)

theorem openAll_task {n : TaskNo} {l : List TaskNo} (mem : n ∈ l) (b : Berth) :
    (openAll b l).task? n = (b.task? n).map fun t => { t with state := .opened } := by
  induction l generalizing b with
  | nil => cases mem
  | cons m ms ih =>
    have step : openAll b (m :: ms) = openAll (b.setTaskState m .opened) ms := rfl
    rw [step]
    by_cases later : n ∈ ms
    · rw [ih later]
      by_cases here : n = m
      · subst here
        rw [task?_setTaskState_same, Option.map_map]
        rfl
      · rw [task?_setTaskState_other _ _ here]
    · rw [openAll_other later]
      cases (List.mem_cons.1 mem).resolve_right later
      exact task?_setTaskState_same ..

theorem giveUpTasks_eq (b : Berth) (g : Gang) :
    b.giveUpTasks g = (openAll b (b.gang g).tasks).modGang g fun r => { r with tasks := [] } := rfl

/-- R140: the tasks given up by a gang that is not ON_DECK. -/
theorem giveUpTasks_records (b : Berth) (g : Gang) : (b.giveUpTasks g).gang g = { b.gang g with tasks := [] }
    ∧ ∀ n ∈ (b.gang g).tasks, (b.giveUpTasks g).task? n = (b.task? n).map fun t => { t with state := .opened } := by
  rw [giveUpTasks_eq]
  refine ⟨?_, fun n mem => openAll_task mem b⟩
  rw [Berth.gang_modGang, openAll_keeps (fun b => b.gang g) fun _ _ => rfl]

/-- Tasks of a list become OPEN and leave the gang's. -/
def openUnlisted (b : Berth) (g : Gang) (l : List TaskNo) : Berth := l.foldl (fun b n => (b.unlist g n).setTaskState n .opened) b

theorem openUnlisted_gang (b : Berth) (g : Gang) (l : List TaskNo) :
    (openUnlisted b g l).gang g = { b.gang g with tasks := (b.gang g).tasks.filter fun n => !l.contains n } := by
  induction l generalizing b with
  | nil => simp [openUnlisted]
  | cons m ms ih =>
    have step : ((b.unlist g m).setTaskState m .opened).gang g =
        { b.gang g with tasks := (b.gang g).tasks.filter fun n => n != m } := Berth.gang_modGang ..
    have tasks : ((b.gang g).tasks.filter fun n => n != m).filter (fun n => !ms.contains n) =
        (b.gang g).tasks.filter fun n => !(m :: ms).contains n := by
      rw [List.filter_filter]
      refine List.filter_congr fun n _ => ?_
      rw [List.contains_cons, Bool.not_or, Bool.and_comm]
      rfl
    refine (ih _).trans ?_
    rw [step, ← tasks]

theorem openUnlisted_other {n : TaskNo} {l : List TaskNo} (absent : n ∉ l) (b : Berth) (g : Gang) :
    (openUnlisted b g l).task? n = b.task? n := by
  induction l generalizing b with
  | nil => rfl
  | cons m ms ih =>
    obtain ⟨other, absent⟩ := not_or.1 (mt List.mem_cons.2 absent)
    exact (ih absent _).trans (task?_setTaskState_other (b.unlist g m) _ other)

theorem keepActive_eq (b : Berth) (g : Gang) : keepActive b g =
    openUnlisted b g ((b.gang g).tasks.filter fun n => (b.task? n).any fun t => t.state == .queued) := rfl

/-- R140: what a gang ON_DECK keeps. -/
theorem keepActive_records (b : Berth) (g : Gang) :
    (keepActive b g).gang g = { b.gang g with tasks := (b.gang g).tasks.filter fun n =>
      !((b.task? n).any fun t => t.state == .queued) }
    ∧ ∀ n t, b.task? n = some t → t.state ≠ .queued → (keepActive b g).task? n = some t := by
  rw [keepActive_eq]
  refine ⟨?_, fun n t found state => ?_⟩
  · rw [openUnlisted_gang]
    refine congrArg (fun l => { b.gang g with tasks := l }) (List.filter_congr fun n mem => ?_)
    rw [Bool.eq_iff_iff]
    simp [mem]
  · rw [openUnlisted_other (fun mem => by simp [found, state] at mem), found]

/-! ## A gang (R77, R140) -/

/-- A reading of neither the tasks nor the gangs' records. -/
theorem gangOffline_keeps {α : Type} (f : Berth → α) (gang : ∀ (b : Berth) g r, f (b.modGang g r) = f b)
    (task : ∀ (b : Berth) n s, f (b.setTaskState n s) = f b) (b : Berth) (g : Gang) :
    f (gangOffline b g) = f (leaveDeckRequest b g) := by
  unfold gangOffline
  dsimp only
  split
  · rw [keepActive_eq]
    exact foldl_keeps f _ (fun b n => (task _ n _).trans (gang b g _)) _ _
  · rw [gang, giveUpTasks_eq, gang, openAll_keeps f fun b n => task b n _]

theorem leaveDeckRequest_gang (b : Berth) (g : Gang) : (leaveDeckRequest b g).gang g = b.gang g := by
  simp only [Berth.gang, leaveDeckRequest_ltu]

theorem leaveDeckRequest_task? (b : Berth) (g : Gang) (n : TaskNo) : (leaveDeckRequest b g).task? n = b.task? n :=
  task?_congr (congrArg (·.tasks) (leaveDeckRequest_ltu b g)) n

theorem gangOffline_offDeck {b : Berth} {g : Gang} (off : (b.gang g).activity ≠ .onDeck) :
    (gangOffline b g).gang g = { b.gang g with activity := .idle, tasks := [] }
    ∧ ∀ n ∈ (b.gang g).tasks, (gangOffline b g).task? n = (b.task? n).map fun t => { t with state := .opened } := by
  have given : gangOffline b g = ((leaveDeckRequest b g).giveUpTasks g).modGang g fun r => { r with activity := .idle } := if_neg off
  obtain ⟨record, tasks⟩ := giveUpTasks_records (leaveDeckRequest b g) g
  rw [leaveDeckRequest_gang] at record tasks
  rw [given]
  refine ⟨?_, fun n mem => ?_⟩
  · rw [Berth.gang_modGang, record]
  · rw [← leaveDeckRequest_task? b g]
    exact tasks n mem

theorem gangOffline_onDeck {b : Berth} {g : Gang} (on : (b.gang g).activity = .onDeck) :
    (gangOffline b g).gang g = { b.gang g with tasks := (b.gang g).tasks.filter fun n =>
      !((b.task? n).any fun t => t.state == .queued) }
    ∧ ∀ n t, b.task? n = some t → t.state ≠ .queued → (gangOffline b g).task? n = some t := by
  have kept : gangOffline b g = keepActive (leaveDeckRequest b g) g := if_pos on
  have records := keepActive_records (leaveDeckRequest b g) g
  simp only [leaveDeckRequest_gang, leaveDeckRequest_task?] at records
  rw [kept]
  exact records

theorem gangDeclared (b : Berth) (g : Gang) : let b' := declareOffline b (gangStation g)
    b'.station (gangStation g) = { b.station (gangStation g) with online := false }
    ∧ b'.qlc.gangSlots[g] = Slot.empty ∧ b'.nu.raw = b.nu.raw ||| stationOffline ∧ b'.tickets = b.tickets
    ∧ b'.isWaiter g = false
    ∧ (∀ bay, b.gangClaim g = some { bay, standing := .confirmed } → b'.gangClaim g = b.gangClaim g)
    ∧ ((∀ bay, b.gangClaim g ≠ some { bay, standing := .confirmed }) → b'.gangClaim g = none)
    ∧ ((b.gang g).activity ≠ .onDeck → b'.gang g = { b.gang g with activity := .idle, tasks := [] }
        ∧ ∀ n ∈ (b.gang g).tasks, b'.task? n = (b.task? n).map fun t => { t with state := .opened })
    ∧ ((b.gang g).activity = .onDeck →
        b'.gang g = { b.gang g with tasks := (b.gang g).tasks.filter fun n =>
          !((b.task? n).any fun t => t.state == .queued) }
        ∧ ∀ n t, b.task? n = some t → t.state ≠ .queued → b'.task? n = some t) := by
  intro b'
  have declared : b' = gangOffline (cutOff b (gangStation g) (.gang g)) g := declareOffline_gang b g
  have claim : (gangOffline (cutOff b (gangStation g) (.gang g)) g).gangClaim g =
      (leaveDeckRequest (cutOff b (gangStation g) (.gang g)) g).gangClaim g :=
    gangOffline_keeps (fun b => b.gangClaim g) (fun _ _ _ => rfl) (fun _ _ _ => rfl) ..
  rw [declared]
  refine ⟨?_, ?_, ?_, ?_, ?_, fun bay held => ?_, fun unheld => ?_, gangOffline_offDeck (b := cutOff b (gangStation g) (.gang g)),
    gangOffline_onDeck (b := cutOff b (gangStation g) (.gang g))⟩
  · rw [station_congr (gangOffline_stations ..), cutOff_station]
  · rw [gangOffline_keeps (fun b => b.qlc.gangSlots[g]) (fun _ _ _ => rfl) fun _ _ _ => rfl, leaveDeckRequest_ownSlot]
    exact modAt_same ..
  · rw [gangOffline_keeps (fun b => b.nu.raw) (fun _ _ _ => rfl) fun _ _ _ => rfl, leaveDeckRequest_nu]
    rfl
  · rw [gangOffline_keeps (fun b => b.tickets) (fun _ _ _ => rfl) fun _ _ _ => rfl, leaveDeckRequest_tickets]
    rfl
  · rw [gangOffline_keeps (fun b => b.isWaiter g) (fun _ _ _ => rfl) fun _ _ _ => rfl, leaveDeckRequest_isWaiter]
  · rw [claim]
    exact leaveDeckRequest_confirmed (b := cutOff b (gangStation g) (.gang g)) held
  · rw [claim]
    exact leaveDeckRequest_unclaimed (b := cutOff b (gangStation g) (.gang g)) unheld

/-! ## GATE-IN (R104) -/

theorem promotionCheck_offline {b : Berth} (offline : b.online gateIn = false) : promotionCheck b = b :=
  if_neg fun both => by
    rw [offline] at both
    exact Bool.false_ne_true both.2

/-- R94: with no order in the promote queue no entry is being promoted. -/
theorem occupancy_unqueued {b : Berth} (empty : b.qlc.promotes = []) : b.occupancy = b.shu.holding.length := by
  simp [Berth.occupancy, Berth.promotingCount, Berth.promoting, empty]

/-! ## The reports of a crane's orders (R54) -/

theorem grantReports (b : Berth) (c : Crane) (n : TicketNo) (p : Option TicketNo) (bay : Bay) (row tier : Byte) (tag : Option Tag)
    (lane : Option Lane) (id : Nat) :
    ownerReport b (roleOf (craneStation c)) (.grant n p bay row tier tag lane id) false =
      (if (b.crane c).work = .granted ∧ (b.crane c).grantId = some id then withdraw b c .undelivered else b)
    ∧ ownerReport b (roleOf (craneStation c)) (.grant n p bay row tier tag lane id) true = b
    ∧ ∀ d, ownerReport b (roleOf (craneStation c)) (.withdraw n p id) d = b := by
  rw [roleOf_craneStation]
  exact ⟨rfl, rfl, fun d => by cases d <;> rfl⟩

/-! ## The obligation -/

/-- Settles O44, from the reports by order and the declarations by role. -/
theorem stationsGoOffline : Obligations.StationsGoOffline := by
  refine ⟨fun b st body => ?_, fun b g n bay => ⟨fun at_ awaits => ?_, fun idle d => ?_⟩,
    fun b g n kind bay c => ⟨fun t stands => ?_, fun stale => ?_, ?_, fun d => ?_⟩,
    fun b c n p bay row tier tag lane id => ?_, craneDeclared, gangDeclared, fun b => ?_⟩
  · exact ⟨fun d => station_congr (ownerReport_stations ..) st, rfl, reportOrder_counts b st body⟩
  · obtain ⟨activity, task, claim⟩ := awaits
    have awaited : b.awaitsDeckClear g n = true := (awaitsDeckClear_iff ..).2 ⟨at_, activity, task, claim⟩
    simp only [deckClear_report, awaited, if_true]
    exact ⟨deckCleared_records n claim, deckUncleared_records b g⟩
  · have unawaited : ¬ b.awaitsDeckClear g n = true := fun awaited => by
      obtain ⟨at_, awaits⟩ := (awaitsDeckClear_iff ..).1 awaited
      exact idle at_ awaits
    exact (deckClear_report b g n bay d).trans (if_neg unawaited)
  · simp only [ownerReport_gang, Bool.false_eq_true, if_false, dispatch_stands stands]
    refine ⟨?_, fun m other => task?_setTaskState_other b _ other, Berth.gang_modGang .., fun h other =>
      Berth.gang_modGang_other _ _ _ _ other, rfl, rfl, rfl⟩
    exact (task?_setTaskState_same ..).trans (by rw [dispatched_task stands]; rfl)
  · simp only [ownerReport_gang, Bool.false_eq_true, if_false]
    exact dispatch_stale stale kind bay c
  · exact ownerReport_gang b g (.dispatch n kind bay c) true
  · rw [ownerReport_gang]
    cases d <;> rfl
  · obtain ⟨undelivered, delivered, withdrawn⟩ := grantReports b c n p bay row tier tag lane id
    exact ⟨fun stands => undelivered.trans (if_pos stands), fun stale => undelivered.trans (if_neg stale), delivered, withdrawn⟩
  · have station := cutOff_station b gateIn .gateIn
    exact ⟨station, rfl, rfl, occupancy_unqueued rfl, rfl, rfl, promotionCheck_offline (congrArg (·.online) station)⟩

end Sys2Proof.Machine

/-! # Steps on the berth, with the writes that the mode takes

R190: a write that the mode refuses reaches no owner.  What the changes of the berth keep, each write in the modes that take
it, every step keeps. -/

namespace Sys2Proof.Machine

/-- Each of the changes that a step can make of the berth keeps a property of it, a write where the mode takes it. -/
structure KeptByTaken (P : Berth → Prop) : Prop where
  reset (k : Nat) : P { Berth.reset with free := k }
  timeout {b : Berth} : P b → P (b.raise portTimeout)
  write {b : Berth} (code : Byte) (body : List Byte) : modeRefusal code b.mode = none → P b → P (ownWrite code body b).1
  frame {b : Berth} (st : Station) (cls : BitVec 2) (kind : Byte) (body : List Byte) :
    P b → P (goodFrame b st cls kind body)
  noFrame {b : Berth} : P b → P (badFrame b)
  close {b : Berth} : P b → P (windowClose b)
  send {b : Berth} (o : SendOutcome) : P b → P (sendOrder o b)
  clock {b : Berth} : P b → P (clockStep b)
  expiry {b : Berth} (c : Crane) : P b → P (expiryEvent c b)
  late {b : Berth} (n : TicketNo) : P b → P (lateEvent n b)
  starved {b : Berth} (c : Crane) : P b → P (starveCheck b c)
  boundary {b : Berth} : P b → P (boundaryEvent b)

namespace KeptByTaken

variable {P : Berth → Prop} (K : KeptByTaken P) {s : State}
include K

/-! ## The planning port -/

theorem applyWrite (code : Byte) (body : List Byte) {b : Berth} (h : P b) : P (applyWrite code body b).1 := by
  unfold Machine.applyWrite
  split
  · exact h
  · split
    · exact h
    · next taken => exact K.write code body taken h

theorem chipRise (h : P s.berth) : P (chipRise s).berth := by
  unfold Machine.chipRise
  split
  · exact h
  · split
    case h_1 => exact K.applyWrite s.port.command s.port.staged h
    all_goals exact h

theorem openWith (code : Byte) (h : P s.berth) : P (openWith code s).berth := by
  unfold Machine.openWith
  split
  case h_3 => simpa using K.chipRise h
  all_goals simpa using h

theorem hostRead (code : Byte) (params : List Byte) (h : P s.berth) : P (hostRead code params s).berth := by
  unfold Machine.hostRead
  split
  · simpa using h
  · simpa using K.openWith code h

theorem openAndRise (code : Byte) (body : List Byte) (h : P s.berth) :
    P (Machine.chipRise (takeBytes (Machine.openWith code s) body)).berth :=
  K.chipRise (by simpa using K.openWith code h)

theorem hostWrite (code : Byte) (body : List Byte) (h : P s.berth) : P (hostWrite code body s).berth := by
  unfold Machine.hostWrite
  split
  · exact K.chipRise h
  · exact K.openAndRise code body h

theorem emptyTransactionEvent (h : P s.berth) : P (emptyTransactionEvent s).berth := by
  unfold Machine.emptyTransactionEvent
  split
  case h_1 => exact K.chipRise (by simpa using h)
  case h_2 => exact K.chipRise h
  case h_3 => exact K.chipRise (by simpa using K.chipRise h)

theorem portTimeoutEvent (p : Bool) (h : P s.berth) : P (portTimeoutEvent p s).berth := by
  unfold Machine.portTimeoutEvent
  split
  case h_1 | h_2 => exact h
  all_goals exact K.timeout h

/-! ## The link and the step -/

theorem frameEvent (kind : Byte) (f : Frame) {b : Berth} (h : P b) : P (frameEvent kind f b) := by
  unfold Machine.frameEvent
  split
  · exact K.frame _ _ _ _ h
  · exact K.noFrame h

theorem rawFrame (raw : List Byte) {b : Berth} (h : P b) : P (rawFrame raw b) := by
  unfold Machine.rawFrame
  split
  · exact K.frame _ _ _ _ h
  · exact K.noFrame h

/-- What the changes of the berth keep, every command and event keeps. -/
theorem exec (i : Instr) {t : State} (h : P s.berth) (e : exec i s = .next t) : P t.berth := by
  cases i <;> cases e
  case powerOn | pinReset => exact K.reset _
  case chipSelectFall | byteTaken => simpa using h
  case resetEnd => exact h
  case chipSelectRise => exact K.chipRise h
  case emptyTransaction => exact K.emptyTransactionEvent h
  case unassignedCommand => exact K.openAndRise _ _ h
  case transactionTimeout => exact K.portTimeoutEvent _ h
  case status | readTicket | find | readCrane | readStand | readHolding | readGang | readTask | readClaims | readStation
    | readRule | readClock | readNotices | readConfig => exact K.hostRead _ _ h
  case orderSend => exact KeptByEvents.berthEvent (K.send _) h
  case replyWindowClose => exact KeptByEvents.berthEvent K.close h
  case discardedFrame => exact KeptByEvents.berthEvent (K.rawFrame _) h
  case timeBaseStep => exact KeptByEvents.berthEvent K.clock h
  case grantExpiry => exact KeptByEvents.berthEvent (K.expiry _) h
  case ticketLate => exact KeptByEvents.berthEvent (K.late _) h
  case craneStarved => exact KeptByEvents.berthEvent (K.starved _) h
  case shiftBoundary => exact KeptByEvents.berthEvent K.boundary h
  case hello | ask | standby | position | lockOn | setDown | abandon | manual | auto | arrive | depart | deckRequest
    | taskDone | offDeck | lookupTicket | lookupContainer | lookupTag | reply =>
    exact KeptByEvents.berthEvent (K.frameEvent _ _) h
  all_goals exact K.hostWrite _ _ h

theorem step {t : State} (h : P s.berth) (e : step s = .next t) : P t.berth := by
  unfold Machine.step at e
  split at e
  · cases e; exact h
  · exact K.exec _ (by exact h) e

end KeptByTaken

end Sys2Proof.Machine

/-! # The deck

The claims, the gangs with their tasks, and the work states of the cranes, with the mode and the parameters that their rules
read.  Tickets, trucks, orders, notices, stations and quay time are no part of it. -/

namespace Sys2Proof.Machine

/-- What the rules of claims, gangs and tasks speak of. -/
def Berth.deck (b : Berth) : Mode × Params × BayClaims × Vector GangRec 4 × List Task × Vector WorkState 8 :=
  (b.mode, b.params, b.bct, b.ltu.gangs, b.ltu.tasks, b.cranes.map (·.work))

namespace Berth

/-! ## The named updates -/

@[simp] theorem modTicketsIf_deck (b : Berth) (p : Ticket → Bool) (f : Ticket → Ticket) : (b.modTicketsIf p f).deck = b.deck := rfl
@[simp] theorem modTicket_deck (b : Berth) (n : TicketNo) (f : Ticket → Ticket) : (b.modTicket n f).deck = b.deck := rfl
@[simp] theorem modTickets_deck (b : Berth) (ns : List TicketNo) (f : Ticket → Ticket) : (b.modTickets ns f).deck = b.deck := rfl
@[simp] theorem addTicket_deck (b : Berth) (t : Ticket) : (b.addTicket t).deck = b.deck := rfl
@[simp] theorem dropTicket_deck (b : Berth) (n : TicketNo) : (b.dropTicket n).deck = b.deck := rfl
@[simp] theorem craneReasons_deck (b : Berth) (c : Crane) : (b.craneReasons c).deck = b.deck := rfl
@[simp] theorem setReasons_deck (b : Berth) (ns : List TicketNo) (r : Reason) : (b.setReasons ns r).deck = b.deck := rfl
@[simp] theorem reserve_deck (b : Berth) : b.reserve.deck = b.deck := rfl
@[simp] theorem unreserve_deck (b : Berth) : b.unreserve.deck = b.deck := rfl
@[simp] theorem modStation_deck (b : Berth) (s : Station) (f : StationRec → StationRec) : (b.modStation s f).deck = b.deck := rfl
@[simp] theorem postCrane_deck (b : Berth) (c : Crane) (o : OrderBody) : (b.postCrane c o).deck = b.deck := rfl
@[simp] theorem setSent_deck (b : Berth) (x : Option (List Byte)) : (b.setSent x).deck = b.deck := rfl
@[simp] theorem setWindow_deck (b : Berth) (x : Option Station) : (b.setWindow x).deck = b.deck := rfl
@[simp] theorem emptyBoard_deck (b : Berth) : b.emptyBoard.deck = b.deck := rfl
@[simp] theorem modStand_deck (b : Berth) (c : Crane) (f : List Truck → List Truck) : (b.modStand c f).deck = b.deck := rfl
@[simp] theorem modEntries_deck (b : Berth) (c : Crane) (p : Truck → Bool) (f : Truck → Truck) :
    (b.modEntries c p f).deck = b.deck := rfl
@[simp] theorem owePromotion_deck (b : Berth) : b.owePromotion.deck = b.deck := rfl
@[simp] theorem raise_deck (b : Berth) (x : BitVec 16) : (b.raise x).deck = b.deck := rfl
@[simp] theorem evalLevels_deck (b : Berth) : b.evalLevels.deck = b.deck := rfl
@[simp] theorem consult_deck (b : Berth) : b.consult.deck = b.deck := rfl
@[simp] theorem setTime_deck (b : Berth) (q : QTime) : (b.setTime q).deck = b.deck := rfl
@[simp] theorem setRunning_deck (b : Berth) (r : Bool) : (b.setRunning r).deck = b.deck := rfl

/-- A crane's record is part of the deck by its work state alone. -/
theorem modCrane_deck (b : Berth) (c : Crane) {f : CraneRec → CraneRec} (same : ∀ r, (f r).work = r.work) :
    (b.modCrane c f).deck = b.deck := by
  have works : (modAt b.cranes c f).map (·.work) = b.cranes.map (·.work) := modAt_map _ _ same
  simp only [deck, modCrane, works]

end Berth

theorem StandOnly.deck {c : Crane} {b' b : Berth} (h : StandOnly c b' b) : b'.deck = b.deck :=
  h.eq Berth.deck fun _ => rfl

/-! ## Trucks -/

@[simp] theorem standsEnterConfig_deck (b : Berth) : (standsEnterConfig b).deck = b.deck :=
  foldl_keeps Berth.deck _ (fun b c => foldl_keeps Berth.deck _ (fun _ _ => by rfl) _ b) ..

@[simp] theorem admitToHolding_deck (b : Berth) (t : Truck) : (admitToHolding b t).1.deck = b.deck := by
  unfold admitToHolding; split <;> [(dsimp only; split <;> rfl); rfl]

@[simp] theorem admitToStand_deck (b : Berth) (t : Truck) (c : Crane) (l : Lane) :
    (admitToStand b t c l).1.deck = b.deck := by
  unfold admitToStand; dsimp only; split <;> rfl

@[simp] theorem arriveReport_deck (b : Berth) (body : List Byte) : (arriveReport b body).1.deck = b.deck := by
  have taken : ∀ tag chassis cargo u, (takeIn b tag chassis cargo u).1.deck = b.deck := fun tag chassis cargo u => by
    unfold takeIn
    dsimp only
    split
    · rfl
    · simp
    · split <;> [simp; (split <;> simp)]
  unfold arriveReport
  dsimp only
  split
  · rfl
  · split <;> [rfl; (split <;> [rfl; (split <;> [rfl; exact taken ..])])]

@[simp] theorem verifyTruck_deck (b : Berth) (p : Place) : (verifyTruck b p).deck = b.deck := by
  cases p <;> rfl

@[simp] theorem dropEntry_deck (b : Berth) (c : Crane) (t : Truck) : (dropEntry b c t).deck = b.deck := rfl

@[simp] theorem truckLeavesLift_deck (b : Berth) (c : Crane) : (truckLeavesLift b c).deck = b.deck :=
  (Berth.raise_deck _ _).trans (Berth.modCrane_deck _ _ fun _ => by rfl)

/-! ## Lifts, passes and time -/

theorem unbound_deck (b : Berth) (c : Crane) : (unbound b c).deck = b.deck :=
  unbound_keeps Berth.deck (fun _ => rfl) (fun _ _ => rfl) b

theorem givenBack_deck (b : Berth) (c : Crane) : (givenBack b c).deck = b.deck :=
  givenBack_keeps Berth.deck (fun _ => rfl) (fun _ _ => rfl) b

@[simp] theorem lockOnTruck_deck (b : Berth) (c : Crane) : (lockOnTruck b c).deck = b.deck := by
  unfold lockOnTruck
  split
  · exact Berth.modCrane_deck _ _ fun _ => by rfl
  · rfl

@[simp] theorem setForced_deck (b : Berth) (c : Crane) (n : TicketNo) : (setForced b c n).deck = b.deck := rfl

@[simp] theorem markLates_deck (b : Berth) : (markLates b).deck = b.deck := by
  unfold markLates; split <;> rfl

@[simp] theorem starveCheck_deck (b : Berth) (c : Crane) : (starveCheck b c).deck = b.deck := by
  unfold starveCheck
  split
  · exact (Berth.raise_deck _ _).trans (Berth.modCrane_deck _ _ fun _ => by rfl)
  · rfl

@[simp] theorem starveSweep_deck (b : Berth) : (starveSweep b).deck = b.deck := foldl_keeps Berth.deck _ starveCheck_deck ..

@[simp] theorem promoteDue_deck (b : Berth) : (promoteDue b).deck = b.deck :=
  promoteDue_keeps Berth.deck (fun _ _ => rfl) (fun _ _ _ _ => rfl) b

@[simp] theorem orderTaken_deck (b : Berth) : b.orderTaken.deck = b.deck := orderTaken_keeps Berth.deck (fun _ => rfl) b

@[simp] theorem writeFailures_deck (c : Crane) (b : Berth) (k : Candidate) : (writeFailures c b k).deck = b.deck := by
  unfold writeFailures; split <;> rfl

@[simp] theorem deadlineBeforeExpiry_deck (b : Berth) (n : TicketNo) : (deadlineBeforeExpiry b n).deck = b.deck := by
  unfold deadlineBeforeExpiry
  split
  · rfl
  · split <;> [(split <;> rfl); rfl]

/-! ## The link -/

@[simp] theorem makeOnline_deck (b : Berth) (s : Station) : (makeOnline b s).deck = b.deck := by
  unfold makeOnline; dsimp only; split <;> [rfl; (split <;> rfl)]

@[simp] theorem cutOff_deck (b : Berth) (s : Station) (r : Role) : (cutOff b s r).deck = b.deck := by
  cases r <;> rfl

@[simp] theorem launch_deck (b : Berth) (s : Station) : (launch b s).deck = b.deck := by
  unfold launch; split <;> rfl

@[simp] theorem answer_deck (b : Berth) (s : Station) (r : Reply) : (answer b s r).deck = b.deck := by
  unfold answer; split <;> rfl

end Sys2Proof.Machine

/-! # What keeps the deck in order

The changes that a step can make of the deck, each once; all else that a step does leaves the deck as it was. -/

namespace Sys2Proof.Machine

/-- Each of the changes that a part of a step can make of the deck keeps a property of it. -/
structure KeptOnDeck (P : Berth → Prop) : Prop where
  same {b b' : Berth} : b'.deck = b.deck → P b → P b'
  reset (k : Nat) : P { Berth.reset with free := k }
  enter {b : Berth} (m : Mode) : m = .run ∨ b.mode ≠ .run ∨ (∀ c, (b.crane c).work.lifted = false) → P b → P (b.setMode m)
  configured {b : Berth} (p : Params) : b.mode = .config → P b → P { b with params := p }
  cleared {b : Berth} : P b → P (clearAll b)
  -- cranes
  work {b : Berth} {c : Crane} {f : CraneRec → CraneRec} :
    ((f (b.crane c)).work.lifted = false → (b.crane c).work.lifted = false) → P b → P (b.modCrane c f)
  released {b : Berth} (c : Crane) (f : CraneRec → CraneRec) : P b → P (releaseCraneClaim (b.modCrane c f) c)
  granted {b : Berth} {c : Crane} {bay : Bay} {f : CraneRec → CraneRec} : b.mode = .run → b.deckFree bay = true →
    b.clearanceFree c bay = true → (f (b.crane c)).work.lifted = true → P b → P ((b.modCrane c f).setCraneClaim c (some bay))
  -- tasks
  relinked {b : Berth} {n : TaskNo} {f : Task → Task} : (∀ t, f t = { t with linked := (f t).linked }) → P b → P (b.modTask n f)
  created {b : Berth} {n : TaskNo} (k : TaskKind) (bay : Bay) (c : Crane) (l : Nat) : b.freeTaskSlot = some n → P b →
    P (b.createTask n k bay c l)
  dropped {b : Berth} {t : Task} : b.task? t.number = some t → P b → P (dropUnlinked b t)
  assigned {b : Berth} : P b → P (assignPass b)
  dispatched {b : Berth} (g : Gang) : P b → P (dispatchGang b g)
  -- gangs
  rostered {b : Berth} (g : Gang) (x : BitVec 4) : P b → P (b.modGang g fun r => { r with roster := x })
  dutyOn {b : Berth} (g : Gang) : P b → P (dutyOn b g)
  dutyOff {b : Berth} (g : Gang) : P b → P (dutyOff b g)
  served {b : Berth} (g : Gang) (x : BitVec 8) : P b → P (serve b g x)
  request {b : Berth} (g : Gang) (n : TaskNo) : P b → P (deckRequest b g n).1
  done {b : Berth} (g : Gang) (n : TaskNo) : P b → P (taskDoneReport b g n).1
  offDeck {b : Berth} {g : Gang} {bay : Bay} (k : Bool) : b.gangClaim g = some { bay, standing := .confirmed } → P b →
    P (comeOffDeck b g k)
  delivered {b : Berth} (g : Gang) (body : OrderBody) : P b → P (gangDelivered b g body)
  undelivered {b : Berth} (g : Gang) (body : OrderBody) : P b → P (gangUndelivered b g body)
  offline {b : Berth} (g : Gang) : P b → P (gangOffline b g)
  enterConfig {b : Berth} : P b → P (allGangs.foldl gangEnterConfig (claimsEnterConfig b))

/-- A fold of steps that keep a property keeps it. -/
theorem foldl_kept {α β : Type} {P : β → Prop} {f : β → α → β} (h : ∀ b x, P b → P (f b x)) (l : List α) {b : β} (kept : P b) :
    P (l.foldl f b) := by
  induction l generalizing b with
  | nil => exact kept
  | cons x xs ih => exact ih (h b x kept)

namespace KeptOnDeck

variable {P : Berth → Prop} (K : KeptOnDeck P) {b : Berth}
include K

/-! ## Tasks -/

theorem unlinkUnlash (n : TicketNo) (h : P b) : P (unlinkUnlash b n) := by
  unfold Machine.unlinkUnlash
  split
  · exact h
  · have linked : ∀ k, P ((b.modTicket n fun t => { t with task := none, lashState := .notNeeded }).modTask k
        fun t => { t with linked := t.linked - 1 }) := fun k => K.relinked (fun _ => rfl) (K.same (by rfl) h)
    dsimp only
    split
    · next found =>
      split
      · exact K.dropped ((Berth.task?_number found).symm ▸ found) (linked _)
      · exact linked _
    · exact linked _

theorem unlinkLash (t : Ticket) (h : P b) : P (unlinkLash b t) := by
  unfold Machine.unlinkLash
  split
  · exact K.relinked (fun _ => rfl) h
  · exact h

theorem freeTicket (n : TicketNo) (h : P b) : P (freeTicket b n) := by
  unfold Machine.freeTicket
  split
  · exact h
  · dsimp only
    refine K.same (Berth.dropTicket_deck ..) (K.unlinkLash _ ?_)
    split
    · exact K.same (by simp) h
    · exact h

theorem linkLash (c : Crane) (bay : Bay) (ns : List TicketNo) (h : P b) : P (linkLash b c bay ns) := by
  have unreserved : P b.unreserve := K.same (by simp) h
  cases join : b.joinableLash bay with
  | some x =>
    rw [linkLash_join join]
    exact K.same (Berth.modTickets_deck ..) (K.relinked (fun _ => rfl) unreserved)
  | none =>
    cases slot : b.freeTaskSlot with
    | some j =>
      rw [linkLash_create join slot]
      exact K.same (Berth.modTickets_deck ..) (K.created _ _ _ _ slot unreserved)
    | none =>
      rw [linkLash_full join slot]
      exact unreserved

/-- R11: a release's link to an unlash task. -/
theorem linkUnlash {b' : Berth} {t : Ticket} (e : linkUnlash b t = some b') (h : P b) : P b' := by
  unfold Machine.linkUnlash at e
  dsimp only at e
  split at e
  · cases e
    exact K.same (Berth.modTicket_deck ..) (K.relinked (fun _ => rfl) h)
  · split at e
    · cases e
    · split at e
      · next slot =>
        cases e
        exact K.same (Berth.modTicket_deck ..) (K.created _ _ _ _ slot h)
      · cases e

theorem releaseTicket {b' : Berth} {t : Ticket} (e : releaseTicket b t = .ok b') (h : P b) : P b' := by
  unfold Machine.releaseTicket at e
  dsimp only at e
  split at e
  · cases e
  · split at e
    · split at e
      · next linked =>
        cases e
        exact K.same (Berth.modTicket_deck ..) (K.linkUnlash linked h)
      · cases e
    · cases e
      exact K.same (Berth.modTicket_deck ..) h

theorem cancelTicket (t : Ticket) (h : P b) : P (cancelTicket b t) := by
  rw [cancelTicket_eq]
  refine K.same (Berth.modTicket_deck ..) (K.same (b := awaitingUnlinked b t) (by cases t.partner <;> rfl) ?_)
  unfold awaitingUnlinked
  split
  · exact K.unlinkUnlash _ h
  · exact h

theorem amendTicket (set : BitVec 16) (body : List Byte) (t : Ticket) (h : P b) : P (amendTicket b set body t) := by
  have partner : ∀ (b : Berth) p q, (setPartner b p q).deck = b.deck := fun b p q => by cases p <;> rfl
  rw [amendTicket_eq]
  refine K.same (b := amendUnlinked b t (amendFields set body t)) (by simp [partner]) ?_
  unfold amendUnlinked
  split
  · exact K.unlinkUnlash _ h
  · exact h

/-! ## Cranes -/

theorem withdraw (c : Crane) (cause : Cause) (h : P b) : P (withdraw b c cause) := by
  have freed : P (releaseCraneClaim (ungranted b c cause) c) := K.released _ _ (K.same (unbound_deck b c) h)
  exact K.same (withdraw_keeps Berth.deck (fun _ _ => rfl) (fun _ => rfl) (fun _ _ => rfl) b cause) freed

theorem abandonLift (c : Crane) (h : P b) : P (abandonLift b c) := by
  have freed : P (releaseCraneClaim (givenUp b c) c) := K.released _ _ (K.same (givenBack_deck b c) h)
  exact K.same (abandonLift_keeps Berth.deck (fun _ _ => rfl) b c) (K.same (b' := abandoned b c) (by rfl) freed)

theorem land (c : Crane) (k : Bool) (h : P b) : P (land b c k) := by
  have freed : P (releaseCraneClaim (setDown b c k) c) := K.released _ _ (K.same (landOnTruck_standOnly b c).deck h)
  have linked : P (landed b c k) := by
    refine K.same (Berth.craneReasons_deck ..) ?_
    unfold linkLanded
    split
    · exact freed
    · exact freed
    · exact K.linkLash _ _ _ freed
  rw [land_eq]
  split
  · exact foldl_kept (fun _ n => K.freeTicket n) _ linked
  · exact linked

theorem lockOn (c : Crane) (h : P b) : P (lockOn b c) :=
  K.same (lockOnTruck_deck ..) (K.work (fun e => Bool.noConfusion e) (K.same (Berth.modTickets_deck ..) h))

theorem endWaiting {c : Crane} (waiting : (b.crane c).work = .waiting) (h : P b) : P (endWaiting b c) :=
  K.same (Berth.craneReasons_deck ..) (K.work (fun _ => by rw [waiting]; rfl) h)

theorem control (c : Crane) {f : CraneRec → CraneRec} (same : ∀ r, (f r).work = r.work) (h : P b) : P (b.modCrane c f) :=
  K.same (Berth.modCrane_deck b c same) h

theorem setManual (c : Crane) (h : P b) : P (setManual b c) := by
  have manual : P (b.modCrane c fun r => { r with control := .manual }) := K.control c (fun _ => rfl) h
  unfold Machine.setManual
  dsimp only
  split
  · exact h
  · split
    case h_3 waiting => exact K.endWaiting waiting manual
    case h_4 => exact K.withdraw c .manual manual
    all_goals exact manual

theorem setAuto (c : Crane) (h : P b) : P (setAuto b c) := by
  unfold Machine.setAuto
  split
  · exact h
  · exact K.same (Berth.owePromotion_deck _) (K.control c (fun _ => rfl) h)

theorem haltCrane (c : Crane) (h : P b) : P (haltCrane b c) := by
  have halted : P ((b.modCrane c fun r => { r with halt := true }).modTicketsIf
      (fun t => t.crane == c && t.state == .pending) Ticket.haltHeld) :=
    K.same (Berth.modTicketsIf_deck ..) (K.control c (fun _ => rfl) h)
  unfold Machine.haltCrane
  dsimp only
  split
  case h_1 waiting => exact K.endWaiting waiting halted
  case h_2 => exact K.withdraw c .halt halted
  all_goals exact halted

theorem craneOffline (c : Crane) (h : P b) : P (craneOffline b c) := by
  cases work : (b.crane c).work with
  | idle => rw [craneOffline_idle work]; exact h
  | waiting => rw [craneOffline_waiting work]; exact K.endWaiting work h
  | granted => rw [craneOffline_granted work]; exact K.withdraw c .offline h
  | lifting => rw [craneOffline_lifting work]; exact K.same (by rfl) h

theorem removeTruck (p : Place) (h : P b) : P (removeTruck b p) := by
  unfold Machine.removeTruck
  split
  · exact K.same (by rfl) h
  · split
    · split
      · exact K.same (dropEntry_deck ..) (K.withdraw _ _ h)
      all_goals exact K.same (by simp) h
    · exact K.same (dropEntry_deck ..) h

/-- R41, R69: a grant or a pick of a candidate that has passed its checks. -/
theorem makeGrant {c : Crane} {k : Candidate} {pin : Option Tag} {e : Option Truck} (pick : Bool) (run : b.mode = .run)
    (passed : checkCandidate b c k pin = .ok e) (h : P b) : P (makeGrant b c k e pick) := by
  obtain ⟨deck, clearance, -⟩ := checkCandidate_passed passed
  have base : P ({ b.modTickets k.numbers (grantTicketPart b.nowSecs e) with grants := b.grants + 1 } : Berth) :=
    K.same (by rfl) h
  have recorded : P ((recorded b c k e pick).setCraneClaim c (some k.lead.bay)) := K.granted run deck clearance rfl base
  refine K.same ?_ recorded
  rw [makeGrant_keeps Berth.deck (fun _ => rfl) (fun _ _ => rfl) fun _ => rfl]
  exact (bindTruck_standOnly (Machine.recorded b c k e pick) c e).eq
    (fun b => (b.setCraneClaim c (some k.lead.bay)).deck) fun _ => rfl

/-! ## The end of a change -/

theorem selectionPass (c : Crane) (run : b.mode = .run) (h : P b) : P (selectionPass b c) := by
  have judged : ∀ l : List Candidate, (l.foldl (writeFailures c) b).deck = b.deck := fun l =>
    foldl_keeps Berth.deck _ (writeFailures_deck c) l b
  have running : ∀ {b' : Berth}, b'.deck = b.deck → b'.mode = .run := fun e => (congrArg (·.1) e).trans run
  unfold Machine.selectionPass
  split
  · unfold passStrict
    split
    · exact h
    · dsimp only
      split
      · exact K.same (by simp) h
      · next passed => exact K.makeGrant false run passed (K.same (by simp) h)
  · unfold passPriority
    dsimp only
    split
    · exact K.same (judged _) h
    · split
      · exact K.same ((Berth.setReasons_deck ..).trans (judged _)) h
      · next passed => exact K.makeGrant false (running (judged _)) passed (K.same (judged _) h)

/-- A part of the end of a change that writes no fixed record goes on in RUN. -/
theorem passAndCheck (c : Crane) (h : b.mode = .run ∧ P b) : (passAndCheck b c).mode = .run ∧ P (passAndCheck b c) :=
  ⟨(congrArg (·.1) (passAndCheck_fixed b c)).trans h.1, K.same (starveCheck_deck ..) (K.selectionPass c h.1 h.2)⟩

theorem scanPasses (cs : List Crane) (h : b.mode = .run ∧ P b) :
    (scanPasses cs b).1.mode = .run ∧ P (scanPasses cs b).1 := by
  induction cs generalizing b with
  | nil => exact h
  | cons c cs ih =>
    have passed := K.passAndCheck c h
    unfold Machine.scanPasses
    dsimp only
    split
    · exact ih passed
    · exact passed

theorem passRounds (fuel : Nat) (h : b.mode = .run ∧ P b) : P (passRounds fuel b) := by
  induction fuel generalizing b with
  | zero => exact h.2
  | succ n ih =>
    have taken : b.orderTaken.mode = .run ∧ P b.orderTaken :=
      ⟨(congrArg (·.1) (orderTaken_fixed b)).trans h.1, K.same (orderTaken_deck b) h.2⟩
    have scanned := K.scanPasses b.passOrder taken
    rw [passRounds_succ]
    split
    · exact ih scanned
    · exact scanned.2

theorem runPasses (run : b.mode = .run) (h : P b) : P (runPasses b) := K.passRounds 9 ⟨run, h⟩

theorem gangWork (h : P b) : P (gangWork b) := foldl_kept (fun _ g => K.dispatched g) _ (K.assigned h)

theorem runWork (run : b.mode = .run) (h : P b) : P (runWork b) := by
  have mode : ∀ {b' : Berth}, b'.fixed = b.fixed → b'.mode = .run := fun e => (congrArg (·.1) e).trans run
  have worked := K.gangWork h
  unfold Machine.runWork
  dsimp only
  split
  · have first := K.runPasses (mode (by simp)) (K.same (Berth.consult_deck _) worked)
    exact K.runPasses (mode (by simp [Machine.runPasses])) (K.same (promoteDue_deck _) first)
  · split
    · exact K.runPasses (mode (by simp)) (K.same (by simp) worked)
    · exact K.runPasses (mode (by simp)) (K.same (promoteDue_deck _) worked)

theorem settle (h : P b) : P (settle b) := by
  have marked : P (markLates b) := K.same (markLates_deck b) h
  refine K.same ((Berth.evalLevels_deck _).trans (starveSweep_deck _)) ?_
  split
  · next run => exact K.runWork run marked
  · exact K.same (by rfl) marked

theorem settleIf {b' : Berth} (h : P b') : P (settleIf b b') := by
  unfold Machine.settleIf
  split
  · next same => exact same ▸ h
  · exact K.settle h

/-! ## Quay time -/

theorem applyRoster (g : Gang) (h : P b) : P (applyRoster b g) := by
  unfold Machine.applyRoster
  split
  · exact K.dutyOff g h
  · exact K.dutyOn g h

theorem applyRosters (h : P b) : P (applyRosters b) := foldl_kept (fun _ g => K.applyRoster g) _ h

theorem evalShift (h : P b) : P (evalShift b) := by
  unfold Machine.evalShift
  dsimp only
  split
  · exact h
  · exact K.applyRosters (K.same (by rfl) h)

theorem expireGrant (c : Crane) (h : P b) : P (expireGrant b c) := by
  unfold Machine.expireGrant
  split
  · exact K.withdraw _ _ (K.same (foldl_keeps Berth.deck _ deadlineBeforeExpiry_deck ..) h)
  · exact h

theorem dueTimeEvent (h : P b) : P (dueTimeEvent b) :=
  foldl_kept (fun _ c => K.expireGrant c) _ (K.same (starveSweep_deck b) h)

theorem clockStep (h : P b) : P (clockStep b) := by
  have due : P (Machine.dueTimeEvent (b.setTime b.now.next)) := K.dueTimeEvent (K.same (Berth.setTime_deck ..) h)
  unfold Machine.clockStep
  dsimp only
  split
  · refine K.settle ?_
    split
    · exact due
    · exact K.evalShift due
  · exact h

theorem expiryEvent (c : Crane) (h : P b) : P (expiryEvent c b) := by
  unfold Machine.expiryEvent
  split
  · exact K.settle (K.expireGrant c h)
  · exact h

theorem lateEvent (n : TicketNo) (h : P b) : P (lateEvent n b) := by
  unfold Machine.lateEvent
  split
  · exact K.settle (K.same (by rfl) h)
  · exact h

theorem boundaryEvent (h : P b) : P (boundaryEvent b) := by
  unfold Machine.boundaryEvent
  split
  · exact K.settle (K.evalShift h)
  · exact h

/-! ## Ticket commands -/

theorem ownLoad (body : List Byte) (h : P b) : P (ownLoad b body).1 := by
  have created : ∀ t, P (createTicket b t) := fun t => by
    unfold createTicket
    dsimp only
    split <;> exact K.same (by simp) h
  unfold Machine.ownLoad
  dsimp only
  split; · exact h
  split; · exact h
  split; · exact h
  split; · exact h
  split
  · exact K.settle (created _)
  · split
    · next released => exact K.settle (K.releaseTicket released (created _))
    · exact h

theorem ownAmend (body : List Byte) (h : P b) : P (ownAmend b body).1 := by
  unfold Machine.ownAmend
  dsimp only
  repeat' split
  all_goals first | exact h | exact K.settle (K.amendTicket _ _ _ h)

theorem ownRelease (body : List Byte) (h : P b) : P (ownRelease b body).1 := by
  unfold Machine.ownRelease
  dsimp only
  split; · exact h
  split; · exact h
  split
  · next released => exact K.settle (K.releaseTicket released h)
  · exact h

theorem ownHold (body : List Byte) (h : P b) : P (ownHold b body).1 := by
  unfold Machine.ownHold
  dsimp only
  split
  · exact h
  · split
    case h_2 => exact K.settle (K.same (Berth.modTicket_deck ..) h)
    case h_3 => exact K.settle (K.withdraw _ _ h)
    all_goals exact h

theorem ownCancel (body : List Byte) (h : P b) : P (ownCancel b body).1 := by
  unfold Machine.ownCancel
  dsimp only
  split
  · exact h
  · split
    case h_1 | h_2 => exact K.settle (K.cancelTicket _ h)
    case h_3 => exact K.settle (K.cancelTicket _ (K.withdraw _ _ h))
    all_goals exact h

theorem ownRetire (body : List Byte) (h : P b) : P (ownRetire b body).1 := by
  unfold Machine.ownRetire
  dsimp only
  split
  · exact h
  · split
    · exact h
    · exact K.settle (K.freeTicket _ h)

theorem ownForce (body : List Byte) (h : P b) : P (ownForce b body).1 := by
  have forced : ∀ c n, P (setForced b c n) := fun c n => K.same (setForced_deck b c n) h
  unfold Machine.ownForce
  dsimp only
  split; · exact h
  split; · exact h
  split; · exact h
  split
  · exact K.settle (K.land _ _ (forced _ _))
  · exact K.settle (K.abandonLift _ (forced _ _))

/-! ## Crane, lane and truck commands -/

theorem ownCraneHalt (body : List Byte) (h : P b) : P (ownCraneHalt b body).1 := by
  unfold Machine.ownCraneHalt
  split
  · exact h
  · exact K.settle (K.haltCrane _ h)

theorem ownCraneResume (body : List Byte) (h : P b) : P (ownCraneResume b body).1 := by
  unfold Machine.ownCraneResume
  split
  · exact h
  · exact K.control _ (fun _ => rfl) h

theorem ownCraneMode (body : List Byte) (h : P b) : P (ownCraneMode b body).1 := by
  unfold Machine.ownCraneMode
  split
  · next c m o k _ _ _ _ =>
    have set : P (b.modCrane c fun r => { r with seqMode := m, oneShot := o }) := K.control c (fun _ => rfl) h
    refine K.settle ?_
    cases k
    · exact K.setAuto c set
    · exact K.setManual c set
  · exact h

theorem ownLaneSet (body : List Byte) (h : P b) : P (ownLaneSet b body).1 := by
  unfold Machine.ownLaneSet
  dsimp only
  split
  · split
    · exact h
    · refine K.settle ?_
      split <;> exact K.same (by rfl) h
  · exact h

theorem ownTruckRemove (body : List Byte) (h : P b) : P (ownTruckRemove b body).1 := by
  unfold Machine.ownTruckRemove
  split
  · exact h
  · exact K.settle (K.removeTruck _ h)

theorem ownTruckVerify (body : List Byte) (h : P b) : P (ownTruckVerify b body).1 := by
  unfold Machine.ownTruckVerify
  split
  · exact h
  · exact K.settle (K.same (verifyTruck_deck ..) h)

theorem ownRuleWrite (body : List Byte) (h : P b) : P (ownRuleWrite b body).1 := by
  unfold Machine.ownRuleWrite
  dsimp only
  split
  · split
    · exact h
    · exact K.same (by rfl) h
  · exact h

/-! ## Gang commands -/

theorem ownGangDuty (body : List Byte) (h : P b) : P (ownGangDuty b body).1 := by
  unfold Machine.ownGangDuty
  split
  · refine K.settle ?_
    split
    · exact K.dutyOn _ h
    · exact K.dutyOff _ h
  · exact h

theorem ownGangServe (body : List Byte) (h : P b) : P (ownGangServe b body).1 := by
  unfold Machine.ownGangServe
  split
  · exact K.settle (K.served _ _ h)
  · exact h

theorem ownGangRoster (body : List Byte) (h : P b) : P (ownGangRoster b body).1 := by
  unfold Machine.ownGangRoster
  split
  · split
    · exact K.settle (K.applyRoster _ (K.rostered _ _ h))
    · exact h
  · exact h

omit K in
theorem confirmed_of_any {g : Gang} (held : (b.gangClaim g).any (fun k => k.standing == .confirmed) = true) :
    ∃ bay, b.gangClaim g = some { bay, standing := .confirmed } := by
  obtain ⟨⟨bay, standing⟩, claim, stands⟩ := (Option.any_eq_true ..).1 held
  obtain rfl : standing = .confirmed := by simpa using stands
  exact ⟨bay, claim⟩

theorem ownGangClear (body : List Byte) (h : P b) : P (ownGangClear b body).1 := by
  unfold Machine.ownGangClear
  split
  · split
    · next held =>
      obtain ⟨bay, claim⟩ := confirmed_of_any held
      exact K.settle (K.offDeck _ claim h)
    · exact h
  · exact h

/-! ## Clock, mode and configuration commands -/

theorem ownClockSet (body : List Byte) (h : P b) : P (ownClockSet b body).1 := by
  unfold Machine.ownClockSet
  dsimp only
  split
  all_goals
    split
    · exact h
    · exact K.settle (K.dueTimeEvent (K.evalShift (K.same (Berth.setTime_deck ..) h)))

theorem ownClockAdjust (body : List Byte) (h : P b) : P (ownClockAdjust b body).1 := by
  unfold Machine.ownClockAdjust
  dsimp only
  split
  · exact h
  · split
    · exact h
    · have set : P (b.setTime (b.now.adjust (byteAt body 0))) := K.same (Berth.setTime_deck ..) h
      refine K.settle (K.dueTimeEvent ?_)
      split
      · exact set
      · exact K.evalShift set

theorem ownClockRun (h : P b) : P (ownClockRun b).1 := by
  unfold Machine.ownClockRun
  dsimp only
  split
  · exact h
  · exact K.settle (K.dueTimeEvent (K.same (Berth.setRunning_deck ..) h))

/-- R211: with nothing lifted, what the entry into CONFIG does. -/
theorem enterConfigFromRun (idle : ∀ c, (b.crane c).work.lifted = false) (h : P b) : P (enterConfigFromRun b) := by
  have entered : P (b.setMode .config) := K.enter .config (Or.inr (Or.inr idle)) h
  have emptied : P (standsEnterConfig (b.setMode .config)).emptyBoard :=
    K.same ((Berth.emptyBoard_deck _).trans (standsEnterConfig_deck _)) entered
  unfold Machine.enterConfigFromRun
  dsimp only
  refine K.enterConfig (foldl_kept (fun b c kept => ?_) allCranes emptied)
  split
  · next waiting => exact K.endWaiting waiting kept
  · exact kept

theorem enterMonitor (config : b.mode ≠ .run) (h : P b) : P (enterMonitor b) :=
  K.same (by rfl) (K.enter .monitor (Or.inr (Or.inl config)) h)

omit K in
theorem lifting_idle (idle : b.lifting = false) (c : Crane) : (b.crane c).work.lifted = false := by
  simp only [Berth.lifting, Bool.or_eq_false_iff, Berth.busyCrane, Option.isSome_eq_false_iff, Option.isNone_iff_eq_none] at idle
  simpa using List.find?_eq_none.1 idle.1 c (mem_allCranes c)

theorem moveMode (m : Mode) (h : P b) : P (moveMode b m).1 := by
  unfold Machine.moveMode
  dsimp only
  split
  case h_4 =>
    split
    · exact K.settle (K.same (Berth.owePromotion_deck _) (K.applyRosters (K.enter .run (Or.inl rfl) h)))
    · exact h
  case h_5 config => exact K.enterMonitor (by rw [config]; decide) h
  case h_6 =>
    split
    · exact h
    · next idle => exact K.settle (K.enterConfigFromRun (lifting_idle (by simpa using idle)) h)
  case h_7 monitor => exact K.enter .config (Or.inr (Or.inl (by rw [monitor]; decide))) h
  all_goals exact h

theorem ownModeSet (body : List Byte) (h : P b) : P (ownModeSet b body).1 := by
  unfold Machine.ownModeSet
  split
  · exact h
  · exact K.moveMode _ h

theorem ownConfigWrite (body : List Byte) (config : b.mode = .config) (h : P b) : P (ownConfigWrite b body).1 := by
  have applied : ∀ code c value, P (applyConfig b code c value) := fun code c value => by
    have written := K.configured (b.params.write code c value) config h
    unfold applyConfig
    dsimp only
    split
    · exact K.evalShift written
    · exact written
  unfold Machine.ownConfigWrite
  dsimp only
  repeat' split
  all_goals first | exact h | exact K.settle (applied _ _ _)

theorem ownPartition (body : List Byte) (h : P b) : P (ownPartition b body).1 := by
  unfold Machine.ownPartition
  dsimp only
  repeat' split
  all_goals first | exact h | exact K.settle (K.same (by rfl) h)

omit K in
/-- R190: CONFIG alone takes CONFIG_WRITE. -/
theorem configWrite_taken {code : Byte} (configWrite : code.toNat = 0x61) (taken : modeRefusal code b.mode = none) :
    b.mode = .config := by
  cases mode : b.mode with
  | config => rfl
  | run | monitor => simp [modeRefusal, configWrite, mode] at taken

theorem ownWrite (code : Byte) (body : List Byte) (taken : modeRefusal code b.mode = none) (h : P b) :
    P (ownWrite code body b).1 := by
  unfold Machine.ownWrite
  split
  case h_1 => exact K.ownLoad body h
  case h_2 => exact K.ownAmend body h
  case h_3 => exact K.ownRelease body h
  case h_4 => exact K.ownHold body h
  case h_5 => exact K.ownCancel body h
  case h_6 => exact K.ownRetire body h
  case h_7 => exact K.ownForce body h
  case h_8 => exact K.ownCraneHalt body h
  case h_9 => exact K.ownCraneResume body h
  case h_10 => exact K.ownCraneMode body h
  case h_11 => exact K.ownLaneSet body h
  case h_12 => exact K.ownTruckVerify body h
  case h_13 => exact K.ownTruckRemove body h
  case h_14 => exact K.ownGangDuty body h
  case h_15 => exact K.ownGangServe body h
  case h_16 => exact K.ownGangRoster body h
  case h_17 => exact K.ownGangClear body h
  case h_18 => exact K.ownRuleWrite body h
  case h_19 => exact K.ownClockSet body h
  case h_20 => exact K.ownClockAdjust body h
  case h_21 => exact K.ownClockRun h
  case h_22 | h_23 | h_24 => exact K.same (by rfl) h
  case h_25 => exact K.ownModeSet body h
  case h_26 configWrite => exact K.ownConfigWrite body (configWrite_taken configWrite taken) h
  case h_27 => exact K.ownPartition body h
  case h_28 => exact K.settle (K.cleared h)
  case h_29 => exact h

/-! ## Reports of stations -/

theorem askReport (c : Crane) (h : P b) : P (askReport b c).1 := by
  unfold Machine.askReport
  dsimp only
  split
  · exact h
  · split
    · exact h
    · split
      case h_1 idle => exact K.work (fun _ => by rw [idle]; rfl) h
      all_goals exact h

theorem standbyReport (c : Crane) (h : P b) : P (standbyReport b c).1 := by
  unfold Machine.standbyReport
  split
  case h_2 waiting => exact K.endWaiting waiting h
  all_goals exact h

theorem positionReport (c : Crane) (bay : Bay) (h : P b) : P (positionReport b c bay).1 := by
  unfold Machine.positionReport
  split
  case h_1 | h_2 => exact h
  all_goals
    split
    · exact K.control c (fun _ => rfl) h
    · exact h

theorem manualPick (c : Crane) (n : TicketNo) (tag : Option Tag) (run : b.mode = .run) (h : P b) :
    P (manualPick b c n tag).1 := by
  unfold Machine.manualPick
  dsimp only
  split
  · exact h
  · split
    · exact h
    · split
      · exact h
      · split
        · exact h
        · next passed => exact K.lockOn c (K.same (Berth.modTickets_deck ..) (K.makeGrant true run passed h))

theorem lockOnReport (c : Crane) (n : TicketNo) (tag : Option Tag) (run : b.mode = .run) (h : P b) :
    P (lockOnReport b c n tag).1 := by
  unfold Machine.lockOnReport
  dsimp only
  split
  · exact K.lockOn c h
  · split
    · exact h
    · split
      all_goals split
      case h_2.isTrue => exact K.manualPick c n tag run h
      all_goals exact h

theorem setDownReport (c : Crane) (n : TicketNo) (k : Bool) (h : P b) : P (setDownReport b c n k).1 := by
  unfold Machine.setDownReport
  dsimp only
  repeat' split
  all_goals first | exact h | exact K.land _ _ h

theorem abandonReport (c : Crane) (n : TicketNo) (h : P b) : P (abandonReport b c n).1 := by
  unfold Machine.abandonReport
  dsimp only
  repeat' split
  all_goals first | exact h | exact K.abandonLift _ h

theorem departReport (tag : Tag) (h : P b) : P (departReport b tag).1 := by
  unfold Machine.departReport
  split
  · exact h
  · exact K.removeTruck _ h

theorem offDeckReport (g : Gang) (h : P b) : P (offDeckReport b g).1 := by
  unfold Machine.offDeckReport
  split
  · next claim => exact K.offDeck false claim h
  · exact h

/-- R165, R166: a report in RUN, or one that CONFIG hands on. -/
theorem ownReport (r : Role) (kind : Byte) (body : List Byte) (taken : b.mode = .run ∨ takenInConfig kind = true) (h : P b) :
    P (ownReport b r kind body).1 := by
  unfold Machine.ownReport
  split
  · exact h
  · cases r with
    | crane c =>
      dsimp only
      split; · exact K.askReport c h
      split; · exact K.standbyReport c h
      split; · exact K.positionReport c _ h
      split
      · next lockOn =>
        have run : b.mode = .run := taken.resolve_right (by rw [lockOn]; decide)
        exact K.lockOnReport c _ _ run h
      split; · exact K.setDownReport c _ _ h
      split; · exact K.abandonReport c _ h
      split; · exact K.setManual c h
      split; · exact K.setAuto c h
      exact h
    | gateIn =>
      dsimp only
      split
      · exact K.same (arriveReport_deck ..) h
      · exact h
    | gateOut =>
      dsimp only
      split
      · exact K.departReport _ h
      · exact h
    | gang g =>
      dsimp only
      split; · exact K.request g _ h
      split; · exact K.done g _ h
      split; · exact K.offDeckReport g h
      exact h
    | unassigned | self => exact h

/-! ## Reports of orders -/

theorem ownerReport (r : Role) (body : OrderBody) (d : Bool) (h : P b) : P (ownerReport b r body d) := by
  unfold Machine.ownerReport
  split
  · split
    · exact h
    · unfold craneUndelivered
      split
      · split
        · exact K.withdraw _ _ h
        · exact h
      · exact h
  · split
    · exact K.delivered _ _ h
    · exact K.undelivered _ _ h
  · refine K.same (Berth.owePromotion_deck _) ?_
    split
    · exact h
    · unfold promoteUndelivered
      split
      · split
        · exact h
        · split
          · exact K.same (by rfl) h
          · exact K.same (by rfl) (K.withdraw _ .promoteFailed h)
          · exact h
      · exact h
  all_goals exact h

theorem declareOffline (s : Station) (h : P b) : P (declareOffline b s) := by
  have cut : P (cutOff b s (roleOf s)) := K.same (cutOff_deck ..) h
  show P (offlineEffects (cutOff b s (roleOf s)) (roleOf s))
  unfold offlineEffects
  split
  · exact K.craneOffline _ cut
  · exact K.offline _ cut
  all_goals exact cut

theorem reportOrder (s : Station) (report : Option (OrderBody × Bool)) (h : P b) : P (reportOrder b s report) := by
  unfold Machine.reportOrder
  dsimp only
  split
  · exact h
  · exact K.same (Berth.modStation_deck ..) (K.ownerReport _ _ _ h)
  · next body =>
    have counted := K.same (Berth.modStation_deck _ s StationRec.countFail) (K.ownerReport (roleOf s) body false h)
    split
    · exact K.declareOffline s counted
    · exact counted

theorem endAttempt (e : AttemptEnd) (h : P b) : P (endAttempt b e) := by
  unfold Machine.endAttempt
  dsimp only
  split
  · exact K.same (Berth.setWindow_deck ..) h
  · split
    case h_1 | h_2 | h_3 => exact K.reportOrder _ _ (K.same (by rfl) h)
    all_goals exact K.same (Berth.setWindow_deck ..) h

/-! ## Frames -/

theorem handFrame (s : Station) (kind : Byte) (body : List Byte) (h : P b) : P (handFrame b s kind body) := by
  have online : P (makeOnline b s) := K.same (makeOnline_deck b s) h
  have mode : (makeOnline b s).mode = b.mode := congrArg (·.1) (makeOnline_deck b s)
  have sent : ∀ x r, P x → P (sendReply (Machine.settleIf b x) s r) := fun x r h => K.same (by rfl) (K.settleIf h)
  unfold Machine.handFrame
  dsimp only
  split
  · exact h
  · refine sent _ _ ?_
    split
    · next taken => exact K.ownReport _ _ _ (Or.inr taken) online
    · exact online
  · next run => exact sent _ _ (K.ownReport _ _ _ (Or.inl (mode.trans run)) online)

theorem takeFrame (s : Station) (cls : BitVec 2) (kind : Byte) (body : List Byte) (h : P b) : P (takeFrame b s cls kind body) := by
  have refused : ∀ r, P (answer (b.raise linkError) s r) := fun r => K.same ((answer_deck ..).trans (Berth.raise_deck ..)) h
  unfold Machine.takeFrame
  split
  · exact K.same (Berth.raise_deck ..) h
  · split
    · exact refused _
    · split
      · exact refused _
      · exact K.handFrame s kind body h

theorem goodFrame (s : Station) (cls : BitVec 2) (kind : Byte) (body : List Byte) (h : P b) : P (goodFrame b s cls kind body) := by
  have heard : P ((setHeard b s).setSent none) := K.same (by rfl) h
  unfold Machine.goodFrame
  dsimp only
  split
  · split
    · exact K.settle (K.endAttempt _ heard)
    · exact K.settle (K.endAttempt _ (K.same (Berth.raise_deck ..) heard))
  · exact K.takeFrame s cls kind body heard

theorem badFrame (h : P b) : P (badFrame b) := by
  have noted : P ((b.setSent none).raise linkError) := K.same (by rfl) h
  unfold Machine.badFrame
  dsimp only
  split
  · exact K.settle (K.endAttempt _ noted)
  · exact noted

theorem windowClose (h : P b) : P (windowClose b) := by
  have silent : P (b.setSent none) := K.same (Berth.setSent_deck ..) h
  unfold Machine.windowClose
  dsimp only
  split
  · exact K.settle (K.endAttempt _ silent)
  · exact silent

theorem sendOrder (o : SendOutcome) (h : P b) : P (sendOrder o b) := by
  have silent : P (b.setSent none) := K.same (Berth.setSent_deck ..) h
  unfold Machine.sendOrder
  dsimp only
  split
  · split
    · exact silent
    · have launched : ∀ s, P (launch (b.setSent none) s) := fun s => K.same (launch_deck ..) silent
      split
      · exact silent
      · exact K.same (by rfl) (launched _)
      · exact K.settle (K.endAttempt _ (launched _))
  · exact silent

/-- What the changes of the deck keep, the changes of the berth keep. -/
theorem taken : KeptByTaken P where
  reset := K.reset
  timeout h := K.same (Berth.raise_deck ..) h
  write code body taken h := K.ownWrite code body taken h
  frame st cls kind body h := K.goodFrame st cls kind body h
  noFrame h := K.badFrame h
  close h := K.windowClose h
  send o h := K.sendOrder o h
  clock h := K.clockStep h
  expiry c h := K.expiryEvent c h
  late n h := K.lateEvent n h
  starved c h := K.same (starveCheck_deck _ c) h
  boundary h := K.boundaryEvent h

end KeptOnDeck

end Sys2Proof.Machine

/-! # The tests of a claim (R66 to R71; O45, O46) -/

namespace Sys2Proof.Machine

/-! ## The deck test (R66) -/

theorem withinMargin_false {b : Berth} {x y : Bay} :
    b.withinMargin x y = false ↔ ((x.toNat : Int) - y.toNat).natAbs > b.params.deckMargin := by
  unfold Berth.withinMargin
  rw [Bool.eq_false_iff, ne_eq, Bool.and_eq_true, decide_eq_true_eq, decide_eq_true_eq]
  omega

theorem withinMargin_comm (b : Berth) (x y : Bay) : b.withinMargin x y = b.withinMargin y x := Bool.and_comm ..

theorem deckFree_iff {b : Berth} {bay : Bay} : b.deckFree bay = true ↔
    (∀ g k, b.gangClaim g = some k → b.withinMargin k.bay bay = false)
    ∧ ∀ w ∈ b.bct.waiters, b.withinMargin w.2 bay = false := by
  simp [Berth.deckFree, mem_allGangs, Option.all_eq_true]

/-- R70, R71, R73: a gang claim may be added at a bay. -/
theorem gangMayClaim_iff {b : Berth} {bay : Bay} : b.gangMayClaim bay = true ↔
    (∀ c x, b.craneClaim c = some x → b.withinMargin x bay = false) ∧ ∀ g k, b.gangClaim g = some k → k.bay ≠ bay := by
  simp [Berth.gangMayClaim, mem_allCranes, mem_allGangs, Option.all_eq_true]

/-- R66: a deck request writes no crane claim. -/
theorem deckRequest_craneClaims (b : Berth) (g : Gang) (n : TaskNo) :
    (deckRequest b g n).1.bct.craneClaims = b.bct.craneClaims := by
  unfold deckRequest
  dsimp only
  split
  · rfl
  · repeat' split
    all_goals rfl

/-- Settles O45. -/
theorem deckTest : Obligations.DeckTest := by
  refine ⟨fun b bay => ?_, deckRequest_craneClaims⟩
  simp only [deckFree_iff, withinMargin_false]

/-! ## The clearance test (R67, R68, R69) -/

/-- What a search of an ordered list finds: the member that meets the test before every other that does. -/
theorem find?_sorted {α : Type} {r : α → α → Prop} {p : α → Bool} {l : List α} (sorted : l.Pairwise r)
    (asymm : ∀ x y, r x y → ¬ r y x) {d : α} :
    l.find? p = some d ↔ d ∈ l ∧ p d = true ∧ ∀ e ∈ l, r e d → p e = false := by
  induction l with
  | nil => simp
  | cons x xs ih =>
    obtain ⟨before, sorted⟩ := List.pairwise_cons.1 sorted
    have irrefl : ¬ r x x := fun h => asymm x x h h
    cases px : p x with
    | true =>
      rw [List.find?_cons_of_pos px, Option.some.injEq]
      constructor
      · rintro rfl
        refine ⟨List.mem_cons_self, px, fun e mem first => ?_⟩
        rcases List.mem_cons.1 mem with rfl | mem
        · exact absurd first irrefl
        · exact absurd first (asymm _ _ (before e mem))
      · rintro ⟨mem, -, first⟩
        rcases List.mem_cons.1 mem with rfl | mem
        · rfl
        · exact absurd px (by simp [first x List.mem_cons_self (before d mem)])
    | false =>
      rw [List.find?_cons_of_neg (by simp [px]), ih sorted]
      constructor
      · rintro ⟨mem, pd, first⟩
        refine ⟨List.mem_cons_of_mem _ mem, pd, fun e hm he => ?_⟩
        rcases List.mem_cons.1 hm with rfl | hm
        · exact px
        · exact first e hm he
      · rintro ⟨mem, pd, first⟩
        have other : d ≠ x := by rintro rfl; simp [px] at pd
        exact ⟨(List.mem_cons.1 mem).resolve_left other, pd, fun e hm => first e (List.mem_cons_of_mem _ hm)⟩

/-- R68: a crane with a known position and no claim. -/
def Berth.parked (b : Berth) (d : Crane) : Prop := (b.crane d).position ≠ 0 ∧ b.craneClaim d = none

/-- R68: the position test of one side, whose cranes stand nearest first. -/
theorem nearestPosition_all {b : Berth} {cs : List Crane} {r : Crane → Crane → Prop} {q : Bay → Bool} (sorted : cs.Pairwise r)
    (asymm : ∀ x y, r x y → ¬ r y x) : (b.nearestPosition cs).all q = true ↔
      ∀ d ∈ cs, b.parked d → (∀ e ∈ cs, r e d → ¬ b.parked e) → q (b.crane d).position = true := by
  have test : ∀ d, ((b.crane d).position != 0 && (b.craneClaim d).isNone) = true ↔ b.parked d := fun d => by
    simp [Berth.parked]
  simp only [Berth.nearestPosition, Option.all_eq_true, Option.map_eq_some_iff, find?_sorted sorted asymm,
    ← Bool.not_eq_true, test]
  exact ⟨fun all d mem parked first => all _ ⟨d, ⟨mem, parked, first⟩, rfl⟩,
    fun all _ ⟨d, ⟨mem, parked, first⟩, e⟩ => e ▸ all d mem parked first⟩

/-- R67, R69: the claims' part of the clearance test. -/
def Berth.clearOfClaims (b : Berth) (c : Crane) (bay : Bay) : Prop :=
  ∀ d x, b.craneClaim d = some x → (d < c → x.toNat + b.params.clear ≤ bay.toNat)
    ∧ (c < d → bay.toNat + b.params.clear ≤ x.toNat)

theorem clearOfClaims_iff {b : Berth} {c : Crane} {bay : Bay} : b.clearOfClaims c bay ↔
    (allCranes.all fun d => (b.craneClaim d).all fun x =>
      (!(d.val < c.val) || x.toNat + b.params.clear ≤ bay.toNat)
        && (!(c.val < d.val) || bay.toNat + b.params.clear ≤ x.toNat)) = true := by
  simp only [Berth.clearOfClaims, List.all_eq_true, mem_allCranes, forall_const, Option.all_eq_true, Bool.and_eq_true,
    Bool.or_eq_true, Bool.not_eq_true', decide_eq_false_iff_not, decide_eq_true_eq, Fin.lt_def, imp_iff_not_or]

/-- R68: the cranes of one side, nearest first. -/
theorem lowerSide_sorted (c : Crane) : (allCranes.reverse.filter fun d => d.val < c.val).Pairwise (· > ·) :=
  List.Pairwise.filter _ (by decide)

theorem upperSide_sorted (c : Crane) : (allCranes.filter fun d => c.val < d.val).Pairwise (· < ·) :=
  List.Pairwise.filter _ (by decide)

theorem clearanceFree_iff {b : Berth} {c : Crane} {bay : Bay} : b.clearanceFree c bay = true ↔
    b.craneClaim c = none ∧ b.clearOfClaims c bay
    ∧ (∀ d, d < c → b.parked d → (∀ e, d < e → e < c → ¬ b.parked e) →
        (b.crane d).position.toNat + b.params.clear ≤ bay.toNat)
    ∧ ∀ d, c < d → b.parked d → (∀ e, c < e → e < d → ¬ b.parked e) →
        bay.toNat + b.params.clear ≤ (b.crane d).position.toNat := by
  unfold Berth.clearanceFree
  rw [Bool.and_eq_true, Bool.and_eq_true, Bool.and_eq_true, ← clearOfClaims_iff,
    nearestPosition_all (lowerSide_sorted c) (fun _ _ => lt_asymm), nearestPosition_all (upperSide_sorted c) (fun _ _ => lt_asymm)]
  simp only [List.mem_filter, List.mem_reverse, mem_allCranes, true_and, decide_eq_true_eq, Option.isNone_iff_eq_none,
    ← Fin.lt_def, gt_iff_lt, and_assoc]
  refine and_congr_right fun _ => and_congr_right fun _ => and_congr ?_ ?_
  · exact forall₃_congr fun d _ _ => imp_congr_left (forall_congr' fun e => imp.swap)
  · exact Iff.rfl

/-- Settles O46. -/
theorem clearanceTest : Obligations.ClearanceTest := by
  intro b c bay
  have parked : ∀ e, ¬ b.parked e ↔ (b.crane e).position = 0 ∨ (b.craneClaim e).isSome := fun e => by
    rw [Berth.parked, not_and_or, not_not, ← ne_eq, Option.ne_none_iff_isSome]
  rw [clearanceFree_iff]
  simp only [parked]
  simp only [Berth.parked, and_imp]
  exact Iff.rfl

end Sys2Proof.Machine

/-! # Claims stay apart (R65, R69, R70; O56) -/

namespace Sys2Proof.Machine

/-- The records that the spacing of claims speaks of. -/
def Berth.claimRecords (b : Berth) : Mode × Params × Vector (Option Bay) 8 × Vector (Option GangClaim) 4 × Vector WorkState 8 :=
  (b.mode, b.params, b.bct.craneClaims, b.bct.gangClaims, b.cranes.map (·.work))

theorem claimRecords_of_deck {b b' : Berth} (h : b'.deck = b.deck) : b'.claimRecords = b.claimRecords := by
  simp only [Berth.deck, Prod.mk.injEq] at h
  obtain ⟨mode, params, bct, -, -, works⟩ := h
  simp only [Berth.claimRecords, mode, params, bct, works]

/-- `ClaimsKept` of a berth, clause by clause. -/
structure ClaimsApart (b : Berth) : Prop where
  cranes : ∀ i j : Crane, i < j → ∀ x y, b.craneClaim i = some x → b.craneClaim j = some y →
    x.toNat + b.params.clear ≤ y.toNat
  gangs : ∀ g h : Gang, g ≠ h → ∀ x y, b.gangClaim g = some x → b.gangClaim h = some y → x.bay ≠ y.bay
  margin : ∀ (c : Crane) (g : Gang), ∀ x y, b.craneClaim c = some x → b.gangClaim g = some y →
    b.withinMargin x y.bay = false
  held : ∀ c : Crane, (b.craneClaim c).isSome → (b.crane c).work.lifted = true
  run : b.mode ≠ .run → ∀ c : Crane, b.craneClaim c = none

theorem claimsKept_iff (s : State) : ClaimsKept s ↔ ClaimsApart s.berth :=
  ⟨fun ⟨cranes, gangs, margin, held, run⟩ => ⟨cranes, gangs, margin, held, run⟩,
    fun ⟨cranes, gangs, margin, held, run⟩ => ⟨cranes, gangs, margin, held, run⟩⟩

theorem crane_work (b : Berth) (c : Crane) : (b.crane c).work = (b.cranes.map (·.work))[c] := by
  simp [Berth.crane]

namespace ClaimsApart

variable {b b' : Berth}

/-- The spacing is read off the claim records. -/
theorem congr (h : ClaimsApart b) (e : b'.claimRecords = b.claimRecords) : ClaimsApart b' := by
  simp only [Berth.claimRecords, Prod.mk.injEq] at e
  obtain ⟨mode, params, craneClaims, gangClaims, works⟩ := e
  have crane : ∀ c, b'.craneClaim c = b.craneClaim c := fun c => by rw [Berth.craneClaim, craneClaims]; rfl
  have gang : ∀ g, b'.gangClaim g = b.gangClaim g := fun g => by rw [Berth.gangClaim, gangClaims]; rfl
  have work : ∀ c, (b'.crane c).work = (b.crane c).work := fun c => by rw [crane_work, crane_work, works]
  have within : ∀ x y, b'.withinMargin x y = b.withinMargin x y := fun x y => by simp only [Berth.withinMargin, params]
  obtain ⟨cranes, gangs, margin, held, run⟩ := h
  exact ⟨by simpa only [crane, params] using cranes, by simpa only [gang] using gangs,
    by simpa only [crane, gang, within] using margin, by simpa only [crane, work] using held,
    by simpa only [crane, mode] using run⟩

/-- Without crane claims, the gang claims alone have to lie apart. -/
theorem of_unclaimed (unclaimed : ∀ c, b.craneClaim c = none)
    (gangs : ∀ g h : Gang, g ≠ h → ∀ x y, b.gangClaim g = some x → b.gangClaim h = some y → x.bay ≠ y.bay) : ClaimsApart b where
  cranes i _ _ x _ claim := by rw [unclaimed i] at claim; cases claim
  gangs := gangs
  margin c _ x _ claim := by rw [unclaimed c] at claim; cases claim
  held c claim := by rw [unclaimed c] at claim; cases claim
  run _ := unclaimed

theorem of_empty (cranes : ∀ c, b.craneClaim c = none) (gangs : ∀ g, b.gangClaim g = none) : ClaimsApart b :=
  of_unclaimed cranes fun g _ _ x _ claim => by rw [gangs g] at claim; cases claim

/-! ## Gang claims -/

/-- R70: a gang claim at a bay that no other gang's claim names and no crane's lies near. -/
theorem setGangClaim (h : ClaimsApart b) (g : Gang) {x : Option GangClaim}
    (cranes : ∀ k, x = some k → ∀ c y, b.craneClaim c = some y → b.withinMargin y k.bay = false)
    (gangs : ∀ k, x = some k → ∀ f, f ≠ g → ∀ y, b.gangClaim f = some y → y.bay ≠ k.bay) : ClaimsApart (b.setGangClaim g x) := by
  have own := Berth.gangClaim_setGangClaim b g x
  have other := fun f => Berth.gangClaim_setGangClaim_other b g f x
  refine ⟨h.cranes, fun f f' ne y y' claim claim' => ?_, fun c f y y' claim claim' => ?_, h.held, h.run⟩
  · by_cases here : f = g
    · subst here
      rw [other f' ne.symm] at claim'
      exact (gangs y (own.symm.trans claim) f' ne.symm y' claim').symm
    · rw [other f here] at claim
      by_cases there : f' = g
      · subst there
        exact gangs y' (own.symm.trans claim') f here y claim
      · rw [other f' there] at claim'
        exact h.gangs f f' ne y y' claim claim'
  · by_cases here : f = g
    · subst here
      exact cranes y' (own.symm.trans claim') c y claim
    · rw [other f here] at claim'
      exact h.margin c f y y' claim claim'

theorem releasedGang (h : ClaimsApart b) (g : Gang) : ClaimsApart (b.setGangClaim g none) :=
  h.setGangClaim g (fun _ e => by cases e) fun _ e => by cases e

/-- R71, R73: a gang claim where one may be added. -/
theorem gangClaims (h : ClaimsApart b) (g : Gang) {k : GangClaim} (may : b.gangMayClaim k.bay = true) :
    ClaimsApart (b.setGangClaim g (some k)) := by
  obtain ⟨cranes, gangs⟩ := gangMayClaim_iff.1 may
  refine h.setGangClaim g (fun k' e => ?_) fun k' e => ?_
  · cases e; exact cranes
  · cases e; exact fun f _ => gangs f

theorem examineWaiter (h : ClaimsApart b) (w : Gang × Bay) : ClaimsApart (examineWaiter b w) := by
  unfold Machine.examineWaiter
  split
  · next may =>
    have claimed : ClaimsApart ((b.removeWaiter w.1).setGangClaim w.1 (some { bay := w.2, standing := .clearing })) :=
      gangClaims (b := b.removeWaiter w.1) (h.congr rfl) w.1 may
    dsimp only
    split
    · exact claimed.congr rfl
    · exact claimed
  · exact h

theorem examineWaiters (h : ClaimsApart b) : ClaimsApart (examineWaiters b) :=
  foldl_kept (fun _ w kept => kept.examineWaiter w) _ h

theorem releaseGangClaim (h : ClaimsApart b) (g : Gang) : ClaimsApart (releaseGangClaim b g) := (h.releasedGang g).examineWaiters

theorem leaveDeckRequest (h : ClaimsApart b) (g : Gang) : ClaimsApart (leaveDeckRequest b g) := by
  have removed : ClaimsApart (b.removeWaiter g) := h.congr rfl
  rcases leaveDeckRequest_cases b g with ⟨_, _, e⟩ | ⟨_, e⟩ <;> rw [e]
  · exact removed.releaseGangClaim g
  · exact removed

/-! ## Crane claims -/

/-- R65, R67, R69: a claim that passes the deck test and the clearance test, of a crane that is GRANTED or LIFTING with it. -/
theorem grant (h : ClaimsApart b) {c : Crane} {bay : Bay} {f : CraneRec → CraneRec} (run : b.mode = .run)
    (deck : b.deckFree bay = true) (clearance : b.clearanceFree c bay = true) (lifted : (f (b.crane c)).work.lifted = true) :
    ClaimsApart ((b.modCrane c f).setCraneClaim c (some bay)) := by
  obtain ⟨gangs, -⟩ := deckFree_iff.1 deck
  obtain ⟨-, clear, -⟩ := clearanceFree_iff.1 clearance
  have own : ((b.modCrane c f).setCraneClaim c (some bay)).craneClaim c = some bay := Berth.craneClaim_setCraneClaim ..
  have other : ∀ d, d ≠ c → ((b.modCrane c f).setCraneClaim c (some bay)).craneClaim d = b.craneClaim d := fun d =>
    Berth.craneClaim_setCraneClaim_other (b.modCrane c f) c d (some bay)
  refine ⟨fun i j before x y claim claim' => ?_, h.gangs, fun d g x y claim claim' => ?_, fun d claim => ?_,
    fun no => absurd run no⟩
  · by_cases first : i = c
    · subst first
      rw [own, Option.some.injEq] at claim
      rw [other j before.ne'] at claim'
      exact claim ▸ (clear j y claim').2 before
    · rw [other i first] at claim
      by_cases second : j = c
      · subst second
        rw [own, Option.some.injEq] at claim'
        exact claim' ▸ (clear i x claim).1 before
      · rw [other j second] at claim'
        exact h.cranes i j before x y claim claim'
  · by_cases here : d = c
    · subst here
      rw [own, Option.some.injEq] at claim
      exact claim ▸ (withinMargin_comm ..).trans (gangs g y claim')
    · rw [other d here] at claim
      exact h.margin d g x y claim claim'
  · by_cases here : d = c
    · subst here
      exact (congrArg (WorkState.lifted ·.work) (Berth.crane_modCrane b d f)).trans lifted
    · rw [other d here] at claim
      exact (congrArg (WorkState.lifted ·.work) (Berth.crane_modCrane_other b c d f here)).trans (h.held d claim)

/-- A crane that holds a claim keeps it while it stays GRANTED or LIFTING. -/
theorem modCrane (h : ClaimsApart b) {c : Crane} {f : CraneRec → CraneRec}
    (idle : (f (b.crane c)).work.lifted = false → b.craneClaim c = none) : ClaimsApart (b.modCrane c f) := by
  refine ⟨h.cranes, h.gangs, h.margin, fun d claim => ?_, h.run⟩
  by_cases here : d = c
  · subst here
    rw [Berth.crane_modCrane]
    by_contra off
    have unclaimed : (b.modCrane d f).craneClaim d = none := idle (by simpa using off)
    rw [unclaimed] at claim
    cases claim
  · rw [Berth.crane_modCrane_other _ _ _ _ here]
    exact h.held d claim

/-- A claim taken away leaves the others apart. -/
theorem released (h : ClaimsApart b) (c : Crane) : ClaimsApart (b.setCraneClaim c none) := by
  have kept : ∀ d x, (b.setCraneClaim c none).craneClaim d = some x → b.craneClaim d = some x := fun d x claim => by
    by_cases here : d = c
    · subst here
      rw [Berth.craneClaim_setCraneClaim] at claim
      cases claim
    · rwa [Berth.craneClaim_setCraneClaim_other _ _ _ _ here] at claim
  refine ⟨fun i j before x y claim claim' => h.cranes i j before x y (kept i x claim) (kept j y claim'), h.gangs,
    fun d g x y claim => h.margin d g x y (kept d x claim), fun d claim => ?_, fun off d => ?_⟩
  · obtain ⟨x, claim⟩ := Option.isSome_iff_exists.1 claim
    exact h.held d (Option.isSome_iff_exists.2 ⟨x, kept d x claim⟩)
  · cases claim : (b.setCraneClaim c none).craneClaim d with
    | none => rfl
    | some x => exact absurd (kept d x claim) (by simp [h.run off d])

/-- R46, R49: the end of a grant or lift. -/
theorem endsClaim (h : ClaimsApart b) (c : Crane) (f : CraneRec → CraneRec) : ClaimsApart (releaseCraneClaim (b.modCrane c f) c) :=
  ((h.released c).modCrane (f := f) fun _ => Berth.craneClaim_setCraneClaim ..).examineWaiters

/-! ## Gangs -/

/-- What a gang's records and tasks are, the spacing does not read. -/
theorem openTasks (h : ClaimsApart b) (g : Gang) (l : List TaskNo) : ClaimsApart (openUnlisted b g l) :=
  h.congr (foldl_keeps Berth.claimRecords _ (fun _ _ => by rfl) l b)

theorem giveUpTasks (h : ClaimsApart b) (g : Gang) : ClaimsApart (b.giveUpTasks g) :=
  h.congr (foldl_keeps Berth.claimRecords _ (fun _ _ => by rfl) (b.gang g).tasks b)

theorem dropUnlinked (h : ClaimsApart b) (t : Task) : ClaimsApart (dropUnlinked b t) := by
  unfold Machine.dropUnlinked
  split
  · exact h.congr rfl
  · split <;> exact h.congr rfl
  · split
    · next g _ =>
      have left : ClaimsApart ((b.unlist g t.number).dropTask t.number) := h.congr rfl
      exact (left.leaveDeckRequest g).congr rfl
    · exact h.congr rfl
  · exact h

theorem dutyOff (h : ClaimsApart b) (g : Gang) : ClaimsApart (dutyOff b g) := by
  unfold Machine.dutyOff
  dsimp only
  split
  · split
    · exact (h.giveUpTasks g).congr rfl
    · exact h.congr rfl
    all_goals
      have left : ClaimsApart (((Machine.leaveDeckRequest b g).giveUpTasks g).modGang g
          fun r => { r with onDuty := false, activity := .idle }) := ((h.leaveDeckRequest g).giveUpTasks g).congr rfl
      split
      · exact left.congr rfl
      · exact left
  · exact h

theorem deckRequest (h : ClaimsApart b) (g : Gang) (n : TaskNo) : ClaimsApart (deckRequest b g n).1 := by
  unfold Machine.deckRequest
  dsimp only
  split
  · exact h
  · next t _ =>
    split; swap; · exact h
    split; · exact h
    split; · exact h
    split; · exact h
    split
    · next may =>
      have claimed : ClaimsApart (b.setGangClaim g (some { bay := t.bay, standing := .confirmed })) := h.gangClaims g may
      exact claimed.congr rfl
    · exact h.congr rfl

theorem taskDone (h : ClaimsApart b) (g : Gang) (n : TaskNo) : ClaimsApart (taskDoneReport b g n).1 := by
  unfold taskDoneReport
  dsimp only
  repeat' split
  all_goals first | exact h | exact h.congr rfl

theorem comeOffDeck (h : ClaimsApart b) (g : Gang) (k : Bool) : ClaimsApart (comeOffDeck b g k) := by
  have off : ClaimsApart (dropIfOwedToNobody (Machine.releaseGangClaim b g) g) := by
    have released := h.releaseGangClaim g
    unfold dropIfOwedToNobody
    split
    · split
      · exact released.congr rfl
      · exact released
    · exact released
  unfold Machine.comeOffDeck
  dsimp only
  split
  · exact (off.giveUpTasks g).congr rfl
  · split
    · exact (off.giveUpTasks g).congr rfl
    · split
      · split <;> exact off.congr rfl
      · exact off.congr rfl

/-- R132: a CLEARING claim that is CONFIRMED stays at its bay. -/
theorem confirmed (h : ClaimsApart b) (g : Gang) :
    ClaimsApart (b.setGangClaim g ((b.gangClaim g).map fun k => { k with standing := .confirmed })) := by
  refine h.setGangClaim g (fun k e => ?_) fun k e => ?_
  all_goals obtain ⟨k', claim, rfl⟩ := Option.map_eq_some_iff.1 e
  · exact fun c y claim' => h.margin c g y k' claim' claim
  · exact fun f other y claim' => h.gangs f g other y k' claim' claim

theorem gangDelivered (h : ClaimsApart b) (g : Gang) (body : OrderBody) : ClaimsApart (gangDelivered b g body) := by
  unfold Machine.gangDelivered
  split
  · split
    · exact (h.confirmed g).congr rfl
    · exact h
  · exact h

theorem gangUndelivered (h : ClaimsApart b) (g : Gang) (body : OrderBody) : ClaimsApart (gangUndelivered b g body) := by
  unfold Machine.gangUndelivered
  split
  · split
    · exact (h.releaseGangClaim g).congr rfl
    · exact h
  · split
    · split
      · exact h.congr rfl
      · exact h
    · exact h
  · exact h

theorem gangOffline (h : ClaimsApart b) (g : Gang) : ClaimsApart (gangOffline b g) := by
  have left := h.leaveDeckRequest g
  unfold Machine.gangOffline
  dsimp only
  split
  · exact left.openTasks g _
  · exact (left.giveUpTasks g).congr rfl

/-- R78, R141: CONFIG is entered with the CLEARING claims released. -/
theorem enterConfig (h : ClaimsApart b) : ClaimsApart (allGangs.foldl gangEnterConfig (claimsEnterConfig b)) := by
  have entered : ∀ (b : Berth) g, ClaimsApart b → ClaimsApart (gangEnterConfig b g) := fun b g h => by
    unfold gangEnterConfig
    split
    case h_1 | h_2 => dsimp only; split <;> [(split <;> exact h.congr rfl); exact h.congr rfl]
    all_goals exact h
  refine foldl_kept entered _ (foldl_kept (fun b g kept => ?_) _ (h.congr rfl))
  split
  · exact kept.releasedGang g
  · exact kept

end ClaimsApart

/-- R65, R69, R70: no change of the deck brings two claims too near, or leaves one without its crane. -/
theorem claimsApart_deck : KeptOnDeck ClaimsApart where
  same e h := h.congr (claimRecords_of_deck e)
  reset k := .of_empty (fun c => Vector.getElem_replicate ..) fun g => Vector.getElem_replicate ..
  enter {b} m move h := by
    refine ⟨h.cranes, h.gangs, h.margin, h.held, fun off c => ?_⟩
    rcases move with rfl | away | idle
    · exact absurd rfl off
    · exact h.run away c
    · by_contra claim
      exact Bool.noConfusion ((idle c).symm.trans (h.held c (Option.isSome_iff_ne_none.2 claim)))
  configured p config h := .of_unclaimed (h.run (by rw [config]; decide)) h.gangs
  cleared _ := .of_empty (fun c => Vector.getElem_replicate ..) fun g => Vector.getElem_replicate ..
  work {b} c f kept h := h.modCrane fun idle => by
    by_contra claim
    exact Bool.noConfusion ((kept idle).symm.trans (h.held c (Option.isSome_iff_ne_none.2 claim)))
  released c f h := h.endsClaim c f
  granted run deck clearance lifted h := h.grant run deck clearance lifted
  relinked _ h := h.congr rfl
  created _ _ _ _ _ h := h.congr rfl
  dropped _ h := h.dropUnlinked _
  assigned h := h.congr (foldl_keeps Berth.claimRecords _ (fun b t => by unfold assignTask; split <;> rfl) ..)
  dispatched g h := h.congr (by unfold dispatchGang; dsimp only; split <;> [(split <;> rfl); rfl])
  rostered _ _ h := h.congr rfl
  dutyOn _ h := h.congr rfl
  dutyOff g h := h.dutyOff g
  served g x h := (h.openTasks g _).congr rfl
  request g n h := h.deckRequest g n
  done g n h := h.taskDone g n
  offDeck k _ h := h.comeOffDeck _ k
  delivered g body h := h.gangDelivered g body
  undelivered g body h := h.gangUndelivered g body
  offline g h := h.gangOffline g
  enterConfig h := h.enterConfig

/-- Settles O56: each change of the deck keeps the claims apart, and so every step does. -/
theorem claimsStayApart : Obligations.ClaimsStayApart := by
  intro s t h e
  rw [claimsKept_iff] at h ⊢
  exact claimsApart_deck.taken.step h e

end Sys2Proof.Machine

/-! # Gangs, their lists and their tasks (R121, R136 to R139; O22) -/

namespace Sys2Proof.Machine

/-! ## Changes of a gang's record -/

theorem modGang_congr {b : Berth} {g : Gang} {f f' : GangRec → GangRec} (same : f (b.gang g) = f' (b.gang g)) :
    b.modGang g f = b.modGang g f' := by
  have record : modAt b.ltu.gangs g f = modAt b.ltu.gangs g f' := congrArg (b.ltu.gangs.set g.val · g.isLt) same
  unfold Berth.modGang
  rw [record]

theorem modGang_id {b : Berth} {g : Gang} {f : GangRec → GangRec} (same : f (b.gang g) = b.gang g) : b.modGang g f = b := by
  have record : modAt b.ltu.gangs g f = b.ltu.gangs := by
    show b.ltu.gangs.set g.val (f (b.gang g)) g.isLt = b.ltu.gangs
    rw [same]
    exact Vector.set_getElem_self ..
  unfold Berth.modGang
  rw [record]

/-- Two changes of one record are one change. -/
theorem modGang_modGang (b : Berth) (g : Gang) (f f' : GangRec → GangRec) :
    (b.modGang g f).modGang g f' = b.modGang g fun r => f' (f r) := by
  simp [Berth.modGang, modAt]

theorem firstTask_head {b : Berth} {g : Gang} {t : Task} (first : b.firstTask g = some t) :
    (b.gang g).tasks.head? = some t.number ∧ b.task? t.number = some t := by
  obtain ⟨n, head, found⟩ := Option.bind_eq_some_iff.1 first
  obtain rfl := Berth.task?_number found
  exact ⟨head, found⟩

theorem firstTask_mem {b : Berth} {g : Gang} {t : Task} (first : b.firstTask g = some t) : t.number ∈ (b.gang g).tasks :=
  List.mem_of_head? (firstTask_head first).1

/-- A gang's first task is read off its list and the pool. -/
theorem firstTask_congr {b b' : Berth} {g : Gang} (list : (b'.gang g).tasks = (b.gang g).tasks)
    (task : ∀ n ∈ (b.gang g).tasks, b'.task? n = b.task? n) : b'.firstTask g = b.firstTask g := by
  unfold Berth.firstTask
  rw [list]
  cases head : (b.gang g).tasks.head? with
  | none => rfl
  | some n => exact task n (List.mem_of_head? head)

/-! ## Tasks that become OPEN -/

/-- The task as it goes back to the open tasks. -/
def Task.reopened (t : Task) : Task := { t with state := .opened }

theorem openAll_modGang (b : Berth) (g : Gang) (f : GangRec → GangRec) (l : List TaskNo) :
    openAll (b.modGang g f) l = (openAll b l).modGang g f := by
  induction l generalizing b with
  | nil => rfl
  | cons n ns ih => exact ih (b.setTaskState n .opened)

/-- Tasks opened out of a list are opened, and the list closes up. -/
theorem openUnlisted_eq (b : Berth) (g : Gang) (l : List TaskNo) : openUnlisted b g l =
    (openAll b l).modGang g fun r => { r with tasks := r.tasks.filter fun n => !l.contains n } := by
  induction l generalizing b with
  | nil => exact (modGang_id (by simp)).symm
  | cons m ms ih =>
    have step : openUnlisted b g (m :: ms) = openUnlisted ((b.setTaskState m .opened).unlist g m) g ms := rfl
    rw [step, ih, Berth.unlist, openAll_modGang, modGang_modGang]
    refine modGang_congr ?_
    simp only [List.filter_filter, List.contains_cons, Bool.not_or, Bool.and_comm, bne]

theorem openAll_task? (b : Berth) (l : List TaskNo) (n : TaskNo) :
    (openAll b l).task? n = if n ∈ l then (b.task? n).map Task.reopened else b.task? n := by
  split
  · next mem => exact openAll_task mem b
  · next absent => exact openAll_other absent b

theorem openAll_gang (b : Berth) (l : List TaskNo) (g : Gang) : (openAll b l).gang g = b.gang g :=
  openAll_keeps (fun b => b.gang g) (fun _ _ => rfl) b l

theorem giveUpTasks_task? (b : Berth) (g : Gang) (n : TaskNo) : (b.giveUpTasks g).task? n =
    if n ∈ (b.gang g).tasks then (b.task? n).map Task.reopened else b.task? n :=
  openAll_task? b (b.gang g).tasks n

/-! ## Coming off deck (R121, R134, R139) -/

theorem dropIfOwedToNobody_owed {b : Berth} {g : Gang} {t : Task} (owed : OwedToNobody b g t) :
    dropIfOwedToNobody b g = (b.unlist g t.number).dropTask t.number := by
  obtain ⟨first, rest⟩ := owed
  unfold dropIfOwedToNobody
  rw [first]
  exact if_pos rest

theorem dropIfOwedToNobody_none {b : Berth} {g : Gang} (none_ : ∀ t, ¬ OwedToNobody b g t) : dropIfOwedToNobody b g = b := by
  unfold dropIfOwedToNobody
  split
  · next t first => exact if_neg fun rest => none_ t ⟨first, rest⟩
  · rfl

/-- A gang that has left the deck, before what becomes of the rest of its list. -/
def offDeck (b : Berth) (g : Gang) : Berth := dropIfOwedToNobody (releaseGangClaim b g) g

theorem releaseGangClaim_gang (b : Berth) (g h : Gang) : (releaseGangClaim b g).gang h = b.gang h := by
  simp only [Berth.gang, releaseGangClaim_ltu]

theorem releaseGangClaim_task? (b : Berth) (g : Gang) (n : TaskNo) : (releaseGangClaim b g).task? n = b.task? n :=
  task?_congr (congrArg (·.tasks) (releaseGangClaim_ltu b g)) n

theorem releaseGangClaim_firstTask (b : Berth) (g h : Gang) : (releaseGangClaim b g).firstTask h = b.firstTask h :=
  firstTask_congr (congrArg (·.tasks) (releaseGangClaim_gang b g h)) fun n _ => releaseGangClaim_task? b g n

theorem offDeck_owed {b : Berth} {g : Gang} {t : Task} (owed : OwedToNobody b g t) :
    offDeck b g = ((releaseGangClaim b g).unlist g t.number).dropTask t.number :=
  dropIfOwedToNobody_owed (by unfold OwedToNobody; rwa [releaseGangClaim_firstTask])

theorem offDeck_none {b : Berth} {g : Gang} (none_ : ∀ t, ¬ OwedToNobody b g t) : offDeck b g = releaseGangClaim b g :=
  dropIfOwedToNobody_none fun t => by unfold OwedToNobody; rw [releaseGangClaim_firstTask]; exact none_ t

theorem offDeck_gang (b : Berth) (g : Gang) : ∃ l, (offDeck b g).gang g = { b.gang g with tasks := l } := by
  by_cases owed : ∃ t, OwedToNobody b g t
  · obtain ⟨t, owed⟩ := owed
    rw [offDeck_owed owed, Berth.gang_dropTask, Berth.unlist, Berth.gang_modGang, releaseGangClaim_gang]
    exact ⟨_, rfl⟩
  · rw [offDeck_none (not_exists.1 owed), releaseGangClaim_gang]
    exact ⟨_, rfl⟩

theorem offDeck_mem {b : Berth} {g : Gang} {n : TaskNo} : n ∈ ((offDeck b g).gang g).tasks ↔
    n ∈ (b.gang g).tasks ∧ ∀ t, OwedToNobody b g t → n ≠ t.number := by
  by_cases owed : ∃ t, OwedToNobody b g t
  · obtain ⟨t, owed⟩ := owed
    have only : ∀ u, OwedToNobody b g u → u = t := fun u h => Option.some.inj (h.1.symm.trans owed.1)
    rw [offDeck_owed owed, Berth.gang_dropTask, Berth.unlist, Berth.gang_modGang, releaseGangClaim_gang]
    simp only [List.mem_filter, bne_iff_ne, ne_eq]
    exact and_congr_right fun _ => ⟨fun ne u h => only u h ▸ ne, fun all => all t owed⟩
  · rw [offDeck_none (not_exists.1 owed), releaseGangClaim_gang]
    exact ⟨fun mem => ⟨mem, fun t h => absurd ⟨t, h⟩ owed⟩, And.left⟩

theorem offDeck_task? {b : Berth} {g : Gang} {n : TaskNo} (kept : ∀ t, OwedToNobody b g t → n ≠ t.number) :
    (offDeck b g).task? n = b.task? n := by
  by_cases owed : ∃ t, OwedToNobody b g t
  · obtain ⟨t, owed⟩ := owed
    rw [offDeck_owed owed, Berth.task?_dropTask_other _ (kept t owed)]
    exact releaseGangClaim_task? b g n
  · rw [offDeck_none (not_exists.1 owed), releaseGangClaim_task?]

theorem offDeck_dropped {b : Berth} {g : Gang} {t : Task} (owed : OwedToNobody b g t) : (offDeck b g).task? t.number = none := by
  rw [offDeck_owed owed, Berth.task?_dropTask_same]

/-- A reading of neither the tasks nor the gang's record. -/
theorem offDeck_keeps {α : Type} (f : Berth → α) {g : Gang} (gang : ∀ (b : Berth) r, f (b.modGang g r) = f b)
    (drop : ∀ (b : Berth) n, f (b.dropTask n) = f b) (b : Berth) : f (offDeck b g) = f (releaseGangClaim b g) := by
  by_cases owed : ∃ t, OwedToNobody b g t
  · obtain ⟨t, owed⟩ := owed
    rw [offDeck_owed owed, drop, Berth.unlist, gang]
  · rw [offDeck_none (not_exists.1 owed)]

/-- R134: the first task of a gang that stays on duty is QUEUED again. -/
def requeueFirst (b : Berth) (g : Gang) : Berth :=
  match b.firstTask g with
  | some t => if t.state = .active then b.setTaskState t.number .queued else b
  | none => b

/-- R139, R134: once the claim is off the deck and the task owed to nobody is dropped, the list is given up or kept. -/
theorem comeOffDeck_eq (b : Berth) (g : Gang) (k : Bool) : comeOffDeck b g k =
    if ((offDeck b g).gang g).reliefDue then
      ((offDeck b g).giveUpTasks g).modGang g fun r => { r with onDuty := false, activity := .idle, reliefDue := false }
    else (if k then (offDeck b g).giveUpTasks g else requeueFirst (offDeck b g) g).modGang g fun r =>
      { r with activity := .idle } := rfl

theorem comeOffDeck_stays {b : Berth} {g : Gang} (stays : (b.gang g).reliefDue = false) :
    comeOffDeck b g false = (requeueFirst (offDeck b g) g).modGang g fun r => { r with activity := .idle } := by
  obtain ⟨l, record⟩ := offDeck_gang b g
  have relief : ((offDeck b g).gang g).reliefDue = false := by rw [record]; exact stays
  rw [comeOffDeck_eq, relief]
  rfl

/-- A gang that gives its whole list up is OFF_DUTY where it was relief-due. -/
def leaveDeck (b : Berth) (g : Gang) : Berth :=
  (b.giveUpTasks g).modGang g fun r =>
    { r with onDuty := if r.reliefDue then false else r.onDuty, activity := .idle, reliefDue := false }

theorem GangRec.idle_unrelieved {r : GangRec} (stays : r.reliefDue = false) : { r with activity := .idle } =
    { r with onDuty := if r.reliefDue then false else r.onDuty, activity := .idle, reliefDue := false } := by
  cases r
  simp_all

theorem comeOffDeck_leaves {b : Berth} {g : Gang} {k : Bool} (leaves : (b.gang g).reliefDue = true ∨ k = true) :
    comeOffDeck b g k = leaveDeck (offDeck b g) g := by
  obtain ⟨l, record⟩ := offDeck_gang b g
  have relief : ((offDeck b g).gang g).reliefDue = (b.gang g).reliefDue := by rw [record]
  have given : (((offDeck b g).giveUpTasks g).gang g).reliefDue = (b.gang g).reliefDue := by
    rw [(giveUpTasks_records _ g).1, ← relief]
  rw [comeOffDeck_eq, relief]
  cases due : (b.gang g).reliefDue with
  | true => exact modGang_congr (by rw [given.trans due]; rfl)
  | false =>
    obtain rfl : k = true := by simpa [due] using leaves
    exact modGang_congr (GangRec.idle_unrelieved (given.trans due))

theorem leaveDeck_gang (b : Berth) (g : Gang) : (leaveDeck b g).gang g =
    { b.gang g with onDuty := if (b.gang g).reliefDue then false else (b.gang g).onDuty, activity := .idle, reliefDue := false,
                    tasks := [] } := by
  rw [leaveDeck, Berth.gang_modGang, (giveUpTasks_records b g).1]

theorem leaveDeck_task? (b : Berth) (g : Gang) (n : TaskNo) : (leaveDeck b g).task? n =
    if n ∈ (b.gang g).tasks then (b.task? n).map Task.reopened else b.task? n := giveUpTasks_task? b g n

/-- A reading of neither the tasks nor the gang's record. -/
theorem leaveDeck_keeps {α : Type} (f : Berth → α) {g : Gang} (gang : ∀ (b : Berth) r, f (b.modGang g r) = f b)
    (task : ∀ (b : Berth) n s, f (b.setTaskState n s) = f b) (b : Berth) : f (leaveDeck b g) = f b := by
  rw [leaveDeck, gang, giveUpTasks_eq, gang, openAll_keeps f fun b n => task b n _]

theorem requeueFirst_keeps {α : Type} (f : Berth → α) (task : ∀ (b : Berth) n s, f (b.setTaskState n s) = f b) (b : Berth)
    (g : Gang) : f (requeueFirst b g) = f b := by
  unfold requeueFirst
  split
  · split
    · exact task ..
    · rfl
  · rfl

/-- R134, R139: what coming off deck leaves but for the tasks and the gang's record. -/
theorem comeOffDeck_keeps {α : Type} (f : Berth → α) {g : Gang} (gang : ∀ (b : Berth) r, f (b.modGang g r) = f b)
    (task : ∀ (b : Berth) n s, f (b.setTaskState n s) = f b) (drop : ∀ (b : Berth) n, f (b.dropTask n) = f b) (b : Berth)
    (k : Bool) : f (comeOffDeck b g k) = f (releaseGangClaim b g) := by
  rw [← offDeck_keeps f gang drop]
  by_cases leaves : (b.gang g).reliefDue = true ∨ k = true
  · rw [comeOffDeck_leaves leaves, leaveDeck_keeps f gang task]
  · obtain ⟨stays, goes⟩ := not_or.1 leaves
    obtain rfl : k = false := by simpa using goes
    rw [comeOffDeck_stays (by simpa using stays), gang, requeueFirst_keeps f task]

theorem comeOffDeck_rest (b : Berth) (g : Gang) (k : Bool) : let b' := comeOffDeck b g k
    b'.bct = (releaseGangClaim b g).bct ∧ b'.qlc = (releaseGangClaim b g).qlc ∧ b'.tickets = b.tickets
    ∧ ∀ h, h ≠ g → b'.gang h = b.gang h :=
  ⟨comeOffDeck_keeps (fun b => b.bct) (fun _ _ => rfl) (fun _ _ _ => rfl) (fun _ _ => rfl) b k,
    comeOffDeck_keeps (fun b => b.qlc) (fun _ _ => rfl) (fun _ _ _ => rfl) (fun _ _ => rfl) b k,
    (comeOffDeck_keeps (fun b => b.tickets) (fun _ _ => rfl) (fun _ _ _ => rfl) (fun _ _ => rfl) b k).trans
      (releaseGangClaim_tickets b g),
    fun h other => (comeOffDeck_keeps (fun b => b.gang h) (fun _ _ => Berth.gang_modGang_other _ _ _ _ other)
      (fun _ _ _ => rfl) (fun _ _ => rfl) b k).trans (releaseGangClaim_gang b g h)⟩

/-- R121: a first task that is owed to nobody is on the list that goes. -/
theorem absent_not_owed {b : Berth} {g : Gang} {n : TaskNo} (absent : n ∉ (b.gang g).tasks) (t : Task)
    (owed : OwedToNobody b g t) : n ≠ t.number := fun e => absent (e ▸ firstTask_mem owed.1)

/-- R134, R139: the tasks of a gang that gives its list up. -/
theorem comeOffDeck_leaves_tasks {b : Berth} {g : Gang} {k : Bool} (leaves : (b.gang g).reliefDue = true ∨ k = true) :
    let b' := comeOffDeck b g k
    (∀ n, n ∉ (b.gang g).tasks → b'.task? n = b.task? n)
    ∧ (∀ t, OwedToNobody b g t → b'.task? t.number = none)
    ∧ ∀ n ∈ (b.gang g).tasks, (∀ t, OwedToNobody b g t → n ≠ t.number) → b'.task? n = (b.task? n).map Task.reopened := by
  intro b'
  have task : ∀ n, b'.task? n = if n ∈ ((offDeck b g).gang g).tasks then ((offDeck b g).task? n).map Task.reopened
      else (offDeck b g).task? n := fun n => by rw [← leaveDeck_task?, ← comeOffDeck_leaves leaves]
  refine ⟨fun n absent => ?_, fun t owed => ?_, fun n mem kept => ?_⟩
  · rw [task, if_neg (fun mem => absent (offDeck_mem.1 mem).1), offDeck_task? (absent_not_owed absent)]
  · rw [task, if_neg fun mem => (offDeck_mem.1 mem).2 t owed rfl, offDeck_dropped owed]
  · rw [task, if_pos (offDeck_mem.2 ⟨mem, kept⟩), offDeck_task? kept]

theorem comeOffDeck_leaves_gang {b : Berth} {g : Gang} {k : Bool} (leaves : (b.gang g).reliefDue = true ∨ k = true) :
    (comeOffDeck b g k).gang g = { b.gang g with
      activity := .idle, tasks := [], reliefDue := false
      onDuty := if (b.gang g).reliefDue then false else (b.gang g).onDuty } := by
  obtain ⟨l, record⟩ := offDeck_gang b g
  rw [comeOffDeck_leaves leaves, leaveDeck_gang, record]

/-! ## Duty (R136, R137) -/

theorem dutyOn_onDuty {b : Berth} {g : Gang} (on : (b.gang g).onDuty = true) :
    dutyOn b g = b.modGang g fun r => { r with reliefDue := false } := modGang_congr (if_pos on)

theorem dutyOn_offDuty {b : Berth} {g : Gang} (off : (b.gang g).onDuty = false) :
    dutyOn b g = b.modGang g fun r => { r with onDuty := true, activity := .idle } := modGang_congr (if_neg (by simp [off]))

theorem dutyOff_offDuty {b : Berth} {g : Gang} (off : (b.gang g).onDuty = false) : dutyOff b g = b := if_neg (by simp [off])

theorem dutyOff_onDeck {b : Berth} {g : Gang} (on : (b.gang g).onDuty = true) (deck : (b.gang g).activity = .onDeck) :
    dutyOff b g = b.modGang g fun r => { r with reliefDue := true } := by
  unfold dutyOff
  dsimp only
  rw [if_pos on, deck]

/-- R136: a gang that leaves duty gives up its list. -/
def leaveDuty (b : Berth) (g : Gang) : Berth := (b.giveUpTasks g).modGang g fun r => { r with onDuty := false, activity := .idle }

/-- R136: RECALL is posted for the first task, where there is one. -/
def recallFirst (b : Berth) (g : Gang) (l : List TaskNo) : Berth :=
  match l.head? with
  | some n => b.postGang g (.recall n)
  | none => b

theorem dutyOff_idle {b : Berth} {g : Gang} (on : (b.gang g).onDuty = true) (idle : (b.gang g).activity = .idle) :
    dutyOff b g = leaveDuty b g := by
  unfold dutyOff
  dsimp only
  rw [if_pos on, idle]
  rfl

theorem dutyOff_busy {b : Berth} {g : Gang} (on : (b.gang g).onDuty = true)
    (busy : (b.gang g).activity ∈ [Activity.assigned, .waitDeck]) :
    dutyOff b g = recallFirst (leaveDuty (leaveDeckRequest b g) g) g (b.gang g).tasks := by
  simp only [List.mem_cons, List.not_mem_nil, or_false] at busy
  unfold dutyOff
  dsimp only
  rw [if_pos on]
  obtain activity | activity := busy <;> rw [activity] <;> rfl

theorem recallFirst_keeps {α : Type} (f : Berth → α) (posted : ∀ (b : Berth) g o, f (b.postGang g o) = f b) (b : Berth) (g : Gang)
    (l : List TaskNo) : f (recallFirst b g l) = f b := by
  unfold recallFirst
  split
  · exact posted ..
  · rfl

theorem leaveDuty_gang (b : Berth) (g : Gang) :
    (leaveDuty b g).gang g = { b.gang g with onDuty := false, activity := .idle, tasks := [] } := by
  rw [leaveDuty, Berth.gang_modGang, (giveUpTasks_records b g).1]

/-- A reading of neither the tasks nor the gang's record. -/
theorem leaveDuty_keeps {α : Type} (f : Berth → α) {g : Gang} (gang : ∀ (b : Berth) r, f (b.modGang g r) = f b)
    (task : ∀ (b : Berth) n s, f (b.setTaskState n s) = f b) (b : Berth) : f (leaveDuty b g) = f b := by
  rw [leaveDuty, gang, giveUpTasks_eq, gang, openAll_keeps f fun b n => task b n _]

theorem leaveDuty_task? (b : Berth) (g : Gang) (n : TaskNo) : (leaveDuty b g).task? n =
    if n ∈ (b.gang g).tasks then (b.task? n).map Task.reopened else b.task? n := giveUpTasks_task? b g n

/-- R136: what a gang that is not ON_DECK leaves as it goes off duty. -/
theorem leaveDuty_records (b : Berth) (g : Gang) : let b' := leaveDuty b g
    b'.gang g = { b.gang g with onDuty := false, activity := .idle, tasks := [] }
    ∧ (∀ h, h ≠ g → b'.gang h = b.gang h) ∧ b'.tickets = b.tickets
    ∧ (∀ n ∈ (b.gang g).tasks, b'.task? n = (b.task? n).map Task.reopened)
    ∧ (∀ n, n ∉ (b.gang g).tasks → b'.task? n = b.task? n) ∧ b'.bct = b.bct ∧ b'.qlc = b.qlc := by
  refine ⟨leaveDuty_gang b g, fun h other => ?_, ?_, fun n mem => ?_, fun n absent => ?_, ?_, ?_⟩
  · exact leaveDuty_keeps (fun b => b.gang h) (fun _ _ => Berth.gang_modGang_other _ _ _ _ other) (fun _ _ _ => rfl) b
  · exact leaveDuty_keeps (fun b => b.tickets) (fun _ _ => rfl) (fun _ _ _ => rfl) b
  · rw [leaveDuty_task?, if_pos mem]
  · rw [leaveDuty_task?, if_neg absent]
  · exact leaveDuty_keeps (fun b => b.bct) (fun _ _ => rfl) (fun _ _ _ => rfl) b
  · exact leaveDuty_keeps (fun b => b.qlc) (fun _ _ => rfl) (fun _ _ _ => rfl) b

/-- R136, R137: a gang on duty that is not ON_DECK goes off duty. -/
theorem dutyOff_leaves {b : Berth} {g : Gang} (on : (b.gang g).onDuty = true) (off : (b.gang g).activity ≠ .onDeck) :
    let b' := dutyOff b g
    b'.gang g = { b.gang g with onDuty := false, activity := .idle, tasks := [] }
    ∧ (∀ h, h ≠ g → b'.gang h = b.gang h) ∧ b'.tickets = b.tickets
    ∧ (∀ n ∈ (b.gang g).tasks, b'.task? n = (b.task? n).map Task.reopened)
    ∧ (∀ n, n ∉ (b.gang g).tasks → b'.task? n = b.task? n)
    ∧ ((b.gang g).activity = .idle → b'.bct = b.bct ∧ b'.qlc = b.qlc)
    ∧ ((b.gang g).activity ∈ [Activity.assigned, .waitDeck] → b'.bct = (leaveDeckRequest b g).bct
      ∧ (∀ h, h ≠ g → b'.qlc.gangSlots[h] = (leaveDeckRequest b g).qlc.gangSlots[h])
      ∧ ∀ n, (b.gang g).tasks.head? = some n → b'.qlc.gangSlots[g] = (b.qlc.gangSlots[g]).post (.recall n) b.now) := by
  intro b'
  by_cases idle : (b.gang g).activity = .idle
  · obtain ⟨gang, others, tickets, mem, absent, bct, qlc⟩ := leaveDuty_records b g
    have left : b' = leaveDuty b g := dutyOff_idle on idle
    rw [left]
    exact ⟨gang, others, tickets, mem, absent, fun _ => ⟨bct, qlc⟩, fun busy => by simp [idle] at busy⟩
  · have busy : (b.gang g).activity ∈ [Activity.assigned, .waitDeck] := by
      revert idle off; cases (b.gang g).activity <;> simp
    obtain ⟨gang, others, tickets, mem, absent, bct, qlc⟩ := leaveDuty_records (leaveDeckRequest b g) g
    have unread : ∀ h, (leaveDeckRequest b g).gang h = b.gang h := fun h => by simp only [Berth.gang, leaveDeckRequest_ltu]
    simp only [leaveDeckRequest_gang, leaveDeckRequest_task?, leaveDeckRequest_tickets] at gang others tickets mem absent
    have left : b' = recallFirst (leaveDuty (leaveDeckRequest b g) g) g (b.gang g).tasks := dutyOff_busy on busy
    rw [left]
    refine ⟨?_, fun h other => ?_, ?_, fun n hn => ?_, fun n hn => ?_, fun i => absurd i idle, fun _ => ⟨?_, fun h other => ?_,
      fun n head => ?_⟩⟩
    · rw [recallFirst_keeps (fun b => b.gang g) fun _ _ _ => rfl, gang]
    · rw [recallFirst_keeps (fun b => b.gang h) fun _ _ _ => rfl, others h other, unread]
    · rw [recallFirst_keeps (fun b => b.tickets) fun _ _ _ => rfl, tickets]
    · rw [recallFirst_keeps (fun b => b.task? n) fun _ _ _ => rfl, mem n hn]
    · rw [recallFirst_keeps (fun b => b.task? n) fun _ _ _ => rfl, absent n hn]
    · rw [recallFirst_keeps (fun b => b.bct) fun _ _ _ => rfl, bct]
    · rw [← qlc]
      unfold recallFirst
      split
      · exact modAt_other _ _ _ _ other
      · rfl
    · have clock : (leaveDuty (leaveDeckRequest b g) g).clock = b.clock :=
        (leaveDuty_keeps (fun b => b.clock) (fun _ _ => rfl) (fun _ _ _ => rfl) _).trans (leaveDeckRequest_clock b g)
      simp only [recallFirst, head]
      refine (modAt_same ..).trans ?_
      rw [qlc, leaveDeckRequest_ownSlot, Berth.now, clock]
      rfl

/-! ## GANG_SERVE (R138) -/

/-- R138: a QUEUED task of a crane outside the set. -/
def Berth.unserved (b : Berth) (set : BitVec 8) (n : TaskNo) : Bool :=
  (b.task? n).any fun t => t.state == .queued && !inSet set t.crane.val

theorem serve_eq (b : Berth) (g : Gang) (set : BitVec 8) : serve b g set =
    (openUnlisted b g ((b.gang g).tasks.filter (b.unserved set))).modGang g fun r => { r with served := set } := rfl

theorem filter_not_contains {p : TaskNo → Bool} (l : List TaskNo) :
    (l.filter fun n => !(l.filter p).contains n) = l.filter fun n => !p n :=
  List.filter_congr fun n mem => by
    rw [Bool.eq_iff_iff]
    simp [mem]

theorem serve_records (b : Berth) (g : Gang) (set : BitVec 8) : let b' := serve b g set
    b'.gang g = { b.gang g with served := set, tasks := (b.gang g).tasks.filter fun n => !b.unserved set n }
    ∧ (∀ h, h ≠ g → b'.gang h = b.gang h)
    ∧ (∀ n ∈ (b.gang g).tasks, b.unserved set n = true → b'.task? n = (b.task? n).map Task.reopened)
    ∧ (∀ n, n ∉ (b.gang g).tasks ∨ b.unserved set n = false → b'.task? n = b.task? n)
    ∧ b'.bct = b.bct ∧ b'.qlc = b.qlc ∧ b'.tickets = b.tickets := by
  intro b'
  have served : b' = ((openAll b ((b.gang g).tasks.filter (b.unserved set))).modGang g fun r => { r with
      served := set, tasks := r.tasks.filter fun n => !((b.gang g).tasks.filter (b.unserved set)).contains n }) := by
    show serve b g set = _
    rw [serve_eq, openUnlisted_eq, modGang_modGang]
  have task : ∀ n, b'.task? n = if n ∈ (b.gang g).tasks ∧ b.unserved set n = true then (b.task? n).map Task.reopened
      else b.task? n := fun n => by
    rw [served, Berth.task?_modGang, openAll_task?]
    simp only [List.mem_filter]
  refine ⟨?_, fun h other => ?_, fun n mem gone => ?_, fun n kept => ?_, ?_, ?_, ?_⟩
  · rw [served, Berth.gang_modGang, openAll_gang, filter_not_contains]
  · rw [served, Berth.gang_modGang_other _ _ _ _ other, openAll_gang]
  · rw [task, if_pos ⟨mem, gone⟩]
  · rw [task, if_neg (by rintro ⟨mem, gone⟩; simp [mem, gone] at kept)]
  · rw [served]; exact openAll_keeps (fun b => b.bct) (fun _ _ => rfl) ..
  · rw [served]; exact openAll_keeps (fun b => b.qlc) (fun _ _ => rfl) ..
  · rw [served]; exact openAll_keeps (fun b => b.tickets) (fun _ _ => rfl) ..

/-! ## The commands from a ready port in RUN -/

section

variable {s : State} {body : List Byte} {b : Berth} {r : Res} (ready : PortReady s) (run : s.berth.mode = .run)
include ready run

theorem exec_gangDuty (long : body.length = 2) (own : ownGangDuty s.berth body = (b, r)) :
    exec (.gangDuty body) s = .next (applied 0x40 b r s) :=
  congrArg _ (hostWrite_owned (code := 0x40) ready rfl rfl long.ge long.le (by rw [run]; rfl) own)

theorem exec_gangServe (long : body.length = 2) (own : ownGangServe s.berth body = (b, r)) :
    exec (.gangServe body) s = .next (applied 0x41 b r s) :=
  congrArg _ (hostWrite_owned (code := 0x41) ready rfl rfl long.ge long.le (by rw [run]; rfl) own)

theorem exec_gangRoster (long : body.length = 2) (own : ownGangRoster s.berth body = (b, r)) :
    exec (.gangRoster body) s = .next (applied 0x42 b r s) :=
  congrArg _ (hostWrite_owned (code := 0x42) ready rfl rfl long.ge long.le (by rw [run]; rfl) own)

theorem exec_gangClear (long : body.length = 1) (own : ownGangClear s.berth body = (b, r)) :
    exec (.gangClear body) s = .next (applied 0x43 b r s) :=
  congrArg _ (hostWrite_owned (code := 0x43) ready rfl rfl long.ge long.le (by rw [run]; rfl) own)

end

theorem ownGangDuty_gang (b : Berth) (g : Gang) (on : Bool) : ownGangDuty b [finByte g, boolByte on] =
    (settle (if on then dutyOn b g else dutyOff b g), okRes (fin16 g)) := by
  have gang : gangOf? (byteAt [finByte g, boolByte on] 0) = some g := gangOf?_finByte g
  have duty : boolOf? (byteAt [finByte g, boolByte on] 1) = some on := boolOf?_boolByte on
  simp only [ownGangDuty, gang, duty]

theorem ownGangServe_gang (b : Berth) (g : Gang) (set : Byte) :
    ownGangServe b [finByte g, set] = (settle (serve b g set), okRes (fin16 g)) := by
  have gang : gangOf? (byteAt [finByte g, set] 0) = some g := gangOf?_finByte g
  simp only [ownGangServe, gang]
  rfl

theorem roster_bits : ∀ x : BitVec 4, (x.setWidth 8).extractLsb' 0 4 = x := by decide

theorem ownGangRoster_gang (b : Berth) (g : Gang) (x : BitVec 4) : ownGangRoster b [finByte g, x.setWidth 8] =
    (settle (applyRoster (b.modGang g fun r => { r with roster := x }) g), okRes (fin16 g)) := by
  have gang : gangOf? (byteAt [finByte g, x.setWidth 8] 0) = some g := gangOf?_finByte g
  have roster : byteAt [finByte g, x.setWidth 8] 1 = x.setWidth 8 := rfl
  have low : (x.setWidth 8).toNat < 16 := by rw [BitVec.toNat_setWidth]; omega
  have bits := roster_bits x
  simp only [ownGangRoster, gang, roster, low, if_true, bits]

theorem ownGangClear_confirmed {b : Berth} {g : Gang} {bay : Bay} (held : b.gangClaim g = some { bay, standing := .confirmed }) :
    ownGangClear b [finByte g] = (settle (comeOffDeck b g (!b.online (gangStation g))), okRes (fin16 g)) := by
  have gang : gangOf? (byteAt [finByte g] 0) = some g := gangOf?_finByte g
  simp [ownGangClear, gang, held]

theorem ownGangClear_unconfirmed {b : Berth} {g : Gang} (unheld : ∀ k, b.gangClaim g = some k → k.standing = .clearing) :
    ownGangClear b [finByte g] = (b, { code := .wrongState, entity := 0, detail := 0 }) := by
  have gang : gangOf? (byteAt [finByte g] 0) = some g := gangOf?_finByte g
  have none_ : (b.gangClaim g).any (fun k => k.standing == .confirmed) = false := by
    cases claim : b.gangClaim g with
    | none => rfl
    | some k => simp [unheld k claim]
  simp [ownGangClear, gang, none_]

/-! ## The obligation -/

theorem applyRoster_eq (b : Berth) (g : Gang) : applyRoster b g =
    if (b.gang g).roster &&& b.clock.shiftIndex = 0 then dutyOff b g else dutyOn b g := rfl

/-- Settles O22, from the rows of duty, the list that GANG_SERVE leaves and the gang that comes off deck. -/
theorem gangWrites : Obligations.GangWrites := by
  refine ⟨fun s g ready run => ?_, fun b g => ?_, fun b g => ?_, fun b g => ?_, serve_records, fun b g => ?_⟩
  · exact ⟨exec_gangDuty ready run rfl (ownGangDuty_gang s.berth g true),
      exec_gangDuty ready run rfl (ownGangDuty_gang s.berth g false),
      fun set => exec_gangServe ready run rfl (ownGangServe_gang s.berth g set),
      fun r => exec_gangRoster ready run rfl (ownGangRoster_gang s.berth g r),
      fun bay held => exec_gangClear ready run rfl (ownGangClear_confirmed held),
      fun unheld => exec_gangClear ready run rfl (ownGangClear_unconfirmed unheld)⟩
  · refine ⟨fun holds off => ?_, fun holds on => ?_, fun lacks off => ?_, fun lacks on deck => ?_, fun lacks on idle => ?_,
      applyRoster_eq b g⟩
    · rw [applyRoster_eq, if_neg holds, dutyOn_offDuty off, Berth.gang_modGang]
      exact ⟨rfl, rfl⟩
    · rw [applyRoster_eq, if_neg holds, dutyOn_onDuty on, Berth.gang_modGang]
    · rw [applyRoster_eq, if_pos lacks, dutyOff_offDuty off]
    · rw [applyRoster_eq, if_pos lacks, dutyOff_onDeck on deck, Berth.gang_modGang]
    · rw [applyRoster_eq, if_pos lacks, dutyOff_idle on idle, leaveDuty_gang, ← idle]
  · refine ⟨fun off => ⟨dutyOn_offDuty off, dutyOff_offDuty off⟩,
      fun on => ⟨dutyOn_onDuty on, fun kept => ?_, dutyOff_onDeck on, dutyOff_leaves on⟩⟩
    rw [dutyOn_onDuty on]
    exact modGang_id (by rw [← kept])
  · refine ⟨leaveDeckRequest_isWaiter b g, fun unclear => ?_, fun bay clearing => ?_⟩
    · rcases leaveDeckRequest_cases b g with ⟨bay, clearing, -⟩ | ⟨-, e⟩
      · exact absurd clearing (unclear bay)
      · exact e
    · rcases leaveDeckRequest_cases b g with ⟨_, -, e⟩ | ⟨unclear, -⟩
      · exact ⟨e, leaveDeckRequest_unclaimed (by rw [clearing]; simp)⟩
      · exact absurd clearing (unclear bay)
  · obtain ⟨bct, qlc, tickets, others⟩ := comeOffDeck_rest b g true
    obtain ⟨absent, dropped, opened⟩ := comeOffDeck_leaves_tasks (b := b) (g := g) (k := true) (Or.inr rfl)
    exact ⟨bct, qlc, tickets, others, comeOffDeck_leaves_gang (Or.inr rfl), absent, dropped, opened⟩

end Sys2Proof.Machine

/-! # Gang reports (R71, R131, R133, R134; O37) -/

namespace Sys2Proof.Machine

/-- A report of an ONLINE gang in RUN is its owner's (R166). -/
theorem gangFrame {s : State} {g : Gang} (speaks : StationSpeaks s (gangStation g)) {kind : Byte} {body : List Byte}
    (sends : (Role.gang g).kinds.contains kind = true) (report : kind ≠ kindReply ∧ classOf kind = 1)
    (allowed : lengthAllowed kind body = true) (short : body.length ≤ maxFrameBody) {b : Berth} {r : Reply}
    (own : ownReport (heardFrom s.berth (gangStation g)) (.gang g) kind body = (b, r)) :
    Host.Outcome.next (φ := Fault) (ρ := Refusal) (berthEvent (frameEvent kind (frameOf (gangStation g) 1 body)) s) =
      .next (replied s (gangStation g) b r) := by
  obtain ⟨notReply, cls⟩ := report
  have role := roleOf_gangStation g
  rw [frameEvent_run speaks (gangStation_lt g) notReply (by rw [role]; exact sends) cls.symm allowed short, role, own]

/-! ## DECK_REQUEST (R71, R131) -/

/-- R131: when a gang may ask for the deck with its first task. -/
def MayAskDeck (b : Berth) (g : Gang) (t : Task) : Prop :=
  (t.state = .dispatched ∧ ((b.gang g).activity = .assigned ∨ (b.gang g).activity = .waitDeck))
    ∨ (t.state = .active ∧ (b.gang g).activity = .onDeck)

section

variable {b : Berth} {g : Gang} {t : Task} (first : b.firstTask g = some t) (may : MayAskDeck b g t)
include first may

theorem deckRequest_clearing {bay : Bay} (claim : b.gangClaim g = some { bay, standing := .clearing }) :
    deckRequest b g t.number = (b, { code := .wait, reason := .none, data := [0] }) := by
  unfold MayAskDeck at may
  simp [deckRequest, first, may, claim]

theorem deckRequest_held (claim : b.gangClaim g = some { bay := t.bay, standing := .confirmed }) :
    deckRequest b g t.number = (b, accept) := by
  unfold MayAskDeck at may
  simp [deckRequest, first, may, claim]

variable (claim : b.gangClaim g = none)
include claim

theorem deckRequest_listed (listed : b.isWaiter g = true) : deckRequest b g t.number =
    (b, { code := .wait, reason := .none, data := [natByte (placeOf (fun w => w.1 == g) b.bct.waiters)] }) := by
  unfold MayAskDeck at may
  simp [deckRequest, first, may, claim, listed]

variable (unlisted : b.isWaiter g = false)
include unlisted

theorem deckRequest_granted (free : b.gangMayClaim t.bay = true) : deckRequest b g t.number =
    (((b.setGangClaim g (some { bay := t.bay, standing := .confirmed })).modGang g
      fun r => { r with activity := .onDeck }).setTaskState t.number .active, accept) := by
  unfold MayAskDeck at may
  simp [deckRequest, first, may, claim, unlisted, free]

theorem deckRequest_waits (taken : b.gangMayClaim t.bay = false) : deckRequest b g t.number =
    (({ b with bct := { b.bct with waiters := b.bct.waiters ++ [(g, t.bay)] } }).modGang g
        fun r => { r with activity := .waitDeck },
      { code := .wait, reason := .none, data := [natByte (b.bct.waiters.length + 1)] }) := by
  unfold MayAskDeck at may
  simp [deckRequest, first, may, claim, unlisted, taken]

end

/-- R75, R131: any other request for the deck. -/
theorem deckRequest_refused {b : Berth} {g : Gang} {n : TaskNo}
    (mayNot : ∀ t, b.firstTask g = some t → t.number = n → ¬ MayAskDeck b g t) : deckRequest b g n = (b, refuse .wrongState) := by
  unfold deckRequest
  cases first : b.firstTask g with
  | none => rfl
  | some t => exact if_neg fun asks => mayNot t first asks.1 asks.2

/-! ## TASK_DONE (R133) -/

theorem taskDoneReport_refused {b : Berth} {g : Gang} {n : TaskNo} (notOn : ∀ t, b.firstTask g = some t → t.number = n →
    ¬ (t.state = .active ∧ (b.gang g).activity = .onDeck)) : taskDoneReport b g n = (b, refuse .wrongState) := by
  unfold taskDoneReport
  cases first : b.firstTask g with
  | none => rfl
  | some t => exact if_neg fun on => notOn t first on.1 on.2

/-- R123, R126: what the completion of a task makes, and all that it leaves. -/
theorem completeTask_records (b : Berth) (g : Gang) (t : Task) : let b' := completeTask b g t
    b'.tickets = b.tickets.map (fun x => if x.task = some t.number then
      { x with lashState := if t.kind = .unlash then .cleared else .lashed, task := none } else x)
    ∧ b'.gang g = { b.gang g with tasks := (b.gang g).tasks.filter fun n => n != t.number }
    ∧ (∀ h, h ≠ g → b'.gang h = b.gang h) ∧ b'.task? t.number = none
    ∧ b'.ltu.tasks = b.ltu.tasks.filter (fun u => u.number != t.number) ∧ b'.ltu.reserved = b.ltu.reserved
    ∧ b'.bct = b.bct ∧ b'.qlc = b.qlc ∧ b'.cranes = b.cranes := by
  refine ⟨?_, Berth.gang_modGang .., fun h other => Berth.gang_modGang_other _ _ _ _ other, Berth.task?_dropTask_same .., rfl,
    rfl, rfl, rfl, rfl⟩
  show b.tickets.map _ = _
  simp only [beq_iff_eq]

theorem completeTask_relief (b : Berth) (g : Gang) (t : Task) :
    ((completeTask b g t).gang g).reliefDue = (b.gang g).reliefDue := by
  obtain ⟨-, gang, -⟩ := completeTask_records b g t
  rw [gang]

section

variable {b : Berth} {g : Gang} {t : Task} (first : b.firstTask g = some t) (active : t.state = .active)
  (on : (b.gang g).activity = .onDeck)
include first active on

theorem taskDoneReport_goesOn {u : Task} (next : (completeTask b g t).firstTask g = some u) (here : u.bay = t.bay)
    (stays : (b.gang g).reliefDue = false) : taskDoneReport b g t.number =
      ((completeTask b g t).setTaskState u.number .active, accept (bytes16 u.number ++ [u.kind.code, u.bay])) := by
  simp [taskDoneReport, first, active, on, next, here, completeTask_relief, stays]

theorem taskDoneReport_ends
    (ends : ∀ u, (completeTask b g t).firstTask g = some u → u.bay = t.bay → (b.gang g).reliefDue = true) :
    taskDoneReport b g t.number = (completeTask b g t, accept [0xFF, 0xFF, 0, 0]) := by
  have last : accept (bytes16 0xFFFF ++ [0, 0]) = accept [0xFF, 0xFF, 0, 0] := by decide
  cases next : (completeTask b g t).firstTask g with
  | none => simpa [taskDoneReport, first, active, on, next] using last
  | some u =>
    have apart : ¬ (u.bay = t.bay ∧ (b.gang g).reliefDue = false) := fun ⟨here, stays⟩ => by simp [ends u next here] at stays
    simpa [taskDoneReport, first, active, on, next, completeTask_relief, apart] using last

end

/-! ## OFF_DECK (R134) -/

theorem offDeckReport_confirmed {b : Berth} {g : Gang} {bay : Bay}
    (claim : b.gangClaim g = some { bay, standing := .confirmed }) : offDeckReport b g = (comeOffDeck b g false, accept) := by
  simp only [offDeckReport, claim]

theorem offDeckReport_refused {b : Berth} {g : Gang} (unheld : ∀ bay, b.gangClaim g ≠ some { bay, standing := .confirmed }) :
    offDeckReport b g = (b, refuse .wrongState) := by
  unfold offDeckReport
  split
  · next claim => exact absurd claim (unheld _)
  · rfl

theorem requeueFirst_active {b : Berth} {g : Gang} {t : Task} (first : b.firstTask g = some t) (active : t.state = .active) :
    requeueFirst b g = b.setTaskState t.number .queued := by
  simp only [requeueFirst, first, active, if_true]

theorem requeueFirst_none {b : Berth} {g : Gang} (none_ : ∀ t, b.firstTask g = some t → t.state ≠ .active) :
    requeueFirst b g = b := by
  unfold requeueFirst
  split
  · next t first => exact if_neg (none_ t first)
  · rfl

theorem requeueFirst_other {b : Berth} {g : Gang} {n : TaskNo}
    (other : ∀ t, b.firstTask g = some t → t.state = .active → n ≠ t.number) : (requeueFirst b g).task? n = b.task? n := by
  by_cases head : ∃ t, b.firstTask g = some t ∧ t.state = .active
  · obtain ⟨t, first, active⟩ := head
    rw [requeueFirst_active first active, task?_setTaskState_other _ _ (other t first active)]
  · rw [requeueFirst_none fun t first active => head ⟨t, first, active⟩]

theorem requeueFirst_unlisted {b : Berth} {g : Gang} {n : TaskNo} (absent : n ∉ (b.gang g).tasks) :
    (requeueFirst b g).task? n = b.task? n := requeueFirst_other fun _ first _ e => absent (e ▸ firstTask_mem first)

/-- Requeueing a gang's first task reaches no other task than an ACTIVE one. -/
theorem requeueFirst_idle {b : Berth} {g : Gang} {n : TaskNo} {u : Task} (task : b.task? n = some u) (idle : u.state ≠ .active) :
    (requeueFirst b g).task? n = some u := by
  refine (requeueFirst_other fun t first active e => ?_).trans task
  obtain rfl := Option.some.inj (task.symm.trans (e ▸ (firstTask_head first).2))
  exact idle active

section

variable {b : Berth} {g : Gang} (stays : (b.gang g).reliefDue = false)
include stays

theorem comeOffDeck_stays_gang : (comeOffDeck b g false).gang g = { (offDeck b g).gang g with activity := .idle } := by
  rw [comeOffDeck_stays stays, Berth.gang_modGang, requeueFirst_keeps (fun b => b.gang g) fun _ _ _ => rfl]

theorem comeOffDeck_stays_task? (n : TaskNo) : (comeOffDeck b g false).task? n = (requeueFirst (offDeck b g) g).task? n := by
  rw [comeOffDeck_stays stays, Berth.task?_modGang]

/-- R121, R134: the task owed to nobody is dropped, and the rest of the list stays. -/
theorem comeOffDeck_stays_owed {t : Task} (owed : OwedToNobody b g t) :
    (comeOffDeck b g false).gang g = { b.gang g with activity := .idle, tasks := (b.gang g).tasks.filter fun n => n != t.number }
    ∧ (∀ n u, n ≠ t.number → b.task? n = some u → u.state ≠ .active → (comeOffDeck b g false).task? n = some u) := by
  have only : ∀ u, OwedToNobody b g u → u = t := fun u h => Option.some.inj (h.1.symm.trans owed.1)
  refine ⟨?_, fun n u other task idle => ?_⟩
  · rw [comeOffDeck_stays_gang stays, offDeck_owed owed, Berth.gang_dropTask, Berth.unlist, Berth.gang_modGang,
      releaseGangClaim_gang]
  · rw [comeOffDeck_stays_task? stays]
    refine requeueFirst_idle ?_ idle
    rw [offDeck_task? fun v h => only v h ▸ other, task]

/-- R134: an ACTIVE first task that is owed to a ticket is QUEUED again in its place. -/
theorem comeOffDeck_stays_none (none_ : ∀ t, ¬ OwedToNobody b g t) :
    (comeOffDeck b g false).gang g = { b.gang g with activity := .idle }
    ∧ (∀ t, b.firstTask g = some t → t.state = .active →
        (comeOffDeck b g false).task? t.number = some { t with state := .queued }
        ∧ ∀ n, n ≠ t.number → (comeOffDeck b g false).task? n = b.task? n)
    ∧ ((∀ t, b.firstTask g = some t → t.state ≠ .active) → (comeOffDeck b g false).ltu.tasks = b.ltu.tasks) := by
  have first : (offDeck b g).firstTask g = b.firstTask g := by rw [offDeck_none none_, releaseGangClaim_firstTask]
  refine ⟨?_, fun t head active => ?_, fun inactive => ?_⟩
  · rw [comeOffDeck_stays_gang stays, offDeck_none none_, releaseGangClaim_gang]
  · have requeued := requeueFirst_active (first.trans head) active
    refine ⟨?_, fun n other => ?_⟩
    · rw [comeOffDeck_stays_task? stays, requeued, task?_setTaskState_same, offDeck_none none_, releaseGangClaim_task?,
        (firstTask_head head).2]
      rfl
    · rw [comeOffDeck_stays_task? stays, requeued, task?_setTaskState_other _ _ other, offDeck_none none_,
        releaseGangClaim_task?]
  · rw [comeOffDeck_stays stays, requeueFirst_none fun t head => inactive t (first ▸ head), offDeck_none none_]
    exact congrArg (·.tasks) (releaseGangClaim_ltu b g)

end

/-! ## The obligation -/

/-- Settles O37, from the reports of the gang cycle case by case. -/
theorem gangReports : Obligations.GangReports := by
  refine ⟨fun s g speaks => ?_,
    fun b g t first state activity => ⟨fun bay clearing => ?_, fun claim listed => ?_, fun claim unlisted taken => ?_⟩,
    fun b g t first active on held => ?_, fun b g n => ⟨fun mayNot => ?_, taskDoneReport_refused⟩,
    fun b g => offDeckReport_refused, completeTask_records, fun b g => ?_⟩
  · intro st b
    refine ⟨fun t first state activity claim unlisted free => ?_,
      fun t first active on => ⟨fun ends => ?_, fun u next here stays => ?_⟩, fun bay claim => ?_⟩
    · refine gangFrame speaks rfl (by decide) rfl (by simp [maxFrameBody]) ?_
      show deckRequest b g (word16At (bytes16 t.number) 0) = _
      rw [word16At_bytes16_nil, deckRequest_granted first (Or.inl ⟨state, Or.inl activity⟩) claim unlisted free]
    · refine gangFrame speaks rfl (by decide) rfl (by simp [maxFrameBody]) ?_
      show taskDoneReport b g (word16At (bytes16 t.number) 0) = _
      rw [word16At_bytes16_nil, taskDoneReport_ends first active on ends]
    · refine gangFrame speaks rfl (by decide) rfl (by simp [maxFrameBody]) ?_
      show taskDoneReport b g (word16At (bytes16 t.number) 0) = _
      rw [word16At_bytes16_nil, taskDoneReport_goesOn first active on next here stays]
    · exact gangFrame speaks rfl (by decide) rfl (by simp [maxFrameBody]) (offDeckReport_confirmed claim)
  · exact deckRequest_clearing first (Or.inl ⟨state, activity⟩) clearing
  · rw [deckRequest_listed first (Or.inl ⟨state, activity⟩) claim listed]
    exact ⟨rfl, rfl⟩
  · rw [deckRequest_waits first (Or.inl ⟨state, activity⟩) claim unlisted taken]
    exact ⟨rfl, congrArg (·.activity) (Berth.gang_modGang ..), rfl⟩
  · exact deckRequest_held first (Or.inr ⟨active, on⟩) held
  · exact deckRequest_refused fun t first own may => may.elim (mayNot t first own).1 (mayNot t first own).2
  · obtain ⟨bct, qlc, tickets, others⟩ := comeOffDeck_rest b g false
    by_cases due : (b.gang g).reliefDue = true
    · obtain ⟨absent, dropped, opened⟩ := comeOffDeck_leaves_tasks (b := b) (g := g) (k := false) (Or.inl due)
      refine ⟨bct, qlc, tickets, others, absent, dropped, fun _ => ⟨?_, opened⟩, fun stays => by simp [due] at stays⟩
      rw [comeOffDeck_leaves_gang (Or.inl due), due]
      rfl
    · have stays : (b.gang g).reliefDue = false := by simpa using due
      refine ⟨bct, qlc, tickets, others, fun n absent => ?_, fun t owed => ?_, fun h => absurd h due,
        fun _ => ⟨fun t owed => comeOffDeck_stays_owed stays owed, comeOffDeck_stays_none stays⟩⟩
      · rw [comeOffDeck_stays_task? stays, requeueFirst_unlisted fun mem => absent (offDeck_mem.1 mem).1,
          offDeck_task? (absent_not_owed absent)]
      · rw [comeOffDeck_stays_task? stays, requeueFirst_unlisted fun mem => (offDeck_mem.1 mem).2 t owed rfl,
          offDeck_dropped owed]

end Sys2Proof.Machine

/-! # The moves of the mode (R208 to R212; O28) -/

namespace Sys2Proof.Machine

/-! ## Folds over the cranes or the gangs -/

/-- What each step of a fold makes of its own place, and no step unmakes, holds of every place at the end. -/
theorem foldl_makes {α β : Type} {I : β → Prop} {P : α → β → Prop} {f : β → α → β} (keeps : ∀ b x, I b → I (f b x))
    (makes : ∀ b x, I b → P x (f b x)) (stands : ∀ b x y, P y b → P y (f b x)) (l : List α) {b : β} (start : I b) :
    ∀ y ∈ l, P y (l.foldl f b) := by
  induction l generalizing b with
  | nil => simp
  | cons x xs ih =>
    intro y mem
    rcases List.mem_cons.1 mem with rfl | later
    · exact foldl_kept (fun b x => stands b x y) xs (makes b y start)
    · exact ih (keeps b x start) y later

/-! ## Gangs (R141) -/

/-- R141: a DISPATCHED first task is QUEUED again. -/
def undispatchFirst (b : Berth) (g : Gang) : Berth :=
  match b.firstTask g with
  | some t => if t.state = .dispatched then b.setTaskState t.number .queued else b
  | none => b

theorem undispatchFirst_keeps {α : Type} (f : Berth → α) (task : ∀ (b : Berth) n s, f (b.setTaskState n s) = f b) (b : Berth)
    (g : Gang) : f (undispatchFirst b g) = f b := by
  unfold undispatchFirst
  split
  · split
    · exact task ..
    · rfl
  · rfl

theorem gangEnterConfig_settled {b : Berth} {g : Gang} (settled : (b.gang g).activity ∈ [Activity.idle, .onDeck]) :
    gangEnterConfig b g = b := by
  simp only [List.mem_cons, List.not_mem_nil, or_false] at settled
  unfold gangEnterConfig
  rcases settled with idle | onDeck
  · rw [idle]
  · rw [onDeck]

theorem gangEnterConfig_asks {b : Berth} {g : Gang} (asks : (b.gang g).activity ∉ [Activity.idle, .onDeck]) :
    gangEnterConfig b g = (undispatchFirst b g).modGang g fun r => { r with activity := .idle } := by
  simp only [List.mem_cons, List.not_mem_nil, or_false, not_or] at asks
  obtain ⟨notIdle, notOnDeck⟩ := asks
  unfold gangEnterConfig
  cases activity : (b.gang g).activity with
  | idle => exact absurd activity notIdle
  | onDeck => exact absurd activity notOnDeck
  | assigned | waitDeck => rfl

/-- A reading of neither the tasks nor the gang's record. -/
theorem gangEnterConfig_keeps {α : Type} (f : Berth → α) {g : Gang} (gang : ∀ (b : Berth) r, f (b.modGang g r) = f b)
    (task : ∀ (b : Berth) n s, f (b.setTaskState n s) = f b) (b : Berth) : f (gangEnterConfig b g) = f b := by
  by_cases settled : (b.gang g).activity ∈ [Activity.idle, .onDeck]
  · rw [gangEnterConfig_settled settled]
  · rw [gangEnterConfig_asks settled, gang, undispatchFirst_keeps f task]

theorem gangsEnterConfig_keeps {α : Type} (f : Berth → α) (gang : ∀ (b : Berth) g r, f (b.modGang g r) = f b)
    (task : ∀ (b : Berth) n s, f (b.setTaskState n s) = f b) (b : Berth) : f (allGangs.foldl gangEnterConfig b) = f b :=
  foldl_keeps f _ (fun b g => gangEnterConfig_keeps f (fun b => gang b g) task b) ..

theorem gangsEnterConfig_activity (b : Berth) (g : Gang) :
    ((allGangs.foldl gangEnterConfig b).gang g).activity ∈ [Activity.idle, .onDeck] := by
  refine foldl_makes (I := fun _ => True) (P := fun g (b : Berth) => (b.gang g).activity ∈ [Activity.idle, .onDeck]) (fun _ _ _ => trivial)
    (fun b g _ => ?_) (fun b g h settled => ?_) allGangs trivial g (mem_allGangs g)
  · by_cases settled : (b.gang g).activity ∈ [Activity.idle, .onDeck]
    · rwa [gangEnterConfig_settled settled]
    · rw [gangEnterConfig_asks settled, Berth.gang_modGang]
      exact List.mem_cons_self
  · by_cases own : h = g
    · subst own
      rwa [gangEnterConfig_settled settled]
    · rwa [gangEnterConfig_keeps (fun b => b.gang h) (fun _ _ => Berth.gang_modGang_other _ _ _ _ own) fun _ _ _ => rfl]

/-! ## Claims (R78) -/

/-- R78: a CLEARING claim is released, and no waiter is examined. -/
def dropClearing (b : Berth) (g : Gang) : Berth :=
  if (b.gangClaim g).any fun k => k.standing == .clearing then b.setGangClaim g none else b

theorem claimsEnterConfig_eq (b : Berth) :
    claimsEnterConfig b = allGangs.foldl dropClearing { b with bct := { b.bct with waiters := [] } } := rfl

/-- A reading of no gang's claim. -/
theorem dropClearing_keeps {α : Type} (f : Berth → α) {g : Gang} (claim : ∀ (b : Berth) k, f (b.setGangClaim g k) = f b)
    (b : Berth) : f (dropClearing b g) = f b := by
  unfold dropClearing
  split
  · exact claim ..
  · rfl

theorem claimsEnterConfig_keeps {α : Type} (f : Berth → α) (bct : ∀ (b : Berth) x, f { b with bct := x } = f b) (b : Berth) :
    f (claimsEnterConfig b) = f b := by
  rw [claimsEnterConfig_eq, foldl_keeps f _ fun b g => dropClearing_keeps f (fun b _ => bct b _) b]
  exact bct b _

theorem claimsEnterConfig_waiters (b : Berth) : (claimsEnterConfig b).bct.waiters = [] := by
  rw [claimsEnterConfig_eq]
  exact foldl_keeps (fun b => b.bct.waiters) _ (fun b g => dropClearing_keeps (fun b => b.bct.waiters) (fun _ _ => rfl) b) ..

theorem gangClaim_dropClearing (b : Berth) (g h : Gang) :
    (dropClearing b g).gangClaim h = if h = g ∧ (b.gangClaim g).any (fun k => k.standing == .clearing) then none
      else b.gangClaim h := by
  unfold dropClearing
  by_cases clearing : (b.gangClaim g).any fun k => k.standing == .clearing
  · by_cases own : h = g
    · subst own
      rw [if_pos clearing, if_pos ⟨rfl, clearing⟩]
      exact Berth.gangClaim_setGangClaim ..
    · rw [if_pos clearing, if_neg fun both => own both.1]
      exact Berth.gangClaim_setGangClaim_other _ _ _ _ own
  · rw [if_neg clearing, if_neg fun both => clearing both.2]

/-- R78: the claims left are CONFIRMED ones, and were held before. -/
theorem claimsEnterConfig_claim {b : Berth} {g : Gang} {k : GangClaim} (claim : (claimsEnterConfig b).gangClaim g = some k) :
    k.standing = .confirmed ∧ b.gangClaim g = some k := by
  rw [claimsEnterConfig_eq] at claim
  have held : ∀ k, (allGangs.foldl dropClearing { b with bct := { b.bct with waiters := [] } }).gangClaim g = some k →
      b.gangClaim g = some k :=
    foldl_kept (P := fun b' : Berth => ∀ k, b'.gangClaim g = some k → b.gangClaim g = some k) (fun b' h kept k claim => by
      rw [gangClaim_dropClearing] at claim
      split at claim
      · cases claim
      · exact kept k claim) allGangs fun _ claim => claim
  have confirmed : ∀ k, (allGangs.foldl dropClearing { b with bct := { b.bct with waiters := [] } }).gangClaim g = some k →
      k.standing = .confirmed := by
    refine foldl_makes (I := fun _ => True) (P := fun g (b : Berth) => ∀ k, b.gangClaim g = some k → k.standing = .confirmed)
      (fun _ _ _ => trivial) (fun b g _ k claim => ?_) (fun b g h kept k claim => ?_) allGangs trivial g (mem_allGangs g)
    · rw [gangClaim_dropClearing] at claim
      split at claim
      · cases claim
      · next unclear =>
        cases stands : k.standing with
        | confirmed => rfl
        | clearing => simp [claim, stands] at unclear
    · rw [gangClaim_dropClearing] at claim
      split at claim
      · cases claim
      · exact kept k claim
  exact ⟨confirmed k claim, held k claim⟩

/-! ## The entry into CONFIG from RUN (R211) -/

/-- R211: a crane's waiting period ends. -/
def stopWaiting (b : Berth) (c : Crane) : Berth := if (b.crane c).work = .waiting then endWaiting b c else b

/-- R104, R178: the entry with the promotions off the stands and the board empty. -/
def boardEmptied (b : Berth) : Berth := (standsEnterConfig (b.setMode .config)).emptyBoard

theorem enterConfigFromRun_eq (b : Berth) : enterConfigFromRun b =
    allGangs.foldl gangEnterConfig (claimsEnterConfig (allCranes.foldl stopWaiting (boardEmptied b))) := rfl

theorem standsEnterConfig_keeps {α : Type} (f : Berth → α) (shu : ∀ (b : Berth) x, f { b with shu := x } = f b) (b : Berth) :
    f (standsEnterConfig b) = f b := by
  have returned : ∀ (b : Berth) c t, f (returnToHolding b c t) = f b := fun b c t => by
    unfold returnToHolding Berth.modStand
    exact (shu _ _).trans (shu b _)
  exact foldl_keeps f _ (fun b c => foldl_keeps f _ (fun b t => returned b c t) _ b) _ _

/-- A reading of neither the trucks nor the board. -/
theorem boardEmptied_keeps {α : Type} (f : Berth → α) (shu : ∀ (b : Berth) x, f { b with shu := x } = f b)
    (qlc : ∀ (b : Berth) x, f { b with qlc := x } = f b) (b : Berth) : f (boardEmptied b) = f (b.setMode .config) := by
  rw [boardEmptied, Berth.emptyBoard, qlc, standsEnterConfig_keeps f shu]

theorem boardEmptied_stations (b : Berth) : (boardEmptied b).qlc.stations = b.qlc.stations := by
  have emptied : ∀ b : Berth, b.emptyBoard.qlc.stations = b.qlc.stations := fun _ => rfl
  rw [boardEmptied, emptied, standsEnterConfig_keeps (fun b => b.qlc.stations) fun _ _ => rfl]
  rfl

/-- A reading of neither the cranes nor the tickets. -/
theorem stopWaiting_keeps {α : Type} (f : Berth → α) {c : Crane} (crane : ∀ (b : Berth) r, f (b.modCrane c r) = f b)
    (tickets : ∀ (b : Berth) x, f { b with tickets := x } = f b) (b : Berth) : f (stopWaiting b c) = f b := by
  unfold stopWaiting
  split
  · exact (tickets _ _).trans (crane b _)
  · rfl

theorem stopWaiting_crane (b : Berth) (c d : Crane) : ((stopWaiting b c).crane d).work =
    if d = c ∧ (b.crane c).work = .waiting then .idle else (b.crane d).work := by
  unfold stopWaiting
  obtain ⟨own, others, -⟩ := endWaiting_records b c
  by_cases waiting : (b.crane c).work = .waiting
  · rw [if_pos waiting]
    by_cases same : d = c
    · subst same
      rw [own, if_pos ⟨rfl, waiting⟩]
    · rw [others d same, if_neg fun both => same both.1]
  · rw [if_neg waiting, if_neg fun both => waiting both.2]

/-- R211: with nothing lifted, every crane is IDLE. -/
theorem stopWaiting_idle {b : Berth} (unlifted : ∀ c, (b.crane c).work.lifted = false) (c : Crane) :
    ((allCranes.foldl stopWaiting b).crane c).work = .idle := by
  refine foldl_makes (I := fun b : Berth => ∀ c, (b.crane c).work.lifted = false)
    (P := fun c (b : Berth) => (b.crane c).work = .idle)
    (fun b c unlifted d => ?_) (fun b c unlifted => ?_) (fun b c d idle => ?_) allCranes unlifted c (mem_allCranes c)
  · rw [stopWaiting_crane]
    split
    · rfl
    · exact unlifted d
  · rw [stopWaiting_crane]
    split
    · rfl
    · next busy => exact ((not_lifted_iff _).1 (unlifted c)).resolve_right fun waiting => busy ⟨rfl, waiting⟩
  · rw [stopWaiting_crane, idle, ite_self]

/-- A reading of neither the cranes nor the tickets. -/
theorem stopWaitings_keeps {α : Type} (f : Berth → α) (crane : ∀ (b : Berth) c r, f (b.modCrane c r) = f b)
    (tickets : ∀ (b : Berth) x, f { b with tickets := x } = f b) (b : Berth) : f (allCranes.foldl stopWaiting b) = f b :=
  foldl_keeps f _ (fun b c => stopWaiting_keeps f (fun b => crane b c) tickets b) _ _

theorem enterConfigFromRun_mode (b : Berth) : (enterConfigFromRun b).mode = .config := by
  rw [enterConfigFromRun_eq, gangsEnterConfig_keeps (fun b => b.mode) (fun _ _ _ => rfl) fun _ _ _ => rfl,
    claimsEnterConfig_keeps (fun b => b.mode) fun _ _ => rfl,
    stopWaitings_keeps (fun b => b.mode) (fun _ _ _ => rfl) fun _ _ => rfl,
    boardEmptied_keeps (fun b => b.mode) (fun _ _ => rfl) fun _ _ => rfl]
  rfl

theorem enterConfigFromRun_qlc (b : Berth) : (enterConfigFromRun b).qlc = (boardEmptied b).qlc := by
  rw [enterConfigFromRun_eq, gangsEnterConfig_keeps (fun b => b.qlc) (fun _ _ _ => rfl) fun _ _ _ => rfl,
    claimsEnterConfig_keeps (fun b => b.qlc) fun _ _ => rfl,
    stopWaitings_keeps (fun b => b.qlc) (fun _ _ _ => rfl) fun _ _ => rfl]

theorem enterConfigFromRun_waiters (b : Berth) : (enterConfigFromRun b).bct.waiters = [] := by
  rw [enterConfigFromRun_eq, gangsEnterConfig_keeps (fun b => b.bct) (fun _ _ _ => rfl) fun _ _ _ => rfl,
    claimsEnterConfig_waiters]

theorem enterConfigFromRun_activity (b : Berth) (g : Gang) :
    ((enterConfigFromRun b).gang g).activity ∈ [Activity.idle, .onDeck] := by
  rw [enterConfigFromRun_eq]
  exact gangsEnterConfig_activity _ g

theorem enterConfigFromRun_crane {b : Berth} (idle : b.lifting = false) (c : Crane) :
    ((enterConfigFromRun b).crane c).work = .idle := by
  rw [enterConfigFromRun_eq, gangsEnterConfig_keeps (fun b => b.crane c) (fun _ _ _ => rfl) fun _ _ _ => rfl,
    claimsEnterConfig_keeps (fun b => b.crane c) fun _ _ => rfl]
  refine stopWaiting_idle (fun d => ?_) c
  rw [boardEmptied_keeps (fun b => b.crane d) (fun _ _ => rfl) fun _ _ => rfl]
  exact KeptOnDeck.lifting_idle idle d

theorem enterConfigFromRun_claim {b : Berth} {g : Gang} {k : GangClaim} (claim : (enterConfigFromRun b).gangClaim g = some k) :
    k.standing = .confirmed ∧ b.gangClaim g = some k := by
  rw [enterConfigFromRun_eq, gangsEnterConfig_keeps (fun b => b.gangClaim g) (fun _ _ _ => rfl) fun _ _ _ => rfl] at claim
  obtain ⟨confirmed, held⟩ := claimsEnterConfig_claim claim
  rw [stopWaitings_keeps (fun b => b.gangClaim g) (fun _ _ _ => rfl) fun _ _ => rfl,
    boardEmptied_keeps (fun b => b.gangClaim g) (fun _ _ => rfl) fun _ _ => rfl] at held
  exact ⟨confirmed, held⟩

/-! ## MODE_SET (R208, R209) -/

section

variable {b : Berth}

theorem moveMode_run (config : b.mode = .config) (fits : b.sizes.sum ≤ 1600) :
    moveMode b .run = (settle (enterRun b), okRes 0 1) := by
  have valid : b.sizes.valid = true := decide_eq_true fits
  simp only [moveMode, config, valid, if_true]
  rfl

theorem moveMode_run_refused (config : b.mode = .config) (tooBig : 1600 < b.sizes.sum) :
    moveMode b .run = (b, { code := .partitionInvalid, entity := BitVec.ofNat 16 b.sizes.sum, detail := 0 }) := by
  have valid : b.sizes.valid = false := decide_eq_false (by omega)
  simp only [moveMode, config, valid, Bool.false_eq_true, if_false]

theorem moveMode_monitor (config : b.mode = .config) : moveMode b .monitor = (enterMonitor b, okRes 0 1) := by
  simp only [moveMode, config]
  rfl

theorem moveMode_config (run : b.mode = .run) (idle : b.lifting = false) :
    moveMode b .config = (settle (enterConfigFromRun b), okRes 0 2) := by
  simp only [moveMode, run, idle, Bool.false_eq_true, if_false]
  rfl

theorem moveMode_config_refused {c : Crane} (run : b.mode = .run) (busy : b.busyCrane = some c) :
    moveMode b .config = (b, { code := .occupied, entity := 0, detail := finByte c }) := by
  have lifting : b.lifting = true := by simp [Berth.lifting, busy]
  simp only [moveMode, run, lifting, if_true, busy, Option.getD_some]

theorem moveMode_fromMonitor (monitor : b.mode = .monitor) :
    moveMode b .config = ({ b with mode := .config }, okRes 0 3) := by
  simp only [moveMode, monitor]
  rfl

theorem moveMode_same : moveMode b b.mode = (b, okRes 0 b.mode.code) := by
  unfold moveMode
  cases b.mode <;> rfl

/-- R209: from RUN and from MONITOR, CONFIG comes first. -/
theorem moveMode_notConfig (away : (b.mode = .run ∧ m = .monitor) ∨ (b.mode = .monitor ∧ m = .run)) :
    moveMode b m = (b, { code := .notConfig, entity := 0, detail := 0 }) := by
  rcases away with ⟨mode, rfl⟩ | ⟨mode, rfl⟩ <;> simp only [moveMode, mode]

end

theorem modeOf?_code (m : Mode) : modeOf? m.code = some m := by cases m <;> rfl

theorem ownModeSet_code (b : Berth) (m : Mode) : ownModeSet b [m.code] = moveMode b m := by
  have named : modeOf? (byteAt [m.code] 0) = some m := modeOf?_code m
  simp only [ownModeSet, named]

theorem hostWrite_modeSet {s : State} {m : Mode} {b : Berth} {r : Res} (ready : PortReady s) (own : moveMode s.berth m = (b, r)) :
    hostWrite 0x60 [m.code] s = applied 0x60 b r s :=
  hostWrite_owned (code := 0x60) (lo := 1) (hi := 1) ready rfl rfl (by simp) (by simp) (by cases s.berth.mode <;> rfl)
    ((ownModeSet_code s.berth m).trans own)

/-- Settles O28. -/
theorem modeMoves : Obligations.ModeMoves := by
  refine ⟨⟨fun s ready => ⟨fun config fits => ?_, fun config => ?_, fun run idle => ?_, fun monitor => ?_⟩,
    fun b => ⟨moveMode_run_refused, fun c => moveMode_config_refused, fun run => moveMode_notConfig (Or.inl ⟨run, rfl⟩),
      fun monitor => moveMode_notConfig (Or.inr ⟨monitor, rfl⟩), moveMode_same⟩⟩, fun b idle => ?_⟩
  · exact congrArg _ (hostWrite_modeSet (m := .run) ready (moveMode_run config fits))
  · exact congrArg _ (hostWrite_modeSet (m := .monitor) ready (moveMode_monitor config))
  · exact congrArg _ (hostWrite_modeSet (m := .config) ready (moveMode_config run idle))
  · exact congrArg _ (hostWrite_modeSet (m := .config) ready (moveMode_fromMonitor monitor))
  · have qlc := enterConfigFromRun_qlc b
    refine ⟨enterConfigFromRun_mode b, enterConfigFromRun_waiters b, enterConfigFromRun_crane idle, fun c => ?_, fun g => ?_,
      ?_, fun g k => enterConfigFromRun_claim, enterConfigFromRun_activity b, ?_⟩
    · rw [qlc]; exact Vector.getElem_replicate ..
    · rw [qlc]; exact Vector.getElem_replicate ..
    · rw [qlc]; rfl
    · rw [qlc, boardEmptied_stations]

end Sys2Proof.Machine

/-! # The examination of the deck waiters (R70, R73; O50) -/

namespace Sys2Proof.Machine

/-! ## One waiter -/

/-- R73: a waiter's CLEARING claim at its bay, with DECK_CLEAR for its first task. -/
def grantWaiter (b : Berth) (w : Gang × Bay) : Berth :=
  let claimed := (b.removeWaiter w.1).setGangClaim w.1 (some { bay := w.2, standing := .clearing })
  match (b.gang w.1).tasks.head? with
  | some n => claimed.postGang w.1 (.deckClear n w.2)
  | none => claimed

theorem examineWaiter_granted {b : Berth} {w : Gang × Bay} (may : b.gangMayClaim w.2 = true) :
    examineWaiter b w = grantWaiter b w := if_pos may

theorem examineWaiter_blocked {b : Berth} {w : Gang × Bay} (mayNot : b.gangMayClaim w.2 = false) : examineWaiter b w = b :=
  if_neg (by simp [mayNot])

/-- A reading of no order slot. -/
theorem grantWaiter_keeps {α : Type} (f : Berth → α) (posted : ∀ (b : Berth) g o, f (b.postGang g o) = f b) (b : Berth)
    (w : Gang × Bay) :
    f (grantWaiter b w) = f ((b.removeWaiter w.1).setGangClaim w.1 (some { bay := w.2, standing := .clearing })) := by
  unfold grantWaiter
  dsimp only
  split
  · exact posted ..
  · rfl

theorem grantWaiter_claim (b : Berth) (w : Gang × Bay) :
    (grantWaiter b w).gangClaim w.1 = some { bay := w.2, standing := .clearing } := by
  rw [grantWaiter_keeps (fun b => b.gangClaim w.1) fun _ _ _ => rfl]
  exact Berth.gangClaim_setGangClaim ..

theorem grantWaiter_waiters (b : Berth) (w : Gang × Bay) :
    (grantWaiter b w).bct.waiters = b.bct.waiters.filter fun v => v.1 != w.1 :=
  grantWaiter_keeps (fun b => b.bct.waiters) (fun _ _ _ => rfl) b w

theorem grantWaiter_slot {b : Berth} {w : Gang × Bay} {n : TaskNo} (head : (b.gang w.1).tasks.head? = some n) :
    (grantWaiter b w).qlc.gangSlots[w.1] = (b.qlc.gangSlots[w.1]).post (.deckClear n w.2) b.now := by
  simp only [grantWaiter, head]
  exact modAt_same ..

theorem grantWaiter_otherSlot (b : Berth) {w : Gang × Bay} {g : Gang} (other : w.1 ≠ g) :
    (grantWaiter b w).qlc.gangSlots[g] = b.qlc.gangSlots[g] := by
  unfold grantWaiter
  dsimp only
  split
  · exact modAt_other _ _ _ _ other.symm
  · rfl

/-! ## A part of the list -/

theorem examineWaiter_keeps {α : Type} (f : Berth → α) (unread : ∀ (b : Berth) x y z,
    f { b with bct := { b.bct with gangClaims := x, waiters := y }, qlc := { b.qlc with gangSlots := z } } = f b) (b : Berth)
    (w : Gang × Bay) : f (examineWaiter b w) = f b := by
  rcases examineWaiter_cases b w with e | ⟨x, y, z, e⟩
  · rw [e]
  · rw [e, unread]

theorem examine_keeps {α : Type} (f : Berth → α) (unread : ∀ (b : Berth) x y z,
    f { b with bct := { b.bct with gangClaims := x, waiters := y }, qlc := { b.qlc with gangSlots := z } } = f b)
    (l : List (Gang × Bay)) (b : Berth) : f (l.foldl examineWaiter b) = f b :=
  foldl_keeps f _ (examineWaiter_keeps f unread) l b

theorem examine_otherSlot {g : Gang} (l : List (Gang × Bay)) (others : ∀ w ∈ l, w.1 ≠ g) (b : Berth) :
    (l.foldl examineWaiter b).qlc.gangSlots[g] = b.qlc.gangSlots[g] := by
  induction l generalizing b with
  | nil => rfl
  | cons w ws ih =>
    rw [List.foldl_cons, ih fun x mem => others x (List.mem_cons_of_mem _ mem)]
    cases may : b.gangMayClaim w.2 with
    | true => rw [examineWaiter_granted may, grantWaiter_otherSlot b (others w List.mem_cons_self)]
    | false => rw [examineWaiter_blocked may]

theorem examineWaiter_otherWaiter {b : Berth} {v w : Gang × Bay} (other : w.1 ≠ v.1) (listed : v ∈ b.bct.waiters) :
    v ∈ (examineWaiter b w).bct.waiters := by
  cases may : b.gangMayClaim w.2 with
  | true =>
    rw [examineWaiter_granted may, grantWaiter_waiters]
    exact List.mem_filter.2 ⟨listed, by simpa using other.symm⟩
  | false => rwa [examineWaiter_blocked may]

theorem examine_otherWaiter {v : Gang × Bay} (l : List (Gang × Bay)) (others : ∀ w ∈ l, w.1 ≠ v.1) {b : Berth}
    (listed : v ∈ b.bct.waiters) : v ∈ (l.foldl examineWaiter b).bct.waiters := by
  induction l generalizing b with
  | nil => exact listed
  | cons w ws ih =>
    exact ih (fun x mem => others x (List.mem_cons_of_mem _ mem)) (examineWaiter_otherWaiter (others w List.mem_cons_self) listed)

theorem examineWaiter_sublist (b : Berth) (w : Gang × Bay) : (examineWaiter b w).bct.waiters.Sublist b.bct.waiters := by
  cases may : b.gangMayClaim w.2 with
  | true =>
    rw [examineWaiter_granted may, grantWaiter_waiters]
    exact List.filter_sublist
  | false => rw [examineWaiter_blocked may]

theorem examine_sublist (l : List (Gang × Bay)) (b : Berth) : (l.foldl examineWaiter b).bct.waiters.Sublist b.bct.waiters :=
  foldl_kept (P := fun b' : Berth => b'.bct.waiters.Sublist b.bct.waiters)
    (fun b w kept => (examineWaiter_sublist b w).trans kept) l (List.Sublist.refl _)

/-- R73: an examination makes CLEARING claims of waiters at their bays only. -/
theorem examine_claim {l : List (Gang × Bay)} {b : Berth} {g : Gang} {k : GangClaim}
    (claim : (l.foldl examineWaiter b).gangClaim g = some k) :
    b.gangClaim g = some k ∨ ((g, k.bay) ∈ l ∧ k.standing = .clearing) := by
  induction l generalizing b with
  | nil => exact Or.inl claim
  | cons w ws ih =>
    rcases ih claim with before | ⟨listed, clearing⟩
    · by_cases own : w.1 = g
      · cases may : b.gangMayClaim w.2 with
        | true =>
          subst own
          rw [examineWaiter_granted may, grantWaiter_claim] at before
          obtain rfl := Option.some.inj before
          exact Or.inr ⟨List.mem_cons_self, rfl⟩
        | false =>
          rw [examineWaiter_blocked may] at before
          exact Or.inl before
      · rw [examineWaiter_otherClaim b own] at before
        exact Or.inl before
    · exact Or.inr ⟨List.mem_cons_of_mem _ listed, clearing⟩

/-- R70: where more claims stand, fewer may be added. -/
theorem gangMayClaim_anti {b b' : Berth} {bay : Bay} (params : b'.params = b.params)
    (cranes : b'.bct.craneClaims = b.bct.craneClaims) (stand : ∀ g k, b.gangClaim g = some k → b'.gangClaim g = some k)
    (mayNot : b.gangMayClaim bay = false) : b'.gangMayClaim bay = false := by
  rw [← Bool.not_eq_true] at mayNot ⊢
  refine fun may => mayNot ?_
  obtain ⟨clear, free⟩ := gangMayClaim_iff.1 may
  refine gangMayClaim_iff.2 ⟨fun c x claim => ?_, fun g k claim => free g k (stand g k claim)⟩
  have near := clear c x (by rw [Berth.craneClaim, cranes]; exact claim)
  rwa [Berth.withinMargin, params] at near

/-! ## The list of gangs that wait once and hold no claim -/

/-- R71: no gang waits twice, and none that waits holds a claim. -/
structure WaitersApart (b : Berth) (l : List (Gang × Bay)) : Prop where
  once : (l.map (·.1)).Nodup
  unclaimed : ∀ w ∈ l, b.gangClaim w.1 = none

namespace WaitersApart

variable {b : Berth} {xs ys : List (Gang × Bay)} {w : Gang × Bay}

theorem stands {l : List (Gang × Bay)} (h : WaitersApart b l) {g : Gang} {k : GangClaim} (claim : b.gangClaim g = some k) :
    (l.foldl examineWaiter b).gangClaim g = some k := by
  rw [examine_otherClaims l (fun v mem e => ?_), claim]
  rw [← e, h.unclaimed v mem] at claim
  cases claim

theorem earlier (h : WaitersApart b (xs ++ w :: ys)) : ∀ x ∈ xs, x.1 ≠ w.1 := fun x mem e =>
  (List.nodup_append.1 (by simpa using h.once)).2.2 x.1 (List.mem_map_of_mem mem) w.1 (by simp) e

theorem later (h : WaitersApart b (xs ++ w :: ys)) : ∀ y ∈ ys, y.1 ≠ w.1 := fun y mem e => by
  have tail := (List.nodup_append.1 (show (xs.map (·.1) ++ w.1 :: ys.map (·.1)).Nodup by simpa using h.once)).2.1
  exact (List.nodup_cons.1 tail).1 (e ▸ List.mem_map_of_mem mem)

/-- The rest of the list is apart once its beginning has been examined. -/
theorem rest (h : WaitersApart b (xs ++ ys)) : WaitersApart (xs.foldl examineWaiter b) ys := by
  have once : (xs.map (·.1) ++ ys.map (·.1)).Nodup := by simpa using h.once
  obtain ⟨-, tail, disjoint⟩ := List.nodup_append.1 once
  refine ⟨tail, fun y mem => ?_⟩
  rw [examine_otherClaims xs fun x first e => disjoint x.1 (List.mem_map_of_mem first) y.1 (List.mem_map_of_mem mem) e]
  exact h.unclaimed y (List.mem_append_right _ mem)

/-- R73: a waiter whose bay may be claimed at its turn. -/
theorem granted (h : WaitersApart b (xs ++ w :: ys)) (may : (xs.foldl examineWaiter b).gangMayClaim w.2 = true) :
    ((xs ++ w :: ys).foldl examineWaiter b).gangClaim w.1 = some { bay := w.2, standing := .clearing }
    ∧ w ∉ ((xs ++ w :: ys).foldl examineWaiter b).bct.waiters
    ∧ ∀ n, (b.gang w.1).tasks.head? = some n →
      ((xs ++ w :: ys).foldl examineWaiter b).qlc.gangSlots[w.1] =
        (b.qlc.gangSlots[w.1]).post (.deckClear n w.2) b.now := by
  rw [List.foldl_append, List.foldl_cons, examineWaiter_granted may]
  refine ⟨?_, fun listed => ?_, fun n head => ?_⟩
  · rw [examine_otherClaims ys h.later, grantWaiter_claim]
  · have left := examine_waiters ys _ listed
    rw [grantWaiter_waiters] at left
    simpa using (List.mem_filter.1 left).2
  · have gang : (xs.foldl examineWaiter b).gang w.1 = b.gang w.1 := examine_keeps (fun b => b.gang w.1) (fun _ _ _ _ => rfl) xs b
    have now : (xs.foldl examineWaiter b).now = b.now := examine_keeps (fun b => b.now) (fun _ _ _ _ => rfl) xs b
    rw [examine_otherSlot ys h.later, grantWaiter_slot (by rw [gang]; exact head), examine_otherSlot xs h.earlier, now]

/-- R73: a waiter whose bay may not be claimed at its turn keeps its place. -/
theorem kept (h : WaitersApart b (xs ++ w :: ys)) (listed : w ∈ b.bct.waiters)
    (mayNot : (xs.foldl examineWaiter b).gangMayClaim w.2 = false) :
    w ∈ ((xs ++ w :: ys).foldl examineWaiter b).bct.waiters := by
  rw [List.foldl_append, List.foldl_cons, examineWaiter_blocked mayNot]
  exact examine_otherWaiter ys h.later (examine_otherWaiter xs h.earlier listed)

/-- R73: the bay of a waiter left behind may not be claimed. -/
theorem leftBehind (h : WaitersApart b (xs ++ w :: ys)) (left : w ∈ ((xs ++ w :: ys).foldl examineWaiter b).bct.waiters) :
    ((xs ++ w :: ys).foldl examineWaiter b).gangMayClaim w.2 = false := by
  have mayNot : (xs.foldl examineWaiter b).gangMayClaim w.2 = false := by
    cases may : (xs.foldl examineWaiter b).gangMayClaim w.2 with
    | false => rfl
    | true => exact absurd left (h.granted may).2.1
  rw [List.foldl_append]
  exact gangMayClaim_anti (examine_keeps (fun b => b.params) (fun _ _ _ _ => rfl) _ _)
    (examine_keeps (fun b => b.bct.craneClaims) (fun _ _ _ _ => rfl) _ _) (fun g k => h.rest.stands) mayNot

end WaitersApart

/-- Settles O50. -/
theorem waiterExamination : Obligations.WaiterExamination := by
  refine ⟨fun b c g => ⟨rfl, rfl⟩, fun b bay => ?_, fun b => ⟨examineWaiters_bct_craneClaims b, examine_sublist _ b,
    fun g k => examine_claim⟩, fun s kept => ?_⟩
  · simp only [gangMayClaim_iff, withinMargin_false]
  · intro b b'
    obtain ⟨-, -, -, -, -, once, unclaimed, -⟩ := kept
    have apart : WaitersApart b b.bct.waiters := ⟨once, unclaimed⟩
    refine ⟨fun g k => apart.stands, fun xs w ys split => ?_, fun w left => ?_⟩
    · have examined : b' = (xs ++ w :: ys).foldl examineWaiter b := congrArg (List.foldl examineWaiter b) split
      have listed : w ∈ b.bct.waiters := by rw [split]; simp
      rw [split] at apart
      rw [examined]
      exact ⟨apart.granted, apart.kept listed⟩
    · obtain ⟨xs, ys, split⟩ := List.append_of_mem (examine_waiters _ b left)
      have examined : b' = (xs ++ w :: ys).foldl examineWaiter b := congrArg (List.foldl examineWaiter b) split
      rw [split] at apart
      rw [examined] at left ⊢
      exact apart.leftBehind left

end Sys2Proof.Machine

/-! # Gangs in agreement with their tasks and their deck entries

`GangsKept` gang by gang: what one gang's record, list, claim and waiter entries say together, and what the gangs share. -/

namespace Sys2Proof.Machine

/-- The tasks of a list are QUEUED. -/
def Berth.allQueued (b : Berth) (l : List TaskNo) : Prop := ∀ n ∈ l, ∃ t, b.task? n = some t ∧ t.state = .queued

/-- R70, R72, R117, R131: what the records of one gang say together. -/
structure GangInOrder (b : Berth) (g : Gang) : Prop where
  nodup : (b.gang g).tasks.Nodup
  listed : ∀ n ∈ (b.gang g).tasks, ∃ t, b.task? n = some t ∧ t.state ≠ .opened
  queued : b.allQueued (b.gang g).tasks.tail
  dispatched : ∀ t, b.firstTask g = some t → t.state = .dispatched →
    (b.gang g).activity = .assigned ∨ (b.gang g).activity = .waitDeck
  active : ∀ t, b.firstTask g = some t → t.state = .active →
    (b.gang g).activity = .onDeck ∧ b.gangClaim g = some { bay := t.bay, standing := .confirmed }
  confirmed : ∀ bay, b.gangClaim g = some { bay, standing := .confirmed } → (b.gang g).activity = .onDeck
  asks : ∀ bay, (b.gangClaim g = some { bay, standing := .clearing } ∨ (g, bay) ∈ b.bct.waiters) →
    (b.gang g).activity = .waitDeck ∧ ∃ t, b.firstTask g = some t ∧ t.state = .dispatched ∧ t.bay = bay
  waits : ∀ bay, (g, bay) ∈ b.bct.waiters → b.gangClaim g = none
  offDuty : (b.gang g).onDuty = false → (b.gang g).activity = .idle ∧ (b.gang g).tasks = []

/-- R117: task numbers ascend, no task is on two lists, and no gang waits twice. -/
structure ListsApart (b : Berth) : Prop where
  numbers : (b.ltu.tasks.map fun t => t.number.toNat).Pairwise (· < ·)
  apart : ∀ g h, h ≠ g → ∀ n ∈ (b.gang g).tasks, n ∉ (b.gang h).tasks
  once : (b.bct.waiters.map (·.1)).Nodup

/-- `GangsKept`, of the berth. -/
structure GangsInOrder (b : Berth) : Prop extends ListsApart b where
  gangs : ∀ g, GangInOrder b g

/-- All gangs are in order but for one that a step is still changing. -/
structure InOrderBut (b : Berth) (g : Gang) : Prop extends ListsApart b where
  others : ∀ h, h ≠ g → GangInOrder b h

theorem gangsKept_iff (s : State) : GangsKept s ↔ GangsInOrder s.berth := by
  constructor
  · rintro ⟨numbers, lists, first, confirmed, asks, once, unclaimed, offDuty⟩
    refine ⟨⟨numbers, fun g h other n mem => (lists g).2.2.2 h other n mem, once⟩, fun g => ?_⟩
    obtain ⟨nodup, listed, queued, -⟩ := lists g
    exact ⟨nodup, listed, queued, fun t head => (first g t head).1, fun t head => (first g t head).2, confirmed g, asks g,
      fun bay mem => unclaimed _ mem, offDuty g⟩
  · rintro ⟨⟨numbers, apart, once⟩, gangs⟩
    refine ⟨numbers, fun g => ?_, fun g t head => ?_, fun g => (gangs g).confirmed, fun g => (gangs g).asks, once,
      fun w mem => (gangs w.1).waits w.2 mem, fun g => (gangs g).offDuty⟩
    · exact ⟨(gangs g).nodup, (gangs g).listed, (gangs g).queued, apart g⟩
    · exact ⟨(gangs g).dispatched t head, (gangs g).active t head⟩

theorem GangsInOrder.but {b : Berth} (h : GangsInOrder b) (g : Gang) : InOrderBut b g := ⟨h.toListsApart, fun f _ => h.gangs f⟩

theorem InOrderBut.restored {b : Berth} {g : Gang} (h : InOrderBut b g) (own : GangInOrder b g) : GangsInOrder b := by
  refine ⟨h.toListsApart, fun f => ?_⟩
  by_cases here : f = g
  · exact here ▸ own
  · exact h.others f here

theorem Berth.allQueued.congr {b b' : Berth} {l : List TaskNo} (h : b.allQueued l) (same : ∀ n ∈ l, b'.task? n = b.task? n) :
    b'.allQueued l := fun n mem => by
  rw [same n mem]
  exact h n mem

theorem Berth.allQueued.subset {b : Berth} {l m : List TaskNo} (h : b.allQueued l) (sub : m ⊆ l) : b.allQueued m :=
  fun n mem => h n (sub mem)

/-! ## A gang that a change does not reach -/

/-- What the rules of gangs read in a task. -/
def Task.standing (t : Task) : TaskState × Bay := (t.state, t.bay)

/-- The records of a gang stand as they did. -/
structure Untouched (b b' : Berth) (g : Gang) : Prop where
  gang : b'.gang g = b.gang g
  tasks : ∀ n ∈ (b.gang g).tasks, (b'.task? n).map Task.standing = (b.task? n).map Task.standing
  claim : b'.gangClaim g = b.gangClaim g
  waits : ∀ bay, (g, bay) ∈ b'.bct.waiters ↔ (g, bay) ∈ b.bct.waiters

namespace Untouched

variable {b b' : Berth} {g : Gang} (u : Untouched b b' g)
include u

theorem symm : Untouched b' b g :=
  ⟨u.gang.symm, fun n mem => (u.tasks n (u.gang ▸ mem)).symm, u.claim.symm, fun bay => (u.waits bay).symm⟩

theorem task {n : TaskNo} {t : Task} (mem : n ∈ (b.gang g).tasks) (found : b.task? n = some t) :
    ∃ t', b'.task? n = some t' ∧ t'.state = t.state ∧ t'.bay = t.bay := by
  have same := u.tasks n mem
  rw [found, Option.map_some, Option.map_eq_some_iff] at same
  obtain ⟨t', found', standing⟩ := same
  obtain ⟨state, bay⟩ := Prod.mk.inj standing
  exact ⟨t', found', state, bay⟩

theorem allQueued {l : List TaskNo} (sub : l ⊆ (b.gang g).tasks) (h : b.allQueued l) : b'.allQueued l := fun n mem => by
  obtain ⟨t, found, queued⟩ := h n mem
  obtain ⟨t', found', state, -⟩ := u.task (sub mem) found
  exact ⟨t', found', state.trans queued⟩

theorem first {t : Task} (head : b.firstTask g = some t) :
    ∃ t', b'.firstTask g = some t' ∧ t'.state = t.state ∧ t'.bay = t.bay := by
  obtain ⟨list, found⟩ := firstTask_head head
  obtain ⟨t', found', standing⟩ := u.task (firstTask_mem head) found
  refine ⟨t', ?_, standing⟩
  rw [Berth.firstTask, u.gang, list]
  exact found'

end Untouched

theorem GangInOrder.untouched {b b' : Berth} {g : Gang} (h : GangInOrder b g) (u : Untouched b b' g) : GangInOrder b' g := by
  have entry : ∀ bay, (b'.gangClaim g = some { bay, standing := .clearing } ∨ (g, bay) ∈ b'.bct.waiters) →
      b.gangClaim g = some { bay, standing := .clearing } ∨ (g, bay) ∈ b.bct.waiters := fun bay => by
    rw [u.claim, u.waits bay]
    exact id
  refine ⟨u.gang ▸ h.nodup, fun n mem => ?_, ?_, fun t head dispatched => ?_, fun t head active => ?_, fun bay claim => ?_,
    fun bay asks => ?_, fun bay mem => ?_, u.gang ▸ h.offDuty⟩
  · rw [u.gang] at mem
    obtain ⟨t, found, listed⟩ := h.listed n mem
    obtain ⟨t', found', state, -⟩ := u.task mem found
    exact ⟨t', found', state ▸ listed⟩
  · rw [u.gang]
    exact u.allQueued (List.tail_subset _) h.queued
  · obtain ⟨t₀, head₀, state, -⟩ := u.symm.first head
    rw [u.gang]
    exact h.dispatched t₀ head₀ (state.trans dispatched)
  · obtain ⟨t₀, head₀, state, bay⟩ := u.symm.first head
    rw [u.gang, u.claim, ← bay]
    exact h.active t₀ head₀ (state.trans active)
  · rw [u.gang]
    exact h.confirmed bay (u.claim ▸ claim)
  · obtain ⟨activity, t, head, dispatched, at_⟩ := h.asks bay (entry bay asks)
    obtain ⟨t', head', state, bay'⟩ := u.first head
    exact ⟨u.gang ▸ activity, t', head', state.trans dispatched, bay'.trans at_⟩
  · rw [u.claim]
    exact h.waits bay ((u.waits bay).1 mem)

/-! ## What a gang in order says -/

namespace GangInOrder

variable {b : Berth} {g : Gang} (h : GangInOrder b g)
include h

/-- The list of a gang with a first task. -/
theorem list {t : Task} (first : b.firstTask g = some t) : ∃ rest, (b.gang g).tasks = t.number :: rest
    ∧ t.number ∉ rest ∧ rest.Nodup ∧ b.allQueued rest := by
  obtain ⟨rest, list⟩ := List.head?_eq_some_iff.1 (firstTask_head first).1
  have nodup := h.nodup
  have queued := h.queued
  rw [list] at nodup queued
  obtain ⟨new, nodup⟩ := List.nodup_cons.1 nodup
  exact ⟨rest, list, new, nodup, queued⟩

theorem onDuty {n : TaskNo} (mem : n ∈ (b.gang g).tasks) : (b.gang g).onDuty = true := by
  cases duty : (b.gang g).onDuty with
  | true => rfl
  | false => rw [(h.offDuty duty).2] at mem; cases mem

/-- A task on the list that is not QUEUED is the first one. -/
theorem first_of_unqueued {n : TaskNo} {t : Task} (mem : n ∈ (b.gang g).tasks) (found : b.task? n = some t)
    (unqueued : t.state ≠ .queued) : b.firstTask g = some t := by
  cases list : (b.gang g).tasks with
  | nil => rw [list] at mem; cases mem
  | cons m rest =>
    rw [list] at mem
    rcases List.mem_cons.1 mem with rfl | later
    · rw [Berth.firstTask, list]
      exact found
    · obtain ⟨t', found', queued⟩ := h.queued n (by rw [list]; exact later)
      obtain rfl := Option.some.inj (found.symm.trans found')
      exact absurd queued unqueued

/-- A task on the list is QUEUED or the first one. -/
theorem allQueued_of_first (queued : ∀ t, b.firstTask g = some t → t.state = .queued) : b.allQueued (b.gang g).tasks := by
  intro n mem
  obtain ⟨t, found, -⟩ := h.listed n mem
  refine ⟨t, found, ?_⟩
  by_contra unqueued
  exact unqueued (queued t (h.first_of_unqueued mem found unqueued))

/-- R118: a listed task that is neither DISPATCHED nor ACTIVE is QUEUED. -/
theorem first_queued {t : Task} (first : b.firstTask g = some t) (undispatched : t.state ≠ .dispatched)
    (inactive : t.state ≠ .active) : t.state = .queued := by
  obtain ⟨u, found, unopened⟩ := h.listed t.number (firstTask_mem first)
  obtain rfl := Option.some.inj ((firstTask_head first).2.symm.trans found)
  cases state : t.state with
  | opened => exact absurd state unopened
  | queued => rfl
  | dispatched => exact absurd state undispatched
  | active => exact absurd state inactive

/-- R72, R131: a gang that neither works on deck nor waits for it has no entry in the Bay Claim Table. -/
theorem unclaimed (activity : (b.gang g).activity ≠ .onDeck) (settled : (b.gang g).activity ≠ .waitDeck) :
    b.gangClaim g = none := by
  cases claim : b.gangClaim g with
  | none => rfl
  | some k =>
    obtain ⟨bay, standing⟩ := k
    cases standing with
    | confirmed => exact absurd (h.confirmed bay claim) activity
    | clearing => exact absurd (h.asks bay (Or.inl claim)).1 settled

theorem unlisted (settled : (b.gang g).activity ≠ .waitDeck) (bay : Bay) : (g, bay) ∉ b.bct.waiters :=
  fun mem => settled (h.asks bay (Or.inr mem)).1

theorem unlisted_of_claim {k : GangClaim} (claim : b.gangClaim g = some k) (bay : Bay) : (g, bay) ∉ b.bct.waiters := fun mem => by
  rw [h.waits bay mem] at claim
  cases claim

end GangInOrder

/-! ## The three standings of a gang -/

section

variable {b : Berth} {g : Gang}

/-- A gang with no task at hand: each task of its list is QUEUED. -/
theorem GangInOrder.resting (nodup : (b.gang g).tasks.Nodup) (queued : b.allQueued (b.gang g).tasks)
    (claim : ∀ k, b.gangClaim g = some k → k.standing = .confirmed ∧ (b.gang g).activity = .onDeck)
    (unlisted : ∀ bay, (g, bay) ∉ b.bct.waiters)
    (offDuty : (b.gang g).onDuty = false → (b.gang g).activity = .idle ∧ (b.gang g).tasks = []) : GangInOrder b g := by
  have state : ∀ t, b.firstTask g = some t → t.state = .queued := fun t first => by
    obtain ⟨u, found, isQueued⟩ := queued t.number (firstTask_mem first)
    obtain rfl := Option.some.inj ((firstTask_head first).2.symm.trans found)
    exact isQueued
  refine ⟨nodup, fun n mem => ?_, queued.subset (List.tail_subset _), fun t first s => ?_, fun t first s => ?_,
    fun bay held => (claim _ held).2, fun bay asks => ?_, fun bay mem => absurd mem (unlisted bay), offDuty⟩
  · obtain ⟨t, found, isQueued⟩ := queued n mem
    exact ⟨t, found, by rw [isQueued]; decide⟩
  · exact absurd ((state t first).symm.trans s) (by decide)
  · exact absurd ((state t first).symm.trans s) (by decide)
  · rcases asks with clearing | mem
    · exact absurd (claim _ clearing).1 (by simp)
    · exact absurd mem (unlisted bay)

variable {t : Task} {rest : List TaskNo} (list : (b.gang g).tasks = t.number :: rest) (new : t.number ∉ rest)
  (nodup : rest.Nodup) (queued : b.allQueued rest) (found : b.task? t.number = some t) (duty : (b.gang g).onDuty = true)
include list new nodup queued found duty

/-- A gang with its first task at hand, by what its activity, its claim and its waiter entries are. -/
theorem GangInOrder.withFirst (unopened : t.state ≠ .opened)
    (dispatched : t.state = .dispatched → (b.gang g).activity = .assigned ∨ (b.gang g).activity = .waitDeck)
    (active : t.state = .active → (b.gang g).activity = .onDeck ∧ b.gangClaim g = some { bay := t.bay, standing := .confirmed })
    (confirmed : ∀ bay, b.gangClaim g = some { bay, standing := .confirmed } → (b.gang g).activity = .onDeck)
    (asks : ∀ bay, (b.gangClaim g = some { bay, standing := .clearing } ∨ (g, bay) ∈ b.bct.waiters) →
      (b.gang g).activity = .waitDeck ∧ t.state = .dispatched ∧ t.bay = bay)
    (waits : ∀ bay, (g, bay) ∈ b.bct.waiters → b.gangClaim g = none) : GangInOrder b g := by
  have first : b.firstTask g = some t := by rw [Berth.firstTask, list]; exact found
  have only : ∀ u, b.firstTask g = some u → u = t := fun u head => Option.some.inj (head.symm.trans first)
  refine ⟨by rw [list]; exact List.nodup_cons.2 ⟨new, nodup⟩, fun n mem => ?_, by rw [list]; exact queued,
    fun u head => only u head ▸ dispatched, fun u head => only u head ▸ active, confirmed, fun bay ask => ?_, waits,
    fun off => by rw [duty] at off; cases off⟩
  · rw [list] at mem
    rcases List.mem_cons.1 mem with rfl | later
    · exact ⟨t, found, unopened⟩
    · obtain ⟨u, found, isQueued⟩ := queued n later
      exact ⟨u, found, by rw [isQueued]; decide⟩
  · obtain ⟨activity, state, bay⟩ := asks bay ask
    exact ⟨activity, t, first, state, bay⟩

/-- A gang that is ON_DECK with its first task ACTIVE. -/
theorem GangInOrder.onDeck (state : t.state = .active) (activity : (b.gang g).activity = .onDeck)
    (claim : b.gangClaim g = some { bay := t.bay, standing := .confirmed }) (unlisted : ∀ bay, (g, bay) ∉ b.bct.waiters) :
    GangInOrder b g := by
  refine .withFirst list new nodup queued found duty (by rw [state]; decide) (fun s => ?_) (fun _ => ⟨activity, claim⟩)
    (fun _ _ => activity) (fun bay ask => ?_) fun bay mem => absurd mem (unlisted bay)
  · exact absurd (state.symm.trans s) (by decide)
  · rcases ask with clearing | mem
    · exact absurd (congrArg (·.map GangClaim.standing) (claim.symm.trans clearing)) (by simp)
    · exact absurd mem (unlisted bay)

/-- A gang that is called to its first task, and may wait for the deck there. -/
theorem GangInOrder.called (state : t.state = .dispatched)
    (activity : (b.gang g).activity = .assigned ∨ (b.gang g).activity = .waitDeck)
    (claim : ∀ k, b.gangClaim g = some k → k = { bay := t.bay, standing := .clearing } ∧ (b.gang g).activity = .waitDeck)
    (waits : ∀ bay, (g, bay) ∈ b.bct.waiters → b.gangClaim g = none ∧ (b.gang g).activity = .waitDeck ∧ t.bay = bay) :
    GangInOrder b g := by
  refine .withFirst list new nodup queued found duty (by rw [state]; decide) (fun _ => activity) (fun s => ?_) (fun bay held => ?_)
    (fun bay ask => ?_) fun bay mem => (waits bay mem).1
  · exact absurd (state.symm.trans s) (by decide)
  · exact absurd (congrArg GangClaim.standing (claim _ held).1) (by simp)
  · rcases ask with clearing | mem
    · obtain ⟨same, waitDeck⟩ := claim _ clearing
      exact ⟨waitDeck, state, (congrArg GangClaim.bay same).symm⟩
    · exact ⟨(waits bay mem).2.1, state, (waits bay mem).2.2⟩

end

/-- R128: QUEUED tasks leave the list of a gang, which is as it was for the rest. -/
theorem GangInOrder.shrunk {b b' : Berth} {g : Gang} {p : TaskNo → Bool} (h : GangInOrder b g)
    (list : (b'.gang g).tasks = (b.gang g).tasks.filter p) (activity : (b'.gang g).activity = (b.gang g).activity)
    (duty : (b'.gang g).onDuty = (b.gang g).onDuty)
    (gone : ∀ n ∈ (b.gang g).tasks, p n = false → ∃ t, b.task? n = some t ∧ t.state = .queued)
    (kept : ∀ n ∈ (b.gang g).tasks, p n = true → b'.task? n = b.task? n) (claim : b'.gangClaim g = b.gangClaim g)
    (waits : b'.bct.waiters ⊆ b.bct.waiters) : GangInOrder b' g := by
  have mem' : ∀ n, n ∈ (b'.gang g).tasks → n ∈ (b.gang g).tasks ∧ b'.task? n = b.task? n := fun n mem => by
    rw [list, List.mem_filter] at mem
    exact ⟨mem.1, kept n mem.1 mem.2⟩
  have firstBack : ∀ t, b'.firstTask g = some t → t.state ≠ .queued → b.firstTask g = some t := fun t first unqueued => by
    obtain ⟨mem, same⟩ := mem' _ (firstTask_mem first)
    exact h.first_of_unqueued mem (same.symm.trans (firstTask_head first).2) unqueued
  have firstOn : ∀ t, b.firstTask g = some t → t.state ≠ .queued → b'.firstTask g = some t := fun t first unqueued => by
    obtain ⟨rest, tasks, -⟩ := h.list first
    have found := (firstTask_head first).2
    have stays : p t.number = true := by
      by_contra goes
      obtain ⟨u, found', queued⟩ := gone t.number (firstTask_mem first) (by simpa using goes)
      obtain rfl := Option.some.inj (found.symm.trans found')
      exact unqueued queued
    rw [Berth.firstTask, list, tasks, List.filter_cons_of_pos stays]
    exact (kept _ (firstTask_mem first) stays).trans found
  have tail : ∀ n ∈ (b'.gang g).tasks.tail, n ∈ (b.gang g).tasks.tail := by
    rw [list]
    cases (b.gang g).tasks with
    | nil => simp
    | cons m rest =>
      intro n mem
      rw [List.filter_cons] at mem
      split at mem
      · exact List.mem_of_mem_filter mem
      · exact List.mem_of_mem_filter (List.mem_of_mem_tail mem)
  refine ⟨list ▸ h.nodup.filter p, fun n mem => ?_, fun n mem => ?_, fun t first s => ?_, fun t first s => ?_, fun bay held => ?_,
    fun bay ask => ?_, fun bay mem => ?_, fun off => ?_⟩
  · rw [(mem' n mem).2]
    exact h.listed n (mem' n mem).1
  · rw [(mem' n (List.mem_of_mem_tail mem)).2]
    exact h.queued n (tail n mem)
  · rw [activity]
    exact h.dispatched t (firstBack t first (by rw [s]; decide)) s
  · rw [activity, claim]
    exact h.active t (firstBack t first (by rw [s]; decide)) s
  · rw [activity]
    exact h.confirmed bay (claim ▸ held)
  · rw [claim] at ask
    obtain ⟨waitDeck, t, first, s, bay'⟩ := h.asks bay (ask.imp_right fun mem => waits mem)
    exact ⟨activity ▸ waitDeck, t, firstOn t first (by rw [s]; decide), s, bay'⟩
  · rw [claim]
    exact h.waits bay (waits mem)
  · obtain ⟨idle, empty⟩ := h.offDuty (duty ▸ off)
    exact ⟨activity ▸ idle, by rw [list, empty]; rfl⟩

end Sys2Proof.Machine

/-! # Changes that reach one gang alone

A step that changes the records of one gang leaves the others in order, and the examination that follows a released claim
leaves each gang in order that was. -/

namespace Sys2Proof.Machine

/-! ## The examination (R73) -/

/-- R73: what an examination makes of one waiter keeps the gangs in order. -/
theorem GangInOrder.examineWaiter {b : Berth} {w : Gang × Bay} (listed : w ∈ b.bct.waiters) {g : Gang} (h : GangInOrder b g) :
    GangInOrder (examineWaiter b w) g := by
  cases may : b.gangMayClaim w.2 with
  | false => rwa [examineWaiter_blocked may]
  | true =>
    have ltu : (grantWaiter b w).ltu = b.ltu := grantWaiter_keeps (fun b => b.ltu) (fun _ _ _ => rfl) b w
    have gang : (grantWaiter b w).gang g = b.gang g := congrArg (fun x => x.gangs[g]) ltu
    have task : ∀ n, (grantWaiter b w).task? n = b.task? n := task?_congr (congrArg (·.tasks) ltu)
    rw [examineWaiter_granted may]
    by_cases own : g = w.1
    · subst own
      obtain ⟨activity, t, first, dispatched, bay⟩ := h.asks w.2 (Or.inr listed)
      obtain ⟨rest, list, new, nodup, queued⟩ := h.list first
      have unlisted : ∀ bay, (w.1, bay) ∉ (grantWaiter b w).bct.waiters := fun bay mem => by
        rw [grantWaiter_waiters] at mem
        simpa using (List.mem_filter.1 mem).2
      rw [← gang] at activity
      refine .called (gang ▸ list) new nodup (queued.congr fun n _ => task n) ((task _).trans (firstTask_head first).2)
        (gang ▸ h.onDuty (firstTask_mem first)) dispatched (Or.inr activity) (fun k claim => ?_)
        fun bay mem => absurd mem (unlisted bay)
      rw [grantWaiter_claim, ← bay] at claim
      exact ⟨(Option.some.inj claim).symm, activity⟩
    · refine h.untouched ⟨gang, fun n _ => congrArg _ (task n), ?_, fun bay => ?_⟩
      · rw [grantWaiter_keeps (fun b => b.gangClaim g) fun _ _ _ => rfl]
        exact Berth.gangClaim_setGangClaim_other _ _ _ _ own
      · rw [grantWaiter_waiters, List.mem_filter]
        exact and_iff_left (by simpa using own)

/-- R73: an examination keeps each gang in order. -/
theorem GangInOrder.examine {g : Gang} {l : List (Gang × Bay)} (once : (l.map (·.1)).Nodup) {b : Berth}
    (listed : ∀ w ∈ l, w ∈ b.bct.waiters) (h : GangInOrder b g) : GangInOrder (l.foldl Machine.examineWaiter b) g := by
  induction l generalizing b with
  | nil => exact h
  | cons w ws ih =>
    obtain ⟨new, once⟩ := List.nodup_cons.1 once
    refine ih once (fun v mem => ?_) (h.examineWaiter (listed w List.mem_cons_self))
    have other : w.1 ≠ v.1 := fun e => new (show w.1 ∈ ws.map (·.1) from e ▸ List.mem_map_of_mem mem)
    exact examineWaiter_otherWaiter other (listed v (List.mem_cons_of_mem _ mem))

/-! ## Lists apart -/

/-- A task is on no other gang's list. -/
def Berth.notElsewhere (b : Berth) (g : Gang) (n : TaskNo) : Prop := ∀ h, h ≠ g → n ∉ (b.gang h).tasks

namespace ListsApart

variable {b b' : Berth}

theorem notElsewhere (h : ListsApart b) {g : Gang} {n : TaskNo} (mem : n ∈ (b.gang g).tasks) : b.notElsewhere g n :=
  fun f other => h.apart g f other n mem

/-- The lists of all gangs but one stand. -/
theorem change (h : ListsApart b) {g : Gang} (numbers : (b'.ltu.tasks.map fun t => t.number.toNat).Pairwise (· < ·))
    (own : ∀ n ∈ (b'.gang g).tasks, b.notElsewhere g n) (others : ∀ f, f ≠ g → (b'.gang f).tasks = (b.gang f).tasks)
    (once : (b'.bct.waiters.map (·.1)).Nodup) : ListsApart b' := by
  refine ⟨numbers, fun f f' other n mem mem' => ?_, once⟩
  by_cases here : f = g
  · subst here
    rw [others f' other] at mem'
    exact own n mem f' other mem'
  · rw [others f here] at mem
    by_cases there : f' = g
    · subst there
      exact own n mem' f here mem
    · rw [others f' there] at mem'
      exact h.apart f f' other n mem mem'

theorem examineWaiters (h : ListsApart b) : ListsApart (examineWaiters b) := by
  have gang : ∀ f, (Machine.examineWaiters b).gang f = b.gang f := fun f => by simp only [Berth.gang, examineWaiters_ltu]
  refine ⟨by rw [examineWaiters_ltu]; exact h.numbers, fun f f' other n mem => ?_, ?_⟩
  · rw [gang] at mem ⊢
    exact h.apart f f' other n mem
  · exact h.once.sublist ((examine_sublist b.bct.waiters b).map _)

end ListsApart

/-! ## One gang's records -/

theorem GangsInOrder.examineWaiters {b : Berth} (h : GangsInOrder b) : GangsInOrder (examineWaiters b) :=
  ⟨h.toListsApart.examineWaiters, fun g => (h.gangs g).examine h.once fun _ => id⟩

namespace InOrderBut

variable {b b' : Berth} {g : Gang} (h : InOrderBut b g)
include h

/-- What leaves the records of the other gangs untouched leaves them in order. -/
theorem change (numbers : (b'.ltu.tasks.map fun t => t.number.toNat).Pairwise (· < ·))
    (own : ∀ n ∈ (b'.gang g).tasks, b.notElsewhere g n) (once : (b'.bct.waiters.map (·.1)).Nodup)
    (others : ∀ f, f ≠ g → Untouched b b' f) : InOrderBut b' g :=
  ⟨h.toListsApart.change numbers own (fun f other => congrArg (·.tasks) (others f other).gang) once,
    fun f other => (h.others f other).untouched (others f other)⟩

theorem modGang {f : GangRec → GangRec} (own : ∀ n ∈ (f (b.gang g)).tasks, b.notElsewhere g n) : InOrderBut (b.modGang g f) g :=
  h.change h.numbers (by rw [Berth.gang_modGang]; exact own) h.once fun _ other =>
    ⟨Berth.gang_modGang_other _ _ _ _ other, fun _ _ => rfl, rfl, fun _ => Iff.rfl⟩

/-- A change of the record that leaves the list. -/
theorem modRecord {f : GangRec → GangRec} (same : (f (b.gang g)).tasks = (b.gang g).tasks) : InOrderBut (b.modGang g f) g :=
  h.modGang fun n mem => h.notElsewhere (by rwa [same] at mem)

theorem unlist (n : TaskNo) : InOrderBut (b.unlist g n) g := h.modGang fun _ mem => h.notElsewhere (List.mem_of_mem_filter mem)

theorem setTaskState {n : TaskNo} (s : TaskState) (own : b.notElsewhere g n) : InOrderBut (b.setTaskState n s) g := by
  have numbers : (b.setTaskState n s).ltu.tasks.map (fun t => t.number.toNat) = b.ltu.tasks.map fun t => t.number.toNat := by
    simp only [Berth.setTaskState, Berth.modTask, List.map_map]
    refine List.map_congr_left fun t _ => ?_
    simp only [Function.comp_apply]
    split <;> rfl
  refine h.change (numbers ▸ h.numbers) (fun n mem => h.notElsewhere mem) h.once fun f other =>
    ⟨rfl, fun m mem => congrArg _ (task?_setTaskState_other b s fun e => ?_), rfl, fun _ => Iff.rfl⟩
  exact own f other (e ▸ mem)

theorem dropTask {n : TaskNo} (own : b.notElsewhere g n) : InOrderBut (b.dropTask n) g := by
  refine h.change (h.numbers.sublist (List.filter_sublist.map _)) (fun n mem => h.notElsewhere mem) h.once fun f other =>
    ⟨rfl, fun m mem => congrArg _ (Berth.task?_dropTask_other b fun e => ?_), rfl, fun _ => Iff.rfl⟩
  exact own f other (e ▸ mem)

theorem setGangClaim (k : Option GangClaim) : InOrderBut (b.setGangClaim g k) g :=
  h.change h.numbers (fun _ mem => h.notElsewhere mem) h.once fun _ other =>
    ⟨rfl, fun _ _ => rfl, Berth.gangClaim_setGangClaim_other _ _ _ _ other, fun _ => Iff.rfl⟩

theorem removeWaiter : InOrderBut (b.removeWaiter g) g :=
  h.change h.numbers (fun _ mem => h.notElsewhere mem) (h.once.sublist (List.filter_sublist.map _)) fun _ other =>
    ⟨rfl, fun _ _ => rfl, rfl, fun _ => List.mem_filter.trans (and_iff_left (by simpa using other))⟩

theorem postGang (o : OrderBody) : InOrderBut (b.postGang g o) g :=
  h.change h.numbers (fun _ mem => h.notElsewhere mem) h.once fun _ _ => ⟨rfl, fun _ _ => rfl, rfl, fun _ => Iff.rfl⟩

theorem examineWaiters : InOrderBut (examineWaiters b) g :=
  ⟨h.toListsApart.examineWaiters, fun f other => (h.others f other).examine h.once fun _ => id⟩

theorem releaseGangClaim : InOrderBut (releaseGangClaim b g) g := (h.setGangClaim none).examineWaiters

theorem leaveDeckRequest : InOrderBut (leaveDeckRequest b g) g := by
  rcases leaveDeckRequest_cases b g with ⟨_, _, e⟩ | ⟨_, e⟩ <;> rw [e]
  · exact h.removeWaiter.releaseGangClaim
  · exact h.removeWaiter

theorem openAll {l : List TaskNo} (own : ∀ n ∈ l, b.notElsewhere g n) : InOrderBut (openAll b l) g := by
  induction l generalizing b with
  | nil => exact h
  | cons m ms ih =>
    exact ih (h.setTaskState .opened (own m List.mem_cons_self)) fun n mem => own n (List.mem_cons_of_mem _ mem)

theorem giveUpTasks : InOrderBut (b.giveUpTasks g) g := by
  rw [giveUpTasks_eq]
  exact (h.openAll fun n mem => h.notElsewhere mem).modGang fun n mem => by cases mem

theorem openUnlisted {l : List TaskNo} (own : l ⊆ (b.gang g).tasks) : InOrderBut (openUnlisted b g l) g := by
  have opened := h.openAll fun n mem => h.notElsewhere (own mem)
  rw [openUnlisted_eq]
  exact opened.modGang fun n mem => opened.notElsewhere (List.mem_of_mem_filter mem)

/-- A first task changes its state. -/
theorem setFirst {t : Task} (s : TaskState) (first : b.firstTask g = some t) : InOrderBut (b.setTaskState t.number s) g :=
  h.setTaskState s (h.notElsewhere (firstTask_mem first))

/-- R121, R126: a listed task leaves its list and the pool. -/
theorem drop {n : TaskNo} (mem : n ∈ (b.gang g).tasks) : InOrderBut ((b.unlist g n).dropTask n) g := by
  refine (h.unlist n).dropTask fun f other mem' => ?_
  rw [Berth.unlist, Berth.gang_modGang_other _ _ _ _ other] at mem'
  exact h.notElsewhere mem f other mem'

theorem requeueFirst : InOrderBut (requeueFirst b g) g := by
  unfold Machine.requeueFirst
  split
  · next first =>
    split
    · exact h.setFirst _ first
    · exact h
  · exact h

theorem undispatchFirst : InOrderBut (undispatchFirst b g) g := by
  unfold Machine.undispatchFirst
  split
  · next first =>
    split
    · exact h.setFirst _ first
    · exact h
  · exact h

theorem offDeck : InOrderBut (offDeck b g) g := by
  have released := h.releaseGangClaim
  unfold Machine.offDeck dropIfOwedToNobody
  split
  · next first =>
    split
    · exact released.drop (firstTask_mem first)
    · exact released
  · exact released

theorem comeOffDeck (k : Bool) : InOrderBut (comeOffDeck b g k) g := by
  rw [comeOffDeck_eq]
  split
  · exact h.offDeck.giveUpTasks.modRecord rfl
  · split
    · exact h.offDeck.giveUpTasks.modRecord rfl
    · exact h.offDeck.requeueFirst.modRecord rfl

end InOrderBut

end Sys2Proof.Machine

/-! # Each change of the deck keeps the gangs in agreement (O59) -/

namespace Sys2Proof.Machine

/-! ## A gang's own records -/

theorem setTaskState_found {b : Berth} {n : TaskNo} {t : Task} (s : TaskState) (found : b.task? n = some t) :
    (b.setTaskState n s).task? n = some { t with state := s } := by
  rw [task?_setTaskState_same, found]
  rfl

theorem Berth.allQueued.setOther {b : Berth} {l : List TaskNo} (h : b.allQueued l) {n : TaskNo} (s : TaskState) (new : n ∉ l) :
    (b.setTaskState n s).allQueued l :=
  h.congr fun _ mem => task?_setTaskState_other b s fun e => new (e ▸ mem)

/-- What is left of a list without its first task. -/
theorem filter_first {n : TaskNo} {l rest : List TaskNo} (list : l = n :: rest) (new : n ∉ rest) :
    l.filter (fun m => m != n) = rest := by
  have tail : rest.filter (fun m => m != n) = rest :=
    List.filter_eq_self.2 fun m later => bne_iff_ne.2 (ne_of_mem_of_not_mem later new)
  rw [list, List.filter_cons_of_neg (by simp), tail]

namespace GangInOrder

variable {b b' : Berth} {g : Gang}

/-- A gang with nothing in hand. -/
theorem empty (tasks : (b.gang g).tasks = []) (idle : (b.gang g).activity = .idle) (claim : b.gangClaim g = none)
    (unlisted : ∀ bay, (g, bay) ∉ b.bct.waiters) : GangInOrder b g :=
  .resting (by rw [tasks]; exact List.nodup_nil) (fun n mem => by rw [tasks] at mem; cases mem)
    (fun k held => by rw [claim] at held; cases held) unlisted fun _ => ⟨idle, tasks⟩

theorem firstTask_modGang {f : GangRec → GangRec} (tasks : (f (b.gang g)).tasks = (b.gang g).tasks) :
    (b.modGang g f).firstTask g = b.firstTask g :=
  firstTask_congr (by rw [Berth.gang_modGang, tasks]) fun _ _ => rfl

variable (h : GangInOrder b g)
include h

/-- A change of the marks of a gang's record. -/
theorem modRecord {f : GangRec → GangRec} (tasks : (f (b.gang g)).tasks = (b.gang g).tasks)
    (activity : (f (b.gang g)).activity = (b.gang g).activity) (duty : (f (b.gang g)).onDuty = false → (b.gang g).onDuty = false) :
    GangInOrder (b.modGang g f) g := by
  have gang : (b.modGang g f).gang g = f (b.gang g) := Berth.gang_modGang ..
  have first := firstTask_modGang (b := b) (g := g) tasks
  have claim : (b.modGang g f).gangClaim g = b.gangClaim g := rfl
  exact {
    nodup := by rw [gang, tasks]; exact h.nodup
    listed := by rw [gang, tasks]; exact h.listed
    queued := by rw [gang, tasks]; exact h.queued
    dispatched := by rw [first, gang, activity]; exact h.dispatched
    active := by rw [first, gang, activity, claim]; exact h.active
    confirmed := by rw [gang, activity, claim]; exact h.confirmed
    asks := by rw [first, gang, activity, claim]; exact h.asks
    waits := h.waits
    offDuty := by rw [gang, activity, tasks]; exact fun off => h.offDuty (duty off) }

/-- R71, R132, R133: a gang goes on deck with its first task. -/
theorem goesOnDeck {t : Task} (first : b.firstTask g = some t) (gang : b'.gang g = { b.gang g with activity := .onDeck })
    (task : ∀ m, b'.task? m = (b.setTaskState t.number .active).task? m)
    (claim : b'.gangClaim g = some { bay := t.bay, standing := .confirmed }) (unlisted : ∀ bay, (g, bay) ∉ b'.bct.waiters) :
    GangInOrder b' g := by
  obtain ⟨rest, list, new, nodup, queued⟩ := h.list first
  refine .onDeck (t := { t with state := .active }) (by rw [gang]; exact list) new nodup
    ((queued.setOther .active new).congr fun m _ => task m) ?_ (by rw [gang]; exact h.onDuty (firstTask_mem first)) rfl
    (by rw [gang]) claim unlisted
  exact (task _).trans (setTaskState_found .active (firstTask_head first).2)

/-- R130: a gang is called to its first task. -/
theorem isAssigned {t : Task} (first : b.firstTask g = some t) (gang : b'.gang g = { b.gang g with activity := .assigned })
    (task : ∀ m, b'.task? m = (b.setTaskState t.number .dispatched).task? m) (claim : b'.gangClaim g = none)
    (unlisted : ∀ bay, (g, bay) ∉ b'.bct.waiters) : GangInOrder b' g := by
  obtain ⟨rest, list, new, nodup, queued⟩ := h.list first
  refine .called (t := { t with state := .dispatched }) (by rw [gang]; exact list) new nodup
    ((queued.setOther .dispatched new).congr fun m _ => task m) ?_ (by rw [gang]; exact h.onDuty (firstTask_mem first)) rfl
    (Or.inl (by rw [gang])) (fun k held => by rw [claim] at held; cases held) fun bay mem => absurd mem (unlisted bay)
  exact (task _).trans (setTaskState_found .dispatched (firstTask_head first).2)

/-- R135, R141: a gang's first task is QUEUED again, and the gang is IDLE. -/
theorem standsDown {t : Task} (first : b.firstTask g = some t) (gang : b'.gang g = { b.gang g with activity := .idle })
    (task : ∀ m, b'.task? m = (b.setTaskState t.number .queued).task? m) (claim : b'.gangClaim g = none)
    (unlisted : ∀ bay, (g, bay) ∉ b'.bct.waiters) : GangInOrder b' g := by
  obtain ⟨rest, list, new, -, queued⟩ := h.list first
  have duty := h.onDuty (firstTask_mem first)
  refine .resting (by rw [gang]; exact h.nodup) (fun m mem => ?_) (fun k held => by rw [claim] at held; cases held) unlisted
    fun off => by rw [gang, duty] at off; cases off
  rw [gang, list] at mem
  rw [task]
  rcases List.mem_cons.1 mem with rfl | later
  · exact ⟨_, setTaskState_found .queued (firstTask_head first).2, rfl⟩
  · exact queued.setOther .queued new m later

end GangInOrder

theorem leaveDeckRequest_unlisted (b : Berth) (g : Gang) (bay : Bay) : (g, bay) ∉ (leaveDeckRequest b g).bct.waiters :=
  fun mem => isWaiter_false.1 (leaveDeckRequest_isWaiter b g) _ mem rfl

theorem releaseGangClaim_waiters (b : Berth) (g : Gang) : (releaseGangClaim b g).bct.waiters ⊆ b.bct.waiters :=
  examine_waiters b.bct.waiters (b.setGangClaim g none)

/-- R72: a claim that ends leaves no entry of its gang. -/
theorem GangInOrder.released {b : Berth} {g : Gang} (h : GangInOrder b g) {k : GangClaim} (claim : b.gangClaim g = some k) :
    (releaseGangClaim b g).gangClaim g = none ∧ ∀ bay, (g, bay) ∉ (releaseGangClaim b g).bct.waiters :=
  ⟨releaseGangClaim_own fun w mem e => h.unlisted_of_claim claim w.2 (e ▸ mem),
    fun bay mem => h.unlisted_of_claim claim bay (releaseGangClaim_waiters b g mem)⟩

theorem InOrderBut.dutyOff {b : Berth} {g : Gang} (h : InOrderBut b g) (off : (b.gang g).activity ≠ .onDeck) :
    InOrderBut (Machine.dutyOff b g) g := by
  have left : ∀ {b : Berth}, InOrderBut b g → InOrderBut (leaveDuty b g) g := fun h => h.giveUpTasks.modRecord rfl
  cases duty : (b.gang g).onDuty with
  | false => rwa [dutyOff_offDuty duty]
  | true =>
    by_cases idle : (b.gang g).activity = .idle
    · rw [dutyOff_idle duty idle]
      exact left h
    · rw [dutyOff_busy duty (by revert idle off; cases (b.gang g).activity <;> simp)]
      unfold recallFirst
      split
      · exact (left h.leaveDeckRequest).postGang _
      · exact left h.leaveDeckRequest

namespace GangsInOrder

variable {b b' : Berth}

/-! ## Changes that reach no gang -/

theorem untouched (h : GangsInOrder b) (numbers : (b'.ltu.tasks.map fun t => t.number.toNat).Pairwise (· < ·))
    (once : (b'.bct.waiters.map (·.1)).Nodup) (all : ∀ g, Untouched b b' g) : GangsInOrder b' :=
  ⟨⟨numbers, fun g f other n mem => by
    rw [(all g).gang] at mem
    rw [(all f).gang]
    exact h.apart g f other n mem, once⟩, fun g => (h.gangs g).untouched (all g)⟩

theorem congr (h : GangsInOrder b) (gangs : b'.ltu.gangs = b.ltu.gangs) (tasks : b'.ltu.tasks = b.ltu.tasks)
    (claims : b'.bct.gangClaims = b.bct.gangClaims) (waiters : b'.bct.waiters = b.bct.waiters) : GangsInOrder b' :=
  h.untouched (tasks ▸ h.numbers) (waiters ▸ h.once) fun g =>
    ⟨congrArg (·[g]) gangs, fun n _ => congrArg _ (task?_congr tasks n), congrArg (·[g]) claims, fun bay => by rw [waiters]⟩

theorem of_empty (gangs : ∀ g, (b.gang g).tasks = [] ∧ (b.gang g).activity = .idle) (claims : ∀ g, b.gangClaim g = none)
    (waiters : b.bct.waiters = []) (tasks : b.ltu.tasks = []) : GangsInOrder b := by
  refine ⟨⟨by rw [tasks]; exact List.Pairwise.nil, fun g f _ n mem => ?_, by rw [waiters]; exact List.nodup_nil⟩, fun g => ?_⟩
  · rw [(gangs g).1] at mem
    cases mem
  · exact .empty (gangs g).1 (gangs g).2 (claims g) fun bay => by rw [waiters]; exact List.not_mem_nil

/-- R119: the count of the tickets linked to a task is no matter of the gangs. -/
theorem relink (h : GangsInOrder b) {n : TaskNo} {f : Task → Task} (links : ∀ t, f t = { t with linked := (f t).linked }) :
    GangsInOrder (b.modTask n f) := by
  have number : ∀ t, (f t).number = t.number := fun t => by rw [links]
  have standing : ∀ t, (f t).standing = t.standing := fun t => by rw [links]; rfl
  have numbers : (b.modTask n f).ltu.tasks.map (fun t => t.number.toNat) = b.ltu.tasks.map fun t => t.number.toNat := by
    simp only [Berth.modTask, List.map_map]
    refine List.map_congr_left fun t _ => ?_
    simp only [Function.comp_apply]
    split
    · rw [number]
    · rfl
  refine h.untouched (numbers ▸ h.numbers) h.once fun g => ⟨rfl, fun m _ => ?_, rfl, fun _ => Iff.rfl⟩
  by_cases here : m = n
  · subst here
    rw [Berth.task?_modTask_same b m f number, Option.map_map]
    exact congrArg (Option.map · _) (funext standing)
  · rw [Berth.task?_modTask_other b f number here]

/-- R117: a new task is on no list. -/
theorem create (h : GangsInOrder b) {n : TaskNo} (k : TaskKind) (bay : Bay) (c : Crane) (l : Nat)
    (new : b.task? n = none) : GangsInOrder (b.createTask n k bay c l) := by
  refine h.untouched (insertBy_pairwise (fun t : Task => t.number.toNat) _ _ h.numbers fun t mem e => ?_) h.once fun g =>
    ⟨rfl, fun m mem => congrArg _ (Berth.task?_createTask_other b k bay c l fun e => ?_), rfl, fun _ => Iff.rfl⟩
  · exact List.find?_eq_none.1 new t mem (by simpa using BitVec.eq_of_toNat_eq e)
  · obtain ⟨t, found, -⟩ := (h.gangs g).listed m mem
    rw [e, new] at found
    cases found

theorem dropUnlisted (h : GangsInOrder b) {n : TaskNo} (absent : ∀ g, n ∉ (b.gang g).tasks) : GangsInOrder (b.dropTask n) :=
  h.untouched (h.numbers.sublist (List.filter_sublist.map _)) h.once fun g =>
    ⟨rfl, fun _ mem => congrArg _ (Berth.task?_dropTask_other b fun e => absent g (e ▸ mem)), rfl, fun _ => Iff.rfl⟩

/-! ## A task dropped (R121) -/

theorem holder_mem {n : TaskNo} {g : Gang} (held : b.holder n = some g) : n ∈ (b.gang g).tasks := by
  simpa using List.find?_some held

theorem holder_absent {n : TaskNo} (unheld : b.holder n = none) (g : Gang) : n ∉ (b.gang g).tasks := by
  simpa using List.find?_eq_none.1 unheld g (mem_allGangs g)

/-- A QUEUED task leaves its list and the pool. -/
theorem dropQueued (h : GangsInOrder b) {g : Gang} {t : Task} (found : b.task? t.number = some t) (queued : t.state = .queued)
    (mem : t.number ∈ (b.gang g).tasks) : GangsInOrder ((b.unlist g t.number).dropTask t.number) := by
  have gang : ((b.unlist g t.number).dropTask t.number).gang g =
      { b.gang g with tasks := (b.gang g).tasks.filter fun m => m != t.number } := Berth.gang_modGang ..
  refine ((h.but g).drop mem).restored ((h.gangs g).shrunk (p := fun m => m != t.number) (by rw [gang]) (by rw [gang])
    (by rw [gang]) (fun m _ own => ?_) (fun m _ other => ?_) rfl fun _ => id)
  · obtain rfl : m = t.number := by simpa using own
    exact ⟨t, found, queued⟩
  · exact Berth.task?_dropTask_other _ (by simpa using other)

/-- A DISPATCHED task leaves its list and the pool; its gang gives up its deck request and is IDLE. -/
theorem dropDispatched (h : GangsInOrder b) {g : Gang} {t : Task} (found : b.task? t.number = some t)
    (dispatched : t.state = .dispatched) (mem : t.number ∈ (b.gang g).tasks) :
    GangsInOrder (((leaveDeckRequest ((b.unlist g t.number).dropTask t.number) g).modGang g
      fun r => { r with activity := .idle }).postGang g (.recall t.number)) := by
  have own := h.gangs g
  have first := own.first_of_unqueued mem found (by rw [dispatched]; decide)
  obtain ⟨rest, list, new, nodup, queued⟩ := own.list first
  have dropped : ((b.unlist g t.number).dropTask t.number).gang g = { b.gang g with tasks := rest } := by
    rw [← filter_first list new]
    exact Berth.gang_modGang ..
  have unheld : ∀ bay, b.gangClaim g ≠ some { bay, standing := .confirmed } := fun bay held => by
    have onDeck := own.confirmed bay held
    rcases own.dispatched t first dispatched with activity | activity <;> rw [activity] at onDeck <;> cases onDeck
  have claim := leaveDeckRequest_unclaimed (b := (b.unlist g t.number).dropTask t.number) unheld
  have gang : (((leaveDeckRequest ((b.unlist g t.number).dropTask t.number) g).modGang g
      fun r => { r with activity := .idle }).postGang g (.recall t.number)).gang g =
      { b.gang g with activity := .idle, tasks := rest } := by
    rw [Berth.gang_postGang, Berth.gang_modGang, leaveDeckRequest_gang, dropped]
  refine ((((h.but g).drop mem).leaveDeckRequest.modRecord rfl).postGang _).restored (.resting (by rw [gang]; exact nodup) ?_
    (fun k held => ?_) (leaveDeckRequest_unlisted _ g) fun off => ?_)
  · rw [gang]
    refine queued.congr fun m later => ?_
    rw [Berth.task?_postGang, Berth.task?_modGang, leaveDeckRequest_task?,
      Berth.task?_dropTask_other _ (ne_of_mem_of_not_mem later new), Berth.task?_unlist]
  · exact absurd (claim.symm.trans held) (by simp)
  · rw [gang, own.onDuty mem] at off
    cases off

theorem dropUnlinked (h : GangsInOrder b) {t : Task} (found : b.task? t.number = some t) : GangsInOrder (dropUnlinked b t) := by
  unfold Machine.dropUnlinked
  split
  · next opened =>
    refine h.dropUnlisted fun g mem => ?_
    obtain ⟨u, found', listed⟩ := (h.gangs g).listed _ mem
    obtain rfl := Option.some.inj (found.symm.trans found')
    exact listed opened
  · next queued =>
    split
    · next held => exact h.dropQueued found queued (holder_mem held)
    · next unheld => exact h.dropUnlisted (holder_absent unheld)
  · next dispatched =>
    split
    · next held => exact h.dropDispatched found dispatched (holder_mem held)
    · next unheld => exact h.dropUnlisted (holder_absent unheld)
  · exact h

/-! ## Duty, rosters and served cranes (R136, R138) -/

theorem modRecord (h : GangsInOrder b) (g : Gang) {f : GangRec → GangRec} (tasks : (f (b.gang g)).tasks = (b.gang g).tasks)
    (activity : (f (b.gang g)).activity = (b.gang g).activity) (duty : (f (b.gang g)).onDuty = false → (b.gang g).onDuty = false) :
    GangsInOrder (b.modGang g f) :=
  ((h.but g).modRecord tasks).restored ((h.gangs g).modRecord tasks activity duty)

theorem dutyOn (h : GangsInOrder b) (g : Gang) : GangsInOrder (dutyOn b g) := by
  cases duty : (b.gang g).onDuty with
  | true =>
    rw [dutyOn_onDuty duty]
    exact h.modRecord g rfl rfl id
  | false =>
    rw [dutyOn_offDuty duty]
    exact h.modRecord g rfl ((h.gangs g).offDuty duty).1.symm fun off => by cases off

theorem dutyOff (h : GangsInOrder b) (g : Gang) : GangsInOrder (dutyOff b g) := by
  cases duty : (b.gang g).onDuty with
  | false => rwa [dutyOff_offDuty duty]
  | true =>
    by_cases onDeck : (b.gang g).activity = .onDeck
    · rw [dutyOff_onDeck duty onDeck]
      exact h.modRecord g rfl rfl id
    · obtain ⟨gang, -, -, -, -, idleBct, busyBct⟩ := dutyOff_leaves duty onDeck
      refine ((h.but g).dutyOff onDeck).restored ?_
      have entries : (Machine.dutyOff b g).gangClaim g = none ∧ ∀ bay, (g, bay) ∉ (Machine.dutyOff b g).bct.waiters := by
        by_cases idle : (b.gang g).activity = .idle
        · obtain ⟨bct, -⟩ := idleBct idle
          have settled : (b.gang g).activity ≠ .waitDeck := by rw [idle]; decide
          simp only [Berth.gangClaim, bct]
          exact ⟨(h.gangs g).unclaimed onDeck settled, (h.gangs g).unlisted settled⟩
        · obtain ⟨bct, -⟩ := busyBct (by revert idle onDeck; cases (b.gang g).activity <;> simp)
          simp only [Berth.gangClaim, bct]
          exact ⟨leaveDeckRequest_unclaimed fun bay held => onDeck ((h.gangs g).confirmed bay held), leaveDeckRequest_unlisted b g⟩
      exact .empty (by rw [gang]) (by rw [gang]) entries.1 entries.2

theorem serve (h : GangsInOrder b) (g : Gang) (set : BitVec 8) : GangsInOrder (serve b g set) := by
  obtain ⟨gang, -, -, kept, bct, -, -⟩ := serve_records b g set
  have but : InOrderBut (Machine.serve b g set) g := ((h.but g).openUnlisted (List.filter_subset_self _)).modRecord rfl
  refine but.restored ((h.gangs g).shrunk (p := fun n => !b.unserved set n) (by rw [gang]) (by rw [gang]) (by rw [gang])
    (fun n _ gone => ?_) (fun n _ stays => kept n (Or.inr (by simpa using stays))) (by rw [Berth.gangClaim, bct]; rfl)
    (by rw [bct]; exact fun _ => id))
  obtain ⟨t, found, queued⟩ := (Option.any_eq_true ..).1 (show (b.task? n).any _ = true by simpa [Berth.unserved] using gone)
  exact ⟨t, found, by simp at queued; exact queued.1⟩

end GangsInOrder

end Sys2Proof.Machine

/-! # Tasks taken up by gangs (R127, R128, R130) -/

namespace Sys2Proof.Machine

/-! ## The order of open tasks -/

theorem insertBy_perm {α : Type} (le : α → α → Bool) (x : α) (l : List α) : (insertBy le x l).Perm (x :: l) := by
  induction l with
  | nil => exact List.Perm.refl _
  | cons y ys ih =>
    unfold insertBy
    split
    · exact List.Perm.refl _
    · exact (ih.cons y).trans (List.Perm.swap x y ys)

theorem sortBy_perm {α : Type} (le : α → α → Bool) (l : List α) : (sortBy le l).Perm l := by
  induction l with
  | nil => exact List.Perm.refl _
  | cons x xs ih => exact (insertBy_perm le x (sortBy le xs)).trans (ih.cons x)

theorem ListsApart.task?_of_mem {b : Berth} (h : ListsApart b) {t : Task} (mem : t ∈ b.ltu.tasks) : b.task? t.number = some t := by
  refine (find?_sorted (List.pairwise_map.1 h.numbers) (fun x y before after => by omega)).2 ⟨mem, by simp, fun e _ before => ?_⟩
  simp only [beq_eq_false_iff_ne, ne_eq]
  rintro same
  rw [same] at before
  omega

theorem ListsApart.openTasks {b : Berth} (h : ListsApart b) : (b.openTasks.map (·.number)).Nodup
    ∧ ∀ t ∈ b.openTasks, b.task? t.number = some t ∧ t.state = .opened := by
  constructor
  · refine ((sortBy_perm _ _).map _).nodup_iff.2 ?_
    have ascend : (b.ltu.tasks.map (·.number)).Pairwise fun x y => x.toNat < y.toNat :=
      List.pairwise_map.2 (List.pairwise_map.1 h.numbers)
    exact (ascend.sublist (List.filter_sublist.map _)).imp fun before same => by rw [same] at before; omega
  · intro t mem
    obtain ⟨inPool, opened⟩ := List.mem_filter.1 ((mem_sortBy ..).1 mem)
    exact ⟨h.task?_of_mem inPool, by simpa using opened⟩

/-! ## The place in the list (R128) -/

theorem placeOf_succ {α : Type} {p : α → Bool} {l : List α} {k : Nat} (place : placeOf p l = k + 1) :
    ∃ x, l[k]? = some x ∧ p x = true := by
  induction l generalizing k with
  | nil => cases place
  | cons x xs ih =>
    unfold placeOf at place
    split at place
    · next here =>
      obtain rfl : k = 0 := by omega
      exact ⟨x, rfl, here⟩
    · split at place
      · cases place
      · next j later =>
        obtain rfl : k = j + 1 := by omega
        exact ih later

/-- R128: a task takes its place behind the first task of the list, or before one that is QUEUED. -/
theorem listWith_split (b : Berth) (l : List TaskNo) (n : TaskNo) (kind : TaskKind) : ∃ xs ys, l = xs ++ ys
    ∧ b.listWith l n kind = xs ++ n :: ys ∧ (xs = [] → ∀ m ∈ ys.head?, ∃ t, b.task? m = some t ∧ t.state = .queued) := by
  have atEnd : ∃ xs ys, l = xs ++ ys ∧ l ++ [n] = xs ++ n :: ys
      ∧ (xs = [] → ∀ m ∈ ys.head?, ∃ t, b.task? m = some t ∧ t.state = .queued) :=
    ⟨l, [], by simp, rfl, fun _ m mem => by cases mem⟩
  unfold Berth.listWith
  cases kind with
  | lash => exact atEnd
  | unlash =>
    dsimp only
    split
    · next k place =>
      obtain ⟨x, here, -⟩ := placeOf_succ place
      have before : k < l.length := by simpa using (List.getElem?_eq_some_iff.1 here).1
      refine ⟨_, _, (List.take_append_drop ..).symm, rfl, fun first => ?_⟩
      have long := congrArg List.length first
      rw [List.length_take, List.length_nil] at long
      omega
    · split
      · next k place =>
        obtain ⟨x, here, lash⟩ := placeOf_succ place
        refine ⟨_, _, (List.take_append_drop ..).symm, rfl, fun _ m mem => ?_⟩
        rw [List.head?_drop, here] at mem
        obtain rfl : x = m := by simpa using mem
        obtain ⟨t, found, queued⟩ := (Option.any_eq_true ..).1 lash
        exact ⟨t, found, by simp at queued; exact queued.1⟩
      · exact atEnd

/-! ## Assignment (R127) -/

/-- R127: the list of a gang that takes a task. -/
def takeTask (b : Berth) (g : Gang) (t : Task) : Berth :=
  (b.modGang g fun r => { r with tasks := b.listWith r.tasks t.number t.kind }).setTaskState t.number .queued

theorem assignTask_cases (b : Berth) (t : Task) :
    assignTask b t = b ∨ ∃ g, (b.gang g).onDuty = true ∧ assignTask b t = takeTask b g t := by
  unfold assignTask
  split
  · exact Or.inl rfl
  · next g least =>
    obtain ⟨-, eligible⟩ := List.mem_filter.1 (firstLeast_mem _ least)
    simp only [Berth.eligible, Bool.and_eq_true] at eligible
    obtain ⟨⟨⟨⟨duty, -⟩, -⟩, -⟩, -⟩ := eligible
    exact Or.inr ⟨g, duty, rfl⟩

theorem takeTask_task? (b : Berth) (g : Gang) (t : Task) (n : TaskNo) :
    (takeTask b g t).task? n = (b.setTaskState t.number .queued).task? n := rfl

theorem takeTask_gang (b : Berth) (g : Gang) (t : Task) :
    (takeTask b g t).gang g = { b.gang g with tasks := b.listWith (b.gang g).tasks t.number t.kind } := Berth.gang_modGang ..

namespace GangsInOrder

variable {b : Berth}

theorem unlisted_of_opened (h : GangsInOrder b) {t : Task} (found : b.task? t.number = some t) (opened : t.state = .opened)
    (g : Gang) : t.number ∉ (b.gang g).tasks := fun mem => by
  obtain ⟨u, found', listed⟩ := (h.gangs g).listed _ mem
  obtain rfl := Option.some.inj (found.symm.trans found')
  exact listed opened

theorem takeTask_but (h : GangsInOrder b) {t : Task} (found : b.task? t.number = some t) (opened : t.state = .opened) (g : Gang) :
    InOrderBut (takeTask b g t) g := by
  have absent := h.unlisted_of_opened found opened
  obtain ⟨xs, ys, list, taken, -⟩ := listWith_split b (b.gang g).tasks t.number t.kind
  refine ((h.but g).modGang fun n mem => ?_).setTaskState .queued fun f other mem => ?_
  · have mem : n ∈ xs ++ t.number :: ys := taken ▸ mem
    rcases List.mem_append.1 mem with first | later
    · exact h.notElsewhere (by rw [list]; exact List.mem_append_left _ first)
    · rcases List.mem_cons.1 later with rfl | last
      · exact fun f _ => absent f
      · exact h.notElsewhere (by rw [list]; exact List.mem_append_right _ last)
  · rw [Berth.gang_modGang_other _ _ _ _ other] at mem
    exact absent f mem

end GangsInOrder

namespace GangInOrder

variable {b : Berth} {g : Gang} (h : GangInOrder b g)
include h

/-- R72, R131: a gang with no task at hand has a CONFIRMED claim alone, where it is still ON_DECK. -/
theorem entries_of_queued (queued : b.allQueued (b.gang g).tasks) :
    (∀ k, b.gangClaim g = some k → k.standing = .confirmed ∧ (b.gang g).activity = .onDeck) ∧ ∀ bay, (g, bay) ∉ b.bct.waiters := by
  have unasked : ∀ bay, ¬ (b.gangClaim g = some { bay, standing := .clearing } ∨ (g, bay) ∈ b.bct.waiters) := fun bay ask => by
    obtain ⟨-, t, first, dispatched, -⟩ := h.asks bay ask
    obtain ⟨u, found, isQueued⟩ := queued t.number (firstTask_mem first)
    obtain rfl := Option.some.inj ((firstTask_head first).2.symm.trans found)
    exact absurd (dispatched.symm.trans isQueued) (by decide)
  refine ⟨fun k claim => ?_, fun bay mem => unasked bay (Or.inr mem)⟩
  obtain ⟨bay, standing⟩ := k
  cases standing with
  | clearing => exact absurd (Or.inl claim) (unasked bay)
  | confirmed => exact ⟨rfl, h.confirmed bay claim⟩

/-- R127, R128: a gang that takes a task behind its first one, or before QUEUED ones alone. -/
theorem takeTask {t : Task} (found : b.task? t.number = some t) (absent : t.number ∉ (b.gang g).tasks)
    (duty : (b.gang g).onDuty = true) : GangInOrder (takeTask b g t) g := by
  have gang := takeTask_gang b g t
  have taken := setTaskState_found .queued found
  have other : ∀ n, n ∈ (b.gang g).tasks → (Machine.takeTask b g t).task? n = b.task? n := fun n mem =>
    task?_setTaskState_other b .queued (ne_of_mem_of_not_mem mem absent)
  have same : (Machine.takeTask b g t).gangClaim g = b.gangClaim g := rfl
  obtain ⟨xs, ys, list, place, behind⟩ := listWith_split b (b.gang g).tasks t.number t.kind
  have tasks : ((Machine.takeTask b g t).gang g).tasks = xs ++ t.number :: ys := by rw [gang]; exact place
  have activity : ((Machine.takeTask b g t).gang g).activity = (b.gang g).activity := by rw [gang]
  have onDuty : ((Machine.takeTask b g t).gang g).onDuty = true := by rw [gang]; exact duty
  have nodup : (xs ++ t.number :: ys).Nodup := List.nodup_middle.2 (List.nodup_cons.2 ⟨list ▸ absent, list ▸ h.nodup⟩)
  have queuedWith : ∀ l, b.allQueued l → l ⊆ (b.gang g).tasks → ∀ n, n = t.number ∨ n ∈ l →
      ∃ u, (Machine.takeTask b g t).task? n = some u ∧ u.state = .queued := by
    rintro l queued sub n (rfl | mem)
    · exact ⟨_, taken, rfl⟩
    · rw [other n (sub mem)]
      exact queued n mem
  cases xs with
  | nil =>
    have queued : b.allQueued (b.gang g).tasks := h.allQueued_of_first fun u first => by
      have head := (firstTask_head first).1
      rw [list] at head
      obtain ⟨v, found', isQueued⟩ := behind rfl u.number head
      obtain rfl := Option.some.inj ((firstTask_head first).2.symm.trans found')
      exact isQueued
    obtain ⟨claims, unlisted⟩ := h.entries_of_queued queued
    refine .resting (tasks ▸ nodup) (fun n mem => ?_) (fun k claim => activity ▸ claims k claim) unlisted
      fun off => by rw [onDuty] at off; cases off
    rw [tasks] at mem
    exact queuedWith _ queued (List.Subset.refl _) n (by rw [list]; simpa using mem)
  | cons x xs =>
    obtain ⟨u, found', unopened⟩ := h.listed x (by rw [list]; exact List.mem_cons_self)
    obtain rfl := Berth.task?_number found'
    have first : b.firstTask g = some u := by rw [Berth.firstTask, list]; exact found'
    have only : ∀ v, b.firstTask g = some v → v = u := fun v head => Option.some.inj (head.symm.trans first)
    have rest : b.allQueued (xs ++ ys) := by
      have queued := h.queued
      rwa [list] at queued
    obtain ⟨new, nodup⟩ := List.nodup_cons.1 nodup
    refine .withFirst tasks new nodup (fun n mem => ?_) ((other _ (firstTask_mem first)).trans found') onDuty unopened
      (fun s => activity ▸ h.dispatched u first s) (fun s => activity ▸ h.active u first s)
      (fun bay held => activity ▸ h.confirmed bay held) (fun bay ask => ?_) h.waits
    · refine queuedWith _ rest (fun m later => ?_) n (by simpa [or_left_comm] using mem)
      rw [list]
      exact List.mem_cons_of_mem _ later
    · obtain ⟨waitDeck, v, head, state, at_⟩ := h.asks bay ask
      obtain rfl := only v head
      exact ⟨activity ▸ waitDeck, state, at_⟩

end GangInOrder

namespace GangsInOrder

variable {b : Berth}

theorem assignTask (h : GangsInOrder b) {t : Task} (found : b.task? t.number = some t) (opened : t.state = .opened) :
    GangsInOrder (assignTask b t) := by
  rcases assignTask_cases b t with e | ⟨g, duty, e⟩
  · rwa [e]
  · rw [e]
    exact (h.takeTask_but found opened g).restored ((h.gangs g).takeTask found (h.unlisted_of_opened found opened g) duty)

theorem assignTask_task? (b : Berth) {t : Task} {n : TaskNo} (other : n ≠ t.number) :
    (Machine.assignTask b t).task? n = b.task? n := by
  rcases assignTask_cases b t with e | ⟨g, -, e⟩ <;> rw [e]
  rw [takeTask_task?, task?_setTaskState_other b .queued other]

theorem assignAll {l : List Task} (distinct : (l.map (·.number)).Nodup) (h : GangsInOrder b)
    (opened : ∀ t ∈ l, b.task? t.number = some t ∧ t.state = .opened) : GangsInOrder (l.foldl Machine.assignTask b) := by
  induction l generalizing b with
  | nil => exact h
  | cons t ts ih =>
    obtain ⟨new, distinct⟩ := List.nodup_cons.1 distinct
    obtain ⟨found, isOpen⟩ := opened t List.mem_cons_self
    refine ih distinct (h.assignTask found isOpen) fun u mem => ?_
    have other : u.number ≠ t.number := ne_of_mem_of_not_mem (List.mem_map_of_mem mem) new
    rw [assignTask_task? b other]
    exact opened u (List.mem_cons_of_mem _ mem)

/-- R127: the assignment pass. -/
theorem assignPass (h : GangsInOrder b) : GangsInOrder (assignPass b) :=
  h.assignAll h.openTasks.1 h.openTasks.2

/-- R130: a dispatch. -/
theorem dispatchGang (h : GangsInOrder b) (g : Gang) : GangsInOrder (dispatchGang b g) := by
  unfold Machine.dispatchGang
  dsimp only
  split
  · next may =>
    split
    · next t first =>
      have onDeck : (b.gang g).activity ≠ .onDeck := by rw [may.1]; decide
      have waitDeck : (b.gang g).activity ≠ .waitDeck := by rw [may.1]; decide
      refine (((h.but g).setFirst .dispatched first).modRecord rfl |>.postGang _).restored
        ((h.gangs g).isAssigned first (Berth.gang_modGang ..) (fun _ => rfl) ((h.gangs g).unclaimed onDeck waitDeck)
          ((h.gangs g).unlisted waitDeck))
    · exact h
  · exact h

end GangsInOrder

end Sys2Proof.Machine

/-! # The gang cycle keeps the gangs in agreement (O59) -/

namespace Sys2Proof.Machine

theorem setTaskState_again {b : Berth} {n : TaskNo} {t : Task} {s : TaskState} (found : b.task? n = some t) (state : t.state = s)
    (m : TaskNo) : (b.setTaskState n s).task? m = b.task? m := by
  by_cases here : m = n
  · subst here
    rw [setTaskState_found s found, found, ← state]
  · exact task?_setTaskState_other b s here

namespace GangInOrder

variable {b : Berth} {g : Gang} (h : GangInOrder b g)
include h

/-- R131, R133: a gang that works or is called has its first task at hand. -/
theorem mayAsk_held {t : Task} (first : b.firstTask g = some t) (may : MayAskDeck b g t) {bay : Bay}
    (held : b.gangClaim g = some { bay, standing := .confirmed }) : bay = t.bay := by
  have onDeck := h.confirmed bay held
  rcases may with ⟨-, assigned | waitDeck⟩ | ⟨active, -⟩
  · rw [assigned] at onDeck; cases onDeck
  · rw [waitDeck] at onDeck; cases onDeck
  · obtain ⟨-, claim⟩ := h.active t first active
    exact congrArg GangClaim.bay (Option.some.inj (held.symm.trans claim))

theorem mayAsk_unclaimed {t : Task} (first : b.firstTask g = some t) (may : MayAskDeck b g t) (claim : b.gangClaim g = none) :
    t.state = .dispatched := by
  rcases may with ⟨dispatched, -⟩ | ⟨active, -⟩
  · exact dispatched
  · obtain ⟨-, held⟩ := h.active t first active
    rw [claim] at held
    cases held

end GangInOrder

namespace GangsInOrder

variable {b : Berth} (h : GangsInOrder b)
include h

/-! ## DECK_REQUEST (R71, R131) -/

theorem deckGranted {g : Gang} {t : Task} (first : b.firstTask g = some t) (unlisted : b.isWaiter g = false) :
    GangsInOrder (((b.setGangClaim g (some { bay := t.bay, standing := .confirmed })).modGang g
      fun r => { r with activity := .onDeck }).setTaskState t.number .active) := by
  have but : InOrderBut (((b.setGangClaim g (some { bay := t.bay, standing := .confirmed })).modGang g
      fun r => { r with activity := .onDeck }).setTaskState t.number .active) g :=
    (((h.but g).setGangClaim _).modRecord rfl).setFirst .active
      (GangInOrder.firstTask_modGang (b := b.setGangClaim g _) (f := fun r => { r with activity := .onDeck }) rfl |>.trans first)
  exact but.restored ((h.gangs g).goesOnDeck first (Berth.gang_modGang ..) (fun _ => rfl) (Berth.gangClaim_setGangClaim ..)
    fun bay mem => isWaiter_false.1 unlisted _ mem rfl)

theorem deckAwaited {g : Gang} {t : Task} (first : b.firstTask g = some t) (dispatched : t.state = .dispatched)
    (claim : b.gangClaim g = none) (unlisted : b.isWaiter g = false) :
    GangsInOrder (({ b with bct := { b.bct with waiters := b.bct.waiters ++ [(g, t.bay)] } }).modGang g
      fun r => { r with activity := .waitDeck }) := by
  have apart : ∀ w ∈ b.bct.waiters, w.1 ≠ g := isWaiter_false.1 unlisted
  have once : ((b.bct.waiters ++ [(g, t.bay)]).map (·.1)).Nodup := by
    rw [List.map_append]
    refine List.nodup_append.2 ⟨h.once, by simp, fun x mem y last => ?_⟩
    obtain ⟨w, listed, rfl⟩ := List.mem_map.1 mem
    obtain rfl : y = g := by simpa using last
    exact apart w listed
  have but : InOrderBut { b with bct := { b.bct with waiters := b.bct.waiters ++ [(g, t.bay)] } } g :=
    (h.but g).change h.numbers (fun n mem => h.notElsewhere mem) once fun f other =>
      ⟨rfl, fun _ _ => rfl, rfl, fun bay => List.mem_append.trans (or_iff_left (by simp [other]))⟩
  obtain ⟨rest, list, new, nodup, queued⟩ := (h.gangs g).list first
  have gang : (({ b with bct := { b.bct with waiters := b.bct.waiters ++ [(g, t.bay)] } } : Berth).modGang g
      fun r => { r with activity := .waitDeck }).gang g = { b.gang g with activity := .waitDeck } := Berth.gang_modGang ..
  refine (but.modRecord rfl).restored (.called (t := t) (by rw [gang]; exact list) new nodup (queued.congr fun _ _ => rfl)
    (firstTask_head first).2 (by rw [gang]; exact (h.gangs g).onDuty (firstTask_mem first)) dispatched (Or.inr (by rw [gang]))
    (fun k held => absurd (claim.symm.trans held) (by simp)) fun bay mem => ⟨claim, by rw [gang], ?_⟩)
  rcases List.mem_append.1 mem with before | last
  · exact absurd rfl (apart _ before)
  · exact (congrArg Prod.snd (List.mem_singleton.1 last)).symm

theorem deckRequest (g : Gang) (n : TaskNo) : GangsInOrder (deckRequest b g n).1 := by
  by_cases asks : ∃ t, b.firstTask g = some t ∧ t.number = n ∧ MayAskDeck b g t
  · obtain ⟨t, first, rfl, may⟩ := asks
    cases claim : b.gangClaim g with
    | some k =>
      obtain ⟨bay, standing⟩ := k
      cases standing with
      | clearing => rwa [deckRequest_clearing first may claim]
      | confirmed =>
        obtain rfl := (h.gangs g).mayAsk_held first may claim
        rwa [deckRequest_held first may claim]
    | none =>
      cases listed : b.isWaiter g with
      | true => rwa [deckRequest_listed first may claim listed]
      | false =>
        cases free : b.gangMayClaim t.bay with
        | true =>
          rw [deckRequest_granted first may claim listed free]
          exact h.deckGranted first listed
        | false =>
          rw [deckRequest_waits first may claim listed free]
          exact h.deckAwaited first ((h.gangs g).mayAsk_unclaimed first may claim) claim listed
  · rwa [deckRequest_refused fun t first own may => asks ⟨t, first, own, may⟩]

/-! ## TASK_DONE (R133) -/

theorem completeTask {g : Gang} {t : Task} (first : b.firstTask g = some t) (active : t.state = .active) :
    GangsInOrder (completeTask b g t) := by
  have own := h.gangs g
  obtain ⟨rest, list, new, nodup, queued⟩ := own.list first
  obtain ⟨onDeck, claim⟩ := own.active t first active
  obtain ⟨-, gang, -, -, -, -, bct, -⟩ := completeTask_records b g t
  rw [filter_first list new] at gang
  have cleared : InOrderBut (b.modTicketsIf (fun x => x.task == some t.number)
      fun x => { x with lashState := if t.kind = .unlash then .cleared else .lashed, task := none }) g :=
    (h.congr (b' := b.modTicketsIf _ _) rfl rfl rfl rfl).but g
  have but : InOrderBut (Machine.completeTask b g t) g := cleared.drop (firstTask_mem first)
  refine but.restored (.resting (by rw [gang]; exact nodup) ?_ (fun k held => ?_) (fun bay mem => ?_) fun off => ?_)
  · rw [gang]
    exact queued.congr fun m later => Berth.task?_dropTask_other _ (ne_of_mem_of_not_mem later new)
  · rw [Berth.gangClaim, bct] at held
    obtain rfl := Option.some.inj (held.symm.trans claim)
    exact ⟨rfl, by rw [gang]; exact onDeck⟩
  · exact own.unlisted_of_claim claim bay (bct ▸ mem)
  · rw [gang] at off
    exact absurd (off.symm.trans (own.onDuty (firstTask_mem first))) (by decide)

theorem goOn {g : Gang} {u : Task} (first : b.firstTask g = some u) (onDeck : (b.gang g).activity = .onDeck)
    (claim : b.gangClaim g = some { bay := u.bay, standing := .confirmed }) : GangsInOrder (b.setTaskState u.number .active) :=
  ((h.but g).setFirst .active first).restored ((h.gangs g).goesOnDeck first (by rw [← onDeck]; rfl) (fun _ => rfl) claim
    ((h.gangs g).unlisted_of_claim claim))

theorem taskDone (g : Gang) (n : TaskNo) : GangsInOrder (taskDoneReport b g n).1 := by
  by_cases on : ∃ t, b.firstTask g = some t ∧ t.number = n ∧ t.state = .active ∧ (b.gang g).activity = .onDeck
  · obtain ⟨t, first, rfl, active, onDeck⟩ := on
    have done := h.completeTask first active
    by_cases goesOn : ∃ u, (Machine.completeTask b g t).firstTask g = some u ∧ u.bay = t.bay ∧ (b.gang g).reliefDue = false
    · obtain ⟨u, next, here, stays⟩ := goesOn
      obtain ⟨-, gang, -, -, -, -, bct, -⟩ := completeTask_records b g t
      obtain ⟨-, claim⟩ := (h.gangs g).active t first active
      rw [taskDoneReport_goesOn first active onDeck next here stays]
      exact done.goOn next (by rw [gang]; exact onDeck) (by rw [Berth.gangClaim, bct, here]; exact claim)
    · rw [taskDoneReport_ends first active onDeck fun u next here => by
        by_contra stays
        exact goesOn ⟨u, next, here, by simpa using stays⟩]
      exact done
  · rwa [taskDoneReport_refused fun t first own state => on ⟨t, first, own, state⟩]

/-! ## Coming off deck (R134, R139) -/

theorem comeOffDeck {g : Gang} {bay : Bay} (k : Bool) (held : b.gangClaim g = some { bay, standing := .confirmed }) :
    GangsInOrder (comeOffDeck b g k) := by
  have own := h.gangs g
  have onDeck := own.confirmed bay held
  have duty : (b.gang g).onDuty = true := by
    cases duty : (b.gang g).onDuty with
    | true => rfl
    | false => rw [(own.offDuty duty).1] at onDeck; cases onDeck
  obtain ⟨bct, -⟩ := comeOffDeck_rest b g k
  obtain ⟨claim, unlisted⟩ := own.released held
  have claim : (Machine.comeOffDeck b g k).gangClaim g = none := by rw [Berth.gangClaim, bct]; exact claim
  have unlisted : ∀ bay, (g, bay) ∉ (Machine.comeOffDeck b g k).bct.waiters := by rw [bct]; exact unlisted
  have unclaimed : ∀ x, (Machine.comeOffDeck b g k).gangClaim g = some x → x.standing = .confirmed
      ∧ ((Machine.comeOffDeck b g k).gang g).activity = .onDeck := fun x e => absurd (claim.symm.trans e) (by simp)
  refine ((h.but g).comeOffDeck k).restored ?_
  by_cases leaves : (b.gang g).reliefDue = true ∨ k = true
  · have gang := comeOffDeck_leaves_gang leaves
    exact .empty (by rw [gang]) (by rw [gang]) claim unlisted
  · obtain ⟨stays, goes⟩ := not_or.1 leaves
    have stays : (b.gang g).reliefDue = false := by simpa using stays
    obtain rfl : k = false := by simpa using goes
    by_cases owed : ∃ t, OwedToNobody b g t
    · obtain ⟨t, owed⟩ := owed
      obtain ⟨rest, list, new, nodup, queued⟩ := own.list owed.1
      obtain ⟨gang, others⟩ := comeOffDeck_stays_owed stays owed
      refine .resting (by rw [gang]; exact own.nodup.filter _) (fun n mem => ?_) unclaimed unlisted
        fun off => by rw [gang] at off; exact absurd (off.symm.trans duty) (by decide)
      rw [gang] at mem
      obtain ⟨mem, other⟩ := List.mem_filter.1 mem
      have other : n ≠ t.number := by simpa using other
      rw [list] at mem
      obtain ⟨u, found, isQueued⟩ := queued n ((List.mem_cons.1 mem).resolve_left other)
      exact ⟨u, others n u other found (by rw [isQueued]; decide), isQueued⟩
    · obtain ⟨gang, requeued, kept⟩ := comeOffDeck_stays_none stays (not_exists.1 owed)
      refine .resting (by rw [gang]; exact own.nodup) ?_ unclaimed unlisted
        fun off => by rw [gang] at off; exact absurd (off.symm.trans duty) (by decide)
      rw [gang]
      by_cases working : ∃ t, b.firstTask g = some t ∧ t.state = .active
      · obtain ⟨t, first, active⟩ := working
        obtain ⟨rest, list, new, nodup, queued⟩ := own.list first
        obtain ⟨again, others⟩ := requeued t first active
        intro n mem
        rw [list] at mem
        rcases List.mem_cons.1 mem with rfl | later
        · exact ⟨_, again, rfl⟩
        · rw [others n (ne_of_mem_of_not_mem later new)]
          exact queued n later
      · refine (own.allQueued_of_first fun t first => ?_).congr fun n _ =>
          task?_congr (kept fun t first active => working ⟨t, first, active⟩) n
        refine own.first_queued first (fun dispatched => ?_) fun active => working ⟨t, first, active⟩
        rcases own.dispatched t first dispatched with e | e <;> rw [onDeck] at e <;> cases e

end GangsInOrder

end Sys2Proof.Machine

/-! # Orders, stations and modes keep the gangs in agreement (O59) -/

namespace Sys2Proof.Machine

/-! ## Entries of a gang withdrawn -/

/-- R72, R78: a gang that loses its CLEARING claim or its waiter entries stays in order. -/
theorem GangInOrder.withdrawn {b b' : Berth} {g : Gang} (h : GangInOrder b g) (gang : b'.gang g = b.gang g)
    (tasks : ∀ n, b'.task? n = b.task? n)
    (claim : b'.gangClaim g = b.gangClaim g
      ∨ (b'.gangClaim g = none ∧ ∃ bay, b.gangClaim g = some { bay, standing := .clearing }))
    (waits : b'.bct.waiters ⊆ b.bct.waiters) : GangInOrder b' g := by
  have first : b'.firstTask g = b.firstTask g := firstTask_congr (by rw [gang]) fun n _ => tasks n
  have before : ∀ k, b'.gangClaim g = some k → b.gangClaim g = some k := fun k held => by
    rcases claim with same | ⟨none_, -⟩
    · rwa [same] at held
    · rw [none_] at held; cases held
  refine ⟨gang ▸ h.nodup, ?_, ?_, ?_, fun t head active => ?_, fun bay held => ?_, fun bay ask => ?_, fun bay mem => ?_,
    gang ▸ h.offDuty⟩
  · rw [gang]
    intro n mem
    rw [tasks]
    exact h.listed n mem
  · rw [gang]
    exact h.queued.congr fun n _ => tasks n
  · rw [first, gang]
    exact h.dispatched
  · rw [first] at head
    obtain ⟨onDeck, held⟩ := h.active t head active
    refine ⟨gang ▸ onDeck, ?_⟩
    rcases claim with same | ⟨-, bay, clearing⟩
    · rw [same, held]
    · exact absurd (clearing.symm.trans held) (by simp)
  · rw [gang]
    exact h.confirmed bay (before _ held)
  · rw [first, gang]
    exact h.asks bay (ask.imp (before _) fun mem => waits mem)
  · rcases claim with same | ⟨none_, -⟩
    · rw [same]
      exact h.waits bay (waits mem)
    · exact none_

namespace GangsInOrder

variable {b : Berth} (h : GangsInOrder b)
include h

/-! ## Orders (R132, R135) -/

/-- R132: the gang that a DECK_CLEAR names waits with a CLEARING claim at the bay of its DISPATCHED first task. -/
theorem awaits {g : Gang} {n : TaskNo} (waits : b.awaitsDeckClear g n = true) : ∃ t, b.firstTask g = some t ∧ t.number = n
    ∧ t.state = .dispatched ∧ b.gangClaim g = some { bay := t.bay, standing := .clearing } := by
  obtain ⟨bay, -, head, claim⟩ := (awaitsDeckClear_iff b g n).1 waits
  obtain ⟨-, t, first, dispatched, rfl⟩ := (h.gangs g).asks bay (Or.inl claim)
  exact ⟨t, first, Option.some.inj ((firstTask_head first).1.symm.trans head), dispatched, claim⟩

theorem gangDelivered (g : Gang) (body : OrderBody) : GangsInOrder (gangDelivered b g body) := by
  unfold Machine.gangDelivered
  split
  · split
    · next waits =>
      obtain ⟨t, first, rfl, dispatched, claim⟩ := h.awaits waits
      have but : InOrderBut (((b.setGangClaim g ((b.gangClaim g).map fun k => { k with standing := .confirmed })).modGang g
          fun r => { r with activity := .onDeck }).setTaskState t.number .active) g :=
        (((h.but g).setGangClaim _).modRecord rfl).setFirst .active
          (GangInOrder.firstTask_modGang (b := b.setGangClaim g _) (f := fun r => { r with activity := .onDeck }) rfl
            |>.trans first)
      refine but.restored ((h.gangs g).goesOnDeck first (Berth.gang_modGang ..) (fun _ => rfl) ?_
        ((h.gangs g).unlisted_of_claim claim))
      refine (Berth.gangClaim_setGangClaim ..).trans ?_
      rw [claim]
      rfl
    · exact h
  · exact h

theorem gangUndelivered (g : Gang) (body : OrderBody) : GangsInOrder (gangUndelivered b g body) := by
  unfold Machine.gangUndelivered
  split
  · split
    · next waits =>
      obtain ⟨t, first, rfl, dispatched, claim⟩ := h.awaits waits
      obtain ⟨unclaimed, unlisted⟩ := (h.gangs g).released claim
      refine ((h.but g).releaseGangClaim.modRecord rfl).restored ((h.gangs g).isAssigned first ?_ (fun m => ?_) unclaimed unlisted)
      · rw [Berth.gang_modGang, releaseGangClaim_gang]
      · rw [Berth.task?_modGang, releaseGangClaim_task?, setTaskState_again (firstTask_head first).2 dispatched]
    · exact h
  · split
    · next t first =>
      split
      · next stands =>
        obtain ⟨rfl, -, assigned⟩ := stands
        have onDeck : (b.gang g).activity ≠ .onDeck := by rw [assigned]; decide
        have waitDeck : (b.gang g).activity ≠ .waitDeck := by rw [assigned]; decide
        exact (((h.but g).setFirst .queued first).modRecord rfl).restored ((h.gangs g).standsDown first (Berth.gang_modGang ..)
          (fun _ => rfl) ((h.gangs g).unclaimed onDeck waitDeck) ((h.gangs g).unlisted waitDeck))
      · exact h
    · exact h
  · exact h

/-! ## Stations (R77, R140) -/

/-- R77: a gang ON_DECK has no deck request to give up. -/
theorem leaveNothing {g : Gang} (onDeck : (b.gang g).activity = .onDeck) : GangsInOrder (leaveDeckRequest b g) := by
  have waitDeck : (b.gang g).activity ≠ .waitDeck := by rw [onDeck]; decide
  have unlisted := (h.gangs g).unlisted waitDeck
  have claim : (leaveDeckRequest b g).gangClaim g = b.gangClaim g := by
    rcases leaveDeckRequest_cases b g with ⟨bay, clearing, -⟩ | ⟨-, e⟩
    · exact absurd ((h.gangs g).asks bay (Or.inl clearing)).1 waitDeck
    · rw [e]
      rfl
  exact (h.but g).leaveDeckRequest.restored ((h.gangs g).untouched
    ⟨leaveDeckRequest_gang b g, fun n _ => congrArg _ (leaveDeckRequest_task? b g n), claim,
      fun bay => iff_of_false (leaveDeckRequest_unlisted b g bay) (unlisted bay)⟩)

/-- R140: a gang keeps its ACTIVE task alone. -/
theorem keepActive (g : Gang) : GangsInOrder (keepActive b g) := by
  obtain ⟨gang, kept⟩ := keepActive_records b g
  have but : InOrderBut (Machine.keepActive b g) g := by
    rw [keepActive_eq]
    exact (h.but g).openUnlisted (List.filter_subset_self _)
  have bct : (Machine.keepActive b g).bct = b.bct := by
    rw [keepActive_eq, openUnlisted_eq]
    exact openAll_keeps (fun b => b.bct) (fun _ _ => rfl) b _
  refine but.restored ((h.gangs g).shrunk (by rw [gang]) (by rw [gang]) (by rw [gang]) (fun n _ gone => ?_) (fun n mem stays => ?_)
    (by rw [Berth.gangClaim, bct]; rfl) (by rw [bct]; exact fun _ => id))
  · obtain ⟨t, found, queued⟩ := (Option.any_eq_true ..).1 (show (b.task? n).any _ = true by simpa using gone)
    exact ⟨t, found, by simpa using queued⟩
  · obtain ⟨t, found, -⟩ := (h.gangs g).listed n mem
    rw [kept n t found (by simpa [found] using stays), found]

theorem gangOffline (g : Gang) : GangsInOrder (gangOffline b g) := by
  by_cases onDeck : (b.gang g).activity = .onDeck
  · have keeps : Machine.gangOffline b g = Machine.keepActive (leaveDeckRequest b g) g := if_pos onDeck
    rw [keeps]
    exact (h.leaveNothing onDeck).keepActive g
  · have leaves : Machine.gangOffline b g =
        ((leaveDeckRequest b g).giveUpTasks g).modGang g fun r => { r with activity := .idle } := if_neg onDeck
    obtain ⟨gang, -⟩ := gangOffline_offDeck onDeck
    have bct : (Machine.gangOffline b g).bct = (leaveDeckRequest b g).bct :=
      gangOffline_keeps (fun b => b.bct) (fun _ _ _ => rfl) (fun _ _ _ => rfl) b g
    have but : InOrderBut (Machine.gangOffline b g) g := by
      rw [leaves]
      exact (h.but g).leaveDeckRequest.giveUpTasks.modRecord rfl
    refine but.restored (.empty (by rw [gang]) (by rw [gang]) ?_ ?_)
    · rw [Berth.gangClaim, bct]
      exact leaveDeckRequest_unclaimed fun bay held => onDeck ((h.gangs g).confirmed bay held)
    · rw [bct]
      exact leaveDeckRequest_unlisted b g

/-! ## The entry into CONFIG (R78, R141) -/

theorem dropClearing (g : Gang) : GangsInOrder (dropClearing b g) := by
  unfold Machine.dropClearing
  split
  · next clearing =>
    obtain ⟨⟨bay, standing⟩, held, stands⟩ := (Option.any_eq_true ..).1 clearing
    obtain rfl : standing = .clearing := by simpa using stands
    exact ((h.but g).setGangClaim none).restored ((h.gangs g).withdrawn rfl (fun _ => rfl)
      (Or.inr ⟨Berth.gangClaim_setGangClaim .., bay, held⟩) fun _ => id)
  · exact h

theorem claimsEnterConfig : GangsInOrder (claimsEnterConfig b) := by
  rw [claimsEnterConfig_eq]
  refine foldl_kept (fun b g kept => kept.dropClearing g) allGangs ⟨⟨h.numbers, h.apart, List.nodup_nil⟩, fun g => ?_⟩
  exact (h.gangs g).withdrawn rfl (fun _ => rfl) (Or.inl rfl) (List.nil_subset _)

/-- R141: a gang that was called stands down, once no claim is CLEARING and no gang waits. -/
theorem gangEnterConfig (g : Gang) (claims : ∀ k, b.gangClaim g = some k → k.standing = .confirmed) (waiters : b.bct.waiters = []) :
    GangsInOrder (gangEnterConfig b g) := by
  by_cases settled : (b.gang g).activity ∈ [Activity.idle, .onDeck]
  · rwa [gangEnterConfig_settled settled]
  · have own := h.gangs g
    obtain ⟨idle, onDeck⟩ : (b.gang g).activity ≠ .idle ∧ (b.gang g).activity ≠ .onDeck := by simpa using settled
    have claim : b.gangClaim g = none := by
      cases held : b.gangClaim g with
      | none => rfl
      | some k =>
        obtain ⟨bay, standing⟩ := k
        obtain rfl := claims _ held
        exact absurd (own.confirmed bay held) onDeck
    have unlisted : ∀ bay, (g, bay) ∉ b.bct.waiters := fun bay => by rw [waiters]; exact List.not_mem_nil
    rw [gangEnterConfig_asks settled]
    refine ((h.but g).undispatchFirst.modRecord rfl).restored ?_
    by_cases called : ∃ t, b.firstTask g = some t ∧ t.state = .dispatched
    · obtain ⟨t, first, dispatched⟩ := called
      have requeued : undispatchFirst b g = b.setTaskState t.number .queued := by
        simp only [undispatchFirst, first, dispatched, if_true]
      rw [requeued]
      exact own.standsDown first (Berth.gang_modGang ..) (fun _ => rfl) claim unlisted
    · have unchanged : undispatchFirst b g = b := by
        unfold undispatchFirst
        split
        · next t first => exact if_neg fun dispatched => called ⟨t, first, dispatched⟩
        · rfl
      have gang : (b.modGang g fun r => { r with activity := .idle }).gang g = { b.gang g with activity := .idle } :=
        Berth.gang_modGang ..
      rw [unchanged]
      refine .resting (by rw [gang]; exact own.nodup) ?_ (fun k held => absurd (claim.symm.trans held) (by simp)) unlisted
        fun off => absurd (own.offDuty (by rwa [gang] at off)).1 idle
      rw [gang]
      exact own.allQueued_of_first fun t first => own.first_queued first (fun dispatched => called ⟨t, first, dispatched⟩)
        fun active => onDeck (own.active t first active).1

theorem enterConfig : GangsInOrder (allGangs.foldl Machine.gangEnterConfig (Machine.claimsEnterConfig b)) := by
  have entered : GangsInOrder (allGangs.foldl Machine.gangEnterConfig (Machine.claimsEnterConfig b))
      ∧ (allGangs.foldl Machine.gangEnterConfig (Machine.claimsEnterConfig b)).bct = (Machine.claimsEnterConfig b).bct := by
    refine foldl_kept (P := fun x : Berth => GangsInOrder x ∧ x.bct = (Machine.claimsEnterConfig b).bct) (fun x g kept => ?_)
      allGangs ⟨h.claimsEnterConfig, rfl⟩
    obtain ⟨order, bct⟩ := kept
    refine ⟨order.gangEnterConfig g (fun k held => ?_) (by rw [bct, claimsEnterConfig_waiters]),
      (gangEnterConfig_keeps (fun b => b.bct) (fun _ _ => rfl) (fun _ _ _ => rfl) x).trans bct⟩
    rw [Berth.gangClaim, bct] at held
    exact (claimsEnterConfig_claim held).1
  exact entered.1

end GangsInOrder

/-! ## Every change of the deck -/

/-- The changes of the deck keep the gangs in agreement with their tasks and their deck entries. -/
theorem gangsInOrder_deck : KeptOnDeck GangsInOrder where
  same {b b'} e h := by
    simp only [Berth.deck, Prod.mk.injEq] at e
    obtain ⟨-, -, bct, gangs, tasks, -⟩ := e
    exact h.congr gangs tasks (congrArg (·.gangClaims) bct) (congrArg (·.waiters) bct)
  reset k := .of_empty (fun g => by
    have gang : ({ Berth.reset with free := k } : Berth).gang g = GangRec.reset := Vector.getElem_replicate ..
    rw [gang]
    exact ⟨rfl, rfl⟩) (fun g => Vector.getElem_replicate ..) rfl rfl
  enter _ _ h := h.congr rfl rfl rfl rfl
  configured _ _ h := h.congr rfl rfl rfl rfl
  cleared {b} _ := .of_empty (fun g => by
    have gang : (clearAll b).gang g = (b.gang g).cleared := Vector.getElem_ofFn ..
    rw [gang]
    exact ⟨rfl, rfl⟩) (fun g => Vector.getElem_replicate ..) rfl rfl
  work _ h := h.congr rfl rfl rfl rfl
  released c f h := GangsInOrder.examineWaiters (h.congr rfl rfl rfl rfl)
  granted _ _ _ _ h := h.congr rfl rfl rfl rfl
  relinked links h := h.relink links
  created k bay c l new h := h.create k bay c l (Berth.freeTaskSlot_new new)
  dropped found h := h.dropUnlinked found
  assigned h := h.assignPass
  dispatched g h := h.dispatchGang g
  rostered g _ h := h.modRecord g rfl rfl id
  dutyOn g h := h.dutyOn g
  dutyOff g h := h.dutyOff g
  served g x h := h.serve g x
  request g n h := h.deckRequest g n
  done g n h := h.taskDone g n
  offDeck k held h := h.comeOffDeck k held
  delivered g body h := h.gangDelivered g body
  undelivered g body h := h.gangUndelivered g body
  offline g h := h.gangOffline g
  enterConfig h := h.enterConfig

/-- Settles O59: each change of the deck keeps the gangs in order, and so every step does. -/
theorem gangsStayInAgreement : Obligations.GangsStayInAgreement := by
  intro s t h e
  rw [gangsKept_iff] at h ⊢
  exact gangsInOrder_deck.taken.step h e

end Sys2Proof.Machine

/-! # The order board's rows (R170 to R173, R104; O42) -/

namespace Sys2Proof.Machine

/-! ## Posting to a slot (R170, R171) -/

section

variable {s : Slot} {o : OrderBody} {q : QTime} {cur nxt : Order}

theorem Slot.post_empty (empty : s.current = none) : s.post o q = { s with current := some (freshOrder o q) } := by
  simp [Slot.post, empty]

/-- R170, R171: an order that is not in flight is cancelled or replaced. -/
theorem Slot.post_waiting (current : s.current = some cur) (waits : cur.inFlight = false) : s.post o q =
    if o.cancels cur.body then Slot.empty else { s with current := some (freshOrder o q) } := by
  simp [Slot.post, current, waits]

theorem Slot.post_behind (current : s.current = some cur) (flies : cur.inFlight = true) (single : s.upcoming = none) :
    s.post o q = { s with upcoming := some (freshOrder o q) } := by
  simp [Slot.post, current, flies, single]

/-- R170, R171: behind an order in flight the next order gives way to that order's own canceller, or is replaced. -/
theorem Slot.post_next (current : s.current = some cur) (flies : cur.inFlight = true) (next : s.upcoming = some nxt) :
    s.post o q = if o.cancels nxt.body then { s with upcoming := cur.body.canceller.map fun x => freshOrder x q }
      else { s with upcoming := some (freshOrder o q) } := by
  simp [Slot.post, current, flies, next]

end

/-! ## The end of an attempt (R173) -/

/-- R173: an attempt's end that is the order's last, short of a delivery. -/
def AttemptEnd.final (e : AttemptEnd) (attempts : Nat) : Bool := e == .refused || decide (4 ≤ attempts + 1)

theorem AttemptEnd.final_of {e : AttemptEnd} {attempts : Nat} (last : e = .refused ∨ (e = .noReply ∧ attempts = 3)) :
    e.final attempts = true := by
  obtain rfl | ⟨rfl, rfl⟩ := last <;> rfl

theorem AttemptEnd.not_final {attempts : Nat} (few : attempts < 3) : AttemptEnd.noReply.final attempts = false :=
  decide_eq_false (by omega)

theorem AttemptEnd.final_undelivered {e : AttemptEnd} {attempts : Nat} (last : e = .refused ∨ (e = .noReply ∧ attempts = 3)) :
    e ≠ .accepted := by
  obtain rfl | ⟨rfl, -⟩ := last <;> simp

section

variable {cur : Order} {e : AttemptEnd} (q : QTime)

/-- R173: an undelivered attempt with no next order. -/
theorem Slot.endAttempt_alone (undelivered : e ≠ .accepted) : ({ current := some cur, upcoming := none } : Slot).endAttempt e q =
    if e.final cur.attempts then (Slot.empty, some (cur.body, false))
    else ({ current := some { cur with attempts := cur.attempts + 1, inFlight := false, queueTime := q }, upcoming := none },
      none) := by
  cases e with
  | accepted => exact absurd rfl undelivered
  | refused | noReply => rfl

/-- R173: an undelivered attempt with a next order, which cancels the order or takes its place. -/
theorem Slot.endAttempt_next (undelivered : e ≠ .accepted) (n : Order) :
    ({ current := some cur, upcoming := some n } : Slot).endAttempt e q =
      if n.body.cancels cur.body then (Slot.empty, none)
      else ({ current := some (n.becomeCurrent q), upcoming := none },
        if e.final cur.attempts then some (cur.body, false) else none) := by
  cases e with
  | accepted => exact absurd rfl undelivered
  | refused | noReply => rfl

end

/-! ## The promote queue (R104, R172, R173) -/

/-- R172: the queue time of an order that becomes head is set. -/
def setHeadTime (q : QTime) : List Order → List Order
  | [] => []
  | n :: ns => { n with queueTime := q } :: ns

theorem promotesAfter_kept (o : Order) (old new : List Order) (q : QTime) : promotesAfter (o :: old) (o :: new) q = o :: new :=
  if_pos rfl

theorem promotesAfter_left {o : Order} (old : List Order) {new : List Order} (q : QTime) (left : o ∉ new) :
    promotesAfter (o :: old) new q = setHeadTime q new := by
  cases new with
  | nil => rfl
  | cons n ns => exact if_neg (List.ne_of_not_mem_cons left)

/-- An order of the queue after a removal is one of those that stayed, but for its queue time. -/
theorem mem_promotesAfter {old new : List Order} {q : QTime} {o : Order} (mem : o ∈ promotesAfter old new q) :
    ∃ o' ∈ new, o.inFlight = o'.inFlight ∧ o.body = o'.body := by
  cases new with
  | nil => cases old <;> cases mem
  | cons n ns =>
    have kept (mem : o ∈ n :: ns) : ∃ o' ∈ n :: ns, o.inFlight = o'.inFlight ∧ o.body = o'.body := ⟨o, mem, rfl, rfl⟩
    cases old with
    | nil => exact kept mem
    | cons x xs =>
      simp only [promotesAfter] at mem
      split at mem
      · exact kept mem
      · rcases List.mem_cons.1 mem with rfl | mem
        · exact ⟨n, List.mem_cons_self, rfl, rfl⟩
        · exact kept (List.mem_cons_of_mem _ mem)

theorem promoteInto_full {b : Berth} (c : Crane) (fuel : Nat) (full : 8 ≤ b.qlc.promotes.length) : promoteInto c fuel b = b := by
  cases fuel with
  | zero => rfl
  | succ fuel => exact if_neg (Nat.not_lt.2 full)

/-- R104: the order stays in the promote queue when the entry with the tag is removed. -/
def Order.staysWithout (tag : Tag) (o : Order) : Bool := o.inFlight || o.body.promoteTag != some tag

theorem dequeuePromote_promotes (b : Berth) (tag : Tag) : (dequeuePromote b tag).qlc.promotes =
    promotesAfter b.qlc.promotes (b.qlc.promotes.filter (Order.staysWithout tag)) b.now := rfl

section

variable {b : Berth} {tag : Tag} {o : Order} {rest : List Order} (queue : b.qlc.promotes = o :: rest)
include queue

theorem dequeuePromote_headStays (stays : o.staysWithout tag = true) :
    (dequeuePromote b tag).qlc.promotes = o :: rest.filter (Order.staysWithout tag) := by
  rw [dequeuePromote_promotes, queue, List.filter_cons_of_pos stays, promotesAfter_kept]

theorem dequeuePromote_headLeaves (leaves : o.staysWithout tag = false) :
    (dequeuePromote b tag).qlc.promotes = setHeadTime b.now (rest.filter (Order.staysWithout tag)) := by
  rw [dequeuePromote_promotes, queue, List.filter_cons_of_neg (by simp [leaves]), promotesAfter_left]
  intro mem
  rw [List.mem_filter, leaves] at mem
  exact Bool.false_ne_true mem.2

end

section

variable {o : Order} {rest : List Order} {e : AttemptEnd} (q : QTime)

/-- R173: the head leaves the queue, and with it nothing else. -/
theorem promotesEndAttempt_leaves (left : o ∉ rest) :
    (e = .accepted → promotesEndAttempt (o :: rest) e q = (setHeadTime q rest, some (o.body, true)))
    ∧ (e = .refused ∨ (e = .noReply ∧ o.attempts = 3) →
      promotesEndAttempt (o :: rest) e q = (setHeadTime q rest, some (o.body, false))) := by
  have after := promotesAfter_left rest q left
  refine ⟨?_, ?_⟩
  · rintro rfl
    simp only [promotesEndAttempt, after]
  · rintro (rfl | ⟨rfl, attempts⟩)
    · simp only [promotesEndAttempt, after]
    · simp [promotesEndAttempt, after, attempts]

theorem promotesEndAttempt_again (few : o.attempts < 3) : promotesEndAttempt (o :: rest) .noReply q =
    ({ o with attempts := o.attempts + 1, inFlight := false, queueTime := q } :: rest, none) :=
  if_neg (by omega)

end

/-! ## The obligation -/

/-- Settles O42. -/
theorem orderSlotRows : Obligations.OrderSlotRows := by
  refine ⟨fun s o q => ⟨fun empty => ?_, fun cur current waits cancels => ?_, fun cur current waits other => ?_,
      fun cur => Slot.post_behind, fun cur nxt current flies next cancels => ?_, fun cur nxt current flies next other => ?_⟩,
    fun cur nxt e q => ⟨?_, ?_, ?_, ?_, ?_, ?_, ?_⟩, fun _ _ => rfl, fun _ c fuel => promoteInto_full c fuel,
    fun b tag => ⟨rfl, fun o rest => dequeuePromote_headStays, fun o rest queue leaves => ⟨fun none_ => ?_, fun n ns some_ => ?_⟩,
      fun empty => ?_⟩,
    fun o rest e q flies waiting => ?_⟩
  · rw [Slot.post_empty empty]
  · rw [Slot.post_waiting current waits, if_pos cancels]
  · rw [Slot.post_waiting current waits, if_neg (by simp [other])]
  · rw [Slot.post_next current flies next, if_pos cancels]
  · rw [Slot.post_next current flies next, if_neg (by simp [other])]
  · rintro rfl rfl
    rfl
  · rintro last rfl
    rw [Slot.endAttempt_alone q (AttemptEnd.final_undelivered last), if_pos (AttemptEnd.final_of last)]
  · rintro rfl few rfl
    rw [Slot.endAttempt_alone q (by simp), AttemptEnd.not_final few]
    rfl
  · rintro n rfl undelivered cancels
    rw [Slot.endAttempt_next q undelivered, if_pos cancels]
  · rintro n rfl rfl
    rfl
  · rintro n rfl last other
    rw [Slot.endAttempt_next q (AttemptEnd.final_undelivered last), if_neg (by simp [other]), if_pos (AttemptEnd.final_of last)]
  · rintro n rfl rfl few other
    rw [Slot.endAttempt_next q (by simp), if_neg (by simp [other]), AttemptEnd.not_final few]
    rfl
  · rw [dequeuePromote_headLeaves queue leaves]
    exact congrArg _ none_
  · rw [dequeuePromote_headLeaves queue leaves]
    exact congrArg _ some_
  · rw [dequeuePromote_promotes, empty]
    rfl
  · have left : o ∉ rest := fun mem => absurd (waiting o mem) (by simp [flies])
    obtain ⟨delivered, refused⟩ := promotesEndAttempt_leaves (e := e) q left
    refine ⟨fun accepted => (delivered accepted).trans ?_, fun last => (refused last).trans ?_, ?_⟩
    · cases rest <;> rfl
    · cases rest <;> rfl
    · rintro rfl few
      exact promotesEndAttempt_again q few

end Sys2Proof.Machine

/-! # TRUCK_REMOVE and TRUCK_VERIFY (R106 to R109; O20) -/

namespace Sys2Proof.Machine

/-! ## The two commands -/

section

variable {s : State} {tag : Tag} {b : Berth} {r : Res} (ready : PortReady s)
include ready

theorem exec_truckRemove (own : ownTruckRemove s.berth (bytes24 tag) = (b, r)) :
    exec (.truckRemove (bytes24 tag)) s = .next (applied 0x3A b r s) :=
  congrArg _ (hostWrite_owned (code := 0x3A) ready rfl rfl le_rfl le_rfl (by cases s.berth.mode <;> rfl) own)

theorem exec_truckVerify (own : ownTruckVerify s.berth (bytes24 tag) = (b, r)) :
    exec (.truckVerify (bytes24 tag)) s = .next (applied 0x39 b r s) :=
  congrArg _ (hostWrite_owned (code := 0x39) ready rfl rfl le_rfl le_rfl (by cases s.berth.mode <;> rfl) own)

end

section

variable {b : Berth} {tag : Tag} {p : Place}

theorem ownTruckRemove_found (found : b.findTruck tag = some p) :
    ownTruckRemove b (bytes24 tag) = (settle (removeTruck b p), p.res) := by
  simp [ownTruckRemove, found]

theorem ownTruckRemove_none (absent : b.findTruck tag = none) : ownTruckRemove b (bytes24 tag) = (b, unknownTag) := by
  simp [ownTruckRemove, absent]

theorem ownTruckVerify_found (found : b.findTruck tag = some p) :
    ownTruckVerify b (bytes24 tag) = (settle (verifyTruck b p), p.res) := by
  simp [ownTruckVerify, found]

theorem ownTruckVerify_none (absent : b.findTruck tag = none) : ownTruckVerify b (bytes24 tag) = (b, unknownTag) := by
  simp [ownTruckVerify, absent]

end

/-! ## An entry dropped from its stand (R100, R104, R106) -/

section

variable (b : Berth) (c : Crane) (t : Truck)

theorem dropEntry_stand : (dropEntry b c t).stand c = (b.stand c).filter fun u => u.stay != t.stay :=
  Berth.stand_modStand ..

theorem dropEntry_stand_other {d : Crane} (other : d ≠ c) : (dropEntry b c t).stand d = b.stand d :=
  Berth.stand_modStand_other _ _ _ _ other

/-- R104: no order that names the entry waits in the queue. -/
theorem dropEntry_promotes {o : Order} (mem : o ∈ (dropEntry b c t).qlc.promotes) :
    o.inFlight = true ∨ o.body.promoteTag ≠ some t.tag := by
  obtain ⟨o', stays, flies, body⟩ := mem_promotesAfter mem
  rw [flies, body]
  simpa using (List.mem_filter.1 stays).2

end

/-! ## A removal from a stand by the entry's state (R106, R107) -/

/-- The berth from which a removed entry is dropped: the grant withdrawn, or the lift left without its truck, where the
entry was bound. -/
def lettingGo (b : Berth) (c : Crane) (t : Truck) : Berth :=
  if t.state = .bound ∧ (b.crane c).grantTruck = some t.tag then
    match (b.crane c).work with
    | .granted => withdraw b c .truckGone
    | .lifting => truckLeavesLift b c
    | .idle | .waiting => b
  else b

theorem removeTruck_stand (b : Berth) (c : Crane) (t : Truck) :
    removeTruck b (.stand c t) = dropEntry (lettingGo b c t) c t := by
  simp only [removeTruck, lettingGo]
  split
  · cases (b.crane c).work <;> rfl
  · rfl

section

variable {b : Berth} {c : Crane} {t : Truck}

theorem lettingGo_unbound (free : t.state ≠ .bound) : lettingGo b c t = b := if_neg fun both => free both.1

section

variable (bound : t.state = .bound) (truck : (b.crane c).grantTruck = some t.tag)
include bound truck

theorem lettingGo_granted (granted : (b.crane c).work = .granted) : lettingGo b c t = withdraw b c .truckGone := by
  simp [lettingGo, bound, truck, granted]

theorem lettingGo_lifting (lifting : (b.crane c).work = .lifting) : lettingGo b c t = truckLeavesLift b c := by
  simp [lettingGo, bound, truck, lifting]

end

/-- A reading that neither a withdrawal nor a lift's loss of its truck changes. -/
theorem lettingGo_keeps {α : Type} (f : Berth → α) (withdrawn : f (withdraw b c .truckGone) = f b)
    (left : f (truckLeavesLift b c) = f b) : f (lettingGo b c t) = f b := by
  unfold lettingGo
  split
  · cases (b.crane c).work with
    | granted => exact withdrawn
    | lifting => exact left
    | idle | waiting => rfl
  · rfl

theorem lettingGo_stand_other {d : Crane} (other : d ≠ c) : (lettingGo b c t).stand d = b.stand d :=
  lettingGo_keeps (fun b => b.stand d) (withdraw_elsewhere b c .truckGone other).2.2 rfl

theorem lettingGo_holding : (lettingGo b c t).shu.holding = b.shu.holding :=
  lettingGo_keeps (fun b => b.shu.holding) (withdraw_holding ..) rfl

end

/-- R107: the lift that its truck has left. -/
theorem truckLeavesLift_records (b : Berth) (c : Crane) : let b' := truckLeavesLift b c
    b'.tickets = b.tickets.map (fun x => if (b.crane c).lift.contains x.number then
        { x with truck := none, lane := none, marks := { x.marks with fault := true } } else x)
      ∧ b'.crane c = { b.crane c with grantTruck := none, grantLane := none } ∧ b'.bct = b.bct
      ∧ b'.nu.raw = b.nu.raw ||| liftFault :=
  ⟨rfl, Berth.crane_modCrane .., rfl, rfl⟩

/-! ## A verification (R109) -/

theorem verifyTruck_stand (b : Berth) (c : Crane) (t : Truck) : verifyTruck b (.stand c t) = b.modStand c fun l =>
    l.map fun u => if u.stay = t.stay then { u with unverified := false } else u :=
  congrArg (b.modStand c) (funext fun _ => List.map_congr_left fun _ _ => if_congr beq_iff_eq rfl rfl)

theorem verifyTruck_holding (b : Berth) (place : Nat) (t : Truck) : verifyTruck b (.holding place t) =
    { b with shu := { b.shu with
      holding := b.shu.holding.map fun u => if u.arrival = t.arrival then { u with unverified := false } else u } } :=
  congrArg (fun l => { b with shu := { b.shu with holding := l } }) (List.map_congr_left fun _ _ => if_congr beq_iff_eq rfl rfl)

/-! ## The obligation -/

/-- Settles O20: a removal from a stand is the entry dropped from the berth that has let it go. -/
theorem truckWrites : Obligations.TruckWrites := by
  refine ⟨fun s tag ready => ⟨fun p found => ⟨?_, ?_⟩, fun absent => ⟨?_, ?_⟩⟩, fun _ _ _ => rfl, fun b c t => ?_,
    verifyTruck_stand, verifyTruck_holding⟩
  · exact exec_truckRemove ready (ownTruckRemove_found found)
  · exact exec_truckVerify ready (ownTruckVerify_found found)
  · exact exec_truckRemove ready (ownTruckRemove_none absent)
  · exact exec_truckVerify ready (ownTruckVerify_none absent)
  · rw [removeTruck_stand]
    refine ⟨fun u mem => ?_, fun d other => ?_, rfl, lettingGo_holding, fun o => dropEntry_promotes _ c t,
      fun free => ?_, fun bound truck granted => ?_, fun bound truck lifting => ?_⟩
    · rw [dropEntry_stand] at mem
      simpa using (List.mem_filter.1 mem).2
    · exact (dropEntry_stand_other _ c t other).trans (lettingGo_stand_other other)
    · rw [lettingGo_unbound free]
      exact ⟨dropEntry_stand b c t, rfl, rfl, rfl, rfl, rfl⟩
    · rw [lettingGo_granted bound truck granted]
      exact ⟨rfl, rfl, rfl, rfl⟩
    · rw [lettingGo_lifting bound truck lifting]
      exact truckLeavesLift_records b c

end Sys2Proof.Machine

/-! # RULE_WRITE (R97, R98; O21) -/

namespace Sys2Proof.Machine

/-! ## The command -/

section

variable {s : State} {body : List Byte} {b : Berth} {r : Res}

theorem exec_ruleWrite (ready : PortReady s) (long : body.length = 16) (own : ownRuleWrite s.berth body = (b, r)) :
    exec (.ruleWrite body) s = .next (applied 0x48 b r s) :=
  congrArg _ (hostWrite_owned (code := 0x48) ready rfl rfl long.ge long.le (by cases s.berth.mode <;> rfl) own)

theorem ownRuleWrite_beyond (beyond : b.sizes.ruleSlots ≤ (byteAt body 0).toNat) : ownRuleWrite b body = (b, badField 0) :=
  if_neg (Nat.not_lt.2 beyond)

theorem ownRuleWrite_invalid {o : Byte} (slot : (byteAt body 0).toNat < b.sizes.ruleSlots) (invalid : ruleInvalid body = some o) :
    ownRuleWrite b body = (b, badField o) := by
  simp [ownRuleWrite, slot, invalid]

theorem ownRuleWrite_valid (slot : (byteAt body 0).toNat < b.sizes.ruleSlots) (valid : ruleInvalid body = none) :
    ownRuleWrite b body = ({ b with shu := { b.shu with rules := b.shu.rules.set (byteAt body 0).toNat (ruleOf body) } },
      okRes (BitVec.ofNat 16 (byteAt body 0).toNat)) := by
  simp [ownRuleWrite, slot, valid]

end

/-! ## The codes of a rule's fields (11.1) -/

theorem boolOf?_isSome (x : Byte) : (boolOf? x).isSome = true ↔ x ∈ [(0 : Byte), 1] := by
  unfold boolOf?
  split_ifs <;> simp_all

theorem condOf?_isSome (x : Byte) : (condOf? x).isSome = true ↔ x ∈ [(1 : Byte), 2, 3] := by
  unfold condOf?
  split_ifs <;> simp_all

theorem actionOf?_isSome (x : Byte) : (actionOf? x).isSome = true ↔ x ∈ [(1 : Byte), 2, 3, 4] := by
  unfold actionOf?
  split_ifs <;> simp_all

theorem boolByte_beq_one {x : Byte} (flag : x ∈ [(0 : Byte), 1]) : boolByte (x == 1) = x := by
  rcases List.mem_pair.1 flag with rfl | rfl <;> rfl

theorem condOf?_code {x : Byte} (cond : (condOf? x).isSome = true) : (condOf? x).map CargoCond.code = some x := by
  rw [condOf?_isSome] at cond
  simp only [List.mem_cons, List.not_mem_nil, or_false] at cond
  rcases cond with rfl | rfl | rfl <;> rfl

theorem actionOf?_code {x : Byte} (action : (actionOf? x).isSome = true) : (actionOf? x).map RuleAction.code = some x := by
  rw [actionOf?_isSome] at action
  simp only [List.mem_cons, List.not_mem_nil, or_false] at action
  rcases action with rfl | rfl | rfl | rfl <;> rfl

/-- R97: the mask counts for CRANES and HOLD. -/
theorem actionOf?_masked (x : Byte) : (actionOf? x = some .cranes ∨ actionOf? x = some .hold) ↔ (x = 1 ∨ x = 2) := by
  unfold actionOf?
  split_ifs <;> simp_all

/-! ## The owner's letters (R97; log 39) -/

theorem takeWhile_stops {α : Type} (p : α → Bool) (l : List α) :
    l.takeWhile p = l ∨ ∃ x, l[(l.takeWhile p).length]? = some x ∧ p x = false := by
  induction l with
  | nil => exact Or.inl rfl
  | cons x xs ih =>
    cases keeps : p x with
    | false => exact Or.inr ⟨x, by simp [keeps], keeps⟩
    | true => simpa [List.takeWhile_cons, keeps] using ih

theorem isLetter_iff (x : Byte) : isLetter x = true ↔ 0x41 ≤ x.toNat ∧ x.toNat ≤ 0x5A := by
  simp [isLetter, BitVec.le_def]

theorem ownerValid_iff (l : List Byte) : ownerValid l = true ↔ ∃ xs ys, l = xs ++ ys ∧ (∀ x ∈ xs, isLetter x = true)
    ∧ (ys = [] ∨ ys.head? = some 0) ∧ ∀ y ∈ ys, ¬ isLetter y = true := by
  induction l with
  | nil => exact ⟨fun _ => ⟨[], [], rfl, by simp, Or.inl rfl, by simp⟩, fun _ => rfl⟩
  | cons x xs ih =>
    by_cases pad : x = 0
    · subst pad
      have zero : isLetter 0 = false := rfl
      simp only [ownerValid, if_pos, List.all_eq_true, Bool.not_eq_true']
      refine ⟨fun rest => ⟨[], 0 :: xs, rfl, by simp, Or.inr rfl, List.forall_mem_cons.2 ⟨Bool.eq_false_iff.1 zero, by simpa using rest⟩⟩, ?_⟩
      rintro ⟨as, ys, split_, letters, -, padding⟩
      cases as with
      | nil =>
        subst split_
        intro y mem
        simpa using padding y (List.mem_cons_of_mem _ mem)
      | cons a as =>
        cases split_
        exact absurd (zero.symm.trans (letters 0 List.mem_cons_self)) Bool.false_ne_true
    · simp only [ownerValid, if_neg pad, Bool.and_eq_true, ih]
      constructor
      · rintro ⟨letter, as, ys, rfl, letters, ends, padding⟩
        exact ⟨x :: as, ys, rfl, by simpa [letter] using letters, ends, padding⟩
      · rintro ⟨as, ys, split_, letters, ends, padding⟩
        cases as with
        | nil =>
          subst split_
          rcases ends with none_ | head
          · cases none_
          · exact absurd (Option.some.inj head) pad
        | cons a as =>
          cases split_
          exact ⟨letters x List.mem_cons_self, as, ys, rfl, fun y mem => letters y (List.mem_cons_of_mem _ mem), ends, padding⟩

/-! ## The fields in order (R97; log 9) -/

theorem firstInvalid_cons (ok : Bool) (offset : Byte) (l : List (Bool × Byte)) :
    firstInvalid ((ok, offset) :: l) = if ok then firstInvalid l else some offset := rfl

/-- R97: the fields behind the tags: the cargo condition, the owner, the action and the mask. -/
def ruleTailInvalid (body : List Byte) : Option Byte :=
  firstInvalid [((condOf? (byteAt body 9)).isSome, 9), (ownerValid (slice body 10 4), 10),
    ((actionOf? (byteAt body 14)).isSome, 14),
    (!((byteAt body 14 == 1 || byteAt body 14 == 2) && byteAt body 15 == 0), 15)]

section

variable {body : List Byte}

theorem ruleInvalid_flag (flag : byteAt body 1 ∉ [(0 : Byte), 1]) : ruleInvalid body = some 1 :=
  if_neg (mt (boolOf?_isSome _).1 flag)

variable (flag : byteAt body 1 ∈ [(0 : Byte), 1])
include flag

/-- The order of the tags is the free choice's where both are in range. -/
theorem ruleInvalid_tags : ruleInvalid body =
    if validTag (word24At body 2) && (decide (word24At body 2 ≤ word24At body 5) || Config.tagOrderAtHi
        || !validTag (word24At body 5)) then
      if validTag (word24At body 5) && decide (word24At body 2 ≤ word24At body 5) then ruleTailInvalid body else some 5
    else some 2 :=
  if_pos ((boolOf?_isSome _).2 flag)

theorem ruleInvalid_lo (lo : validTag (word24At body 2) = false) : ruleInvalid body = some 2 := by
  simp [ruleInvalid_tags flag, lo]

theorem ruleInvalid_hi (lo : validTag (word24At body 2) = true) (hi : validTag (word24At body 5) = false) :
    ruleInvalid body = some 5 := by
  simp [ruleInvalid_tags flag, lo, hi]

theorem ruleInvalid_order (lo : validTag (word24At body 2) = true) (hi : validTag (word24At body 5) = true)
    (wrong : (word24At body 5).toNat < (word24At body 2).toNat) : ruleInvalid body = some 2 ∨ ruleInvalid body = some 5 := by
  have order : ¬ word24At body 2 ≤ word24At body 5 := Nat.not_le.2 wrong
  cases free : Config.tagOrderAtHi with
  | false => exact Or.inl (by simp [ruleInvalid_tags flag, lo, hi, order, free])
  | true => exact Or.inr (by simp [ruleInvalid_tags flag, lo, order, free])

theorem ruleInvalid_tail (lo : validTag (word24At body 2) = true) (hi : validTag (word24At body 5) = true)
    (order : (word24At body 2).toNat ≤ (word24At body 5).toNat) : ruleInvalid body = ruleTailInvalid body := by
  have order : word24At body 2 ≤ word24At body 5 := order
  simp [ruleInvalid_tags flag, lo, hi, order]

end

section

variable {body : List Byte}

theorem ruleTailInvalid_cond (cond : byteAt body 9 ∉ [(1 : Byte), 2, 3]) : ruleTailInvalid body = some 9 :=
  if_neg (mt (condOf?_isSome _).1 cond)

variable (cond : byteAt body 9 ∈ [(1 : Byte), 2, 3])
include cond

theorem ruleTailInvalid_owner (owner : ownerValid (slice body 10 4) = false) : ruleTailInvalid body = some 10 := by
  simp [ruleTailInvalid, firstInvalid_cons, (condOf?_isSome _).2 cond, owner]

variable (owner : ownerValid (slice body 10 4) = true)
include owner

theorem ruleTailInvalid_action (action : byteAt body 14 ∉ [(1 : Byte), 2, 3, 4]) : ruleTailInvalid body = some 14 := by
  have none_ : (actionOf? (byteAt body 14)).isSome = false := Bool.eq_false_iff.2 (mt (actionOf?_isSome _).1 action)
  simp only [ruleTailInvalid, firstInvalid_cons, (condOf?_isSome _).2 cond, owner, none_]
  rfl

/-- The last check: an action, and the mask of CRANES and HOLD. -/
theorem ruleTailInvalid_mask (action : byteAt body 14 ∈ [(1 : Byte), 2, 3, 4]) : ruleTailInvalid body =
    if byteAt body 14 ∈ [(1 : Byte), 2] ∧ byteAt body 15 = 0 then some 15 else none := by
  simp only [ruleTailInvalid, firstInvalid_cons, (condOf?_isSome _).2 cond, owner, (actionOf?_isSome _).2 action, if_true]
  rw [← ite_not]
  exact if_congr (by simp [or_iff_not_imp_left]) rfl rfl

end

/-! ## The rule written (R97, R98) -/

theorem inSet_members (x : Byte) (ch : Chassis) : inSet (x.extractLsb' 0 4) ch.code.toNat = inSet x ch.code.toNat := by
  cases ch <;> simp [inSet, Chassis.code]

theorem ruleOf_fields {body : List Byte} (valid : ruleInvalid body = none) : let r := ruleOf body
    boolByte r.enabled = byteAt body 1 ∧ r.cond.map CargoCond.code = some (byteAt body 9)
      ∧ r.action.map RuleAction.code = some (byteAt body 14) := by
  have fields := firstInvalid_none valid
  simp only [List.forall_mem_cons] at fields
  obtain ⟨flag, -, -, cond, -, action, -⟩ := fields
  exact ⟨boolByte_beq_one ((boolOf?_isSome _).1 flag), condOf?_code cond, actionOf?_code action⟩

theorem ruleOf_owner (body : List Byte) : let r := ruleOf body
    r.owner <+: slice body 10 4 ∧ (∀ x ∈ r.owner, x ≠ 0)
      ∧ (r.owner = slice body 10 4 ∨ (slice body 10 4)[r.owner.length]? = some 0) := by
  refine ⟨List.takeWhile_prefix _, fun x mem => by simpa using List.mem_takeWhile_imp mem, ?_⟩
  rcases takeWhile_stops (fun x : Byte => x != 0) (slice body 10 4) with whole | ⟨x, place, stop⟩
  · exact Or.inl whole
  · obtain rfl : x = 0 := by simpa using stop
    exact Or.inr place

theorem ruleOf_mask (body : List Byte) : (ruleOf body).mask =
    if (ruleOf body).action = some .cranes ∨ (ruleOf body).action = some .hold then byteAt body 15 else 0 :=
  if_congr (actionOf?_masked _).symm rfl rfl

/-! ## The obligation -/

/-- Settles O21. -/
theorem ruleWriteReplacesSlot : Obligations.RuleWriteReplacesSlot := by
  refine ⟨fun s body ready long slot valid => exec_ruleWrite ready long (ownRuleWrite_valid slot valid), fun body valid => ?_,
    fun s body ready long => ⟨fun beyond => ?_, fun slot o invalid => ?_⟩, fun body => ⟨ruleInvalid_flag, fun flag => ?_⟩,
    fun l => ?_⟩
  · obtain ⟨enabled, cond, action⟩ := ruleOf_fields valid
    obtain ⟨begins, letters, stops⟩ := ruleOf_owner body
    exact ⟨enabled, rfl, rfl, fun ch => inSet_members _ ch, cond, action, begins, letters, stops, ruleOf_mask body⟩
  · exact exec_ruleWrite ready long (ownRuleWrite_beyond beyond)
  · exact exec_ruleWrite ready long (ownRuleWrite_invalid slot invalid)
  · refine ⟨ruleInvalid_lo flag, ruleInvalid_hi flag, ruleInvalid_order flag, fun lo hi order => ?_⟩
    rw [ruleInvalid_tail flag lo hi order]
    refine ⟨ruleTailInvalid_cond, fun cond => ⟨ruleTailInvalid_owner cond, fun owner => ⟨ruleTailInvalid_action cond owner,
      fun masked empty => ?_, fun full => ?_⟩⟩⟩
    · rw [ruleTailInvalid_mask cond owner (List.mem_append_left [3, 4] masked), if_pos ⟨masked, empty⟩]
    · rcases full with unmasked | ⟨masked, full⟩
      · rw [ruleTailInvalid_mask cond owner (List.mem_append_right [1, 2] unmasked), if_neg]
        rintro ⟨masked, -⟩
        rcases List.mem_pair.1 unmasked with act | act <;> rw [act] at masked <;> exact absurd masked (by decide)
      · rw [ruleTailInvalid_mask cond owner (List.mem_append_left [3, 4] masked), if_neg fun both => full both.2]
  · simp only [ownerValid_iff, isLetter_iff]

end Sys2Proof.Machine

/-! # ARRIVE and DEPART (R89, R90, R94, R95, R106; O35) -/

namespace Sys2Proof.Machine

/-! ## The body of an ARRIVE (R89, 11.5) -/

theorem word24At_bytes24 (n : BitVec 24) (l : List Byte) : word24At (bytes24 n ++ l) 0 = n := bytes24_join n

/-- R89: the number of IDs is the low two bits of the info byte. -/
theorem arriveCount (info : Byte) : (info &&& 0x03).toNat = (info.extractLsb' 0 2).toNat := by
  simpa using Nat.and_two_pow_sub_one_eq_mod info.toNat 2

/-- The body of an ARRIVE: the tag, the info byte and the IDs. -/
def arriveBody (tag : Tag) (info : Byte) (ids : List Byte) : List Byte := bytes24 tag ++ [info] ++ ids

theorem arriveBody_length (tag : Tag) (info : Byte) (ids : List Byte) : (arriveBody tag info ids).length = 4 + ids.length := by
  simp [arriveBody]
  omega

section

variable {b : Berth} {tag : Tag} {info : Byte} {ids : List Byte} {cargo : List ContainerId}

theorem arriveReport_malformed (malformed : cargoOf? (arriveBody tag info ids) (info.extractLsb' 0 2).toNat = none) :
    arriveReport b (arriveBody tag info ids) = (b.raise arrivalRefused, refuse .rejected) := by
  have byte : byteAt (arriveBody tag info ids) 3 = info := rfl
  simp only [arriveReport, byte, arriveCount, malformed]

variable (long : ids.length = 8 * (info.extractLsb' 0 2).toNat)
  (formed : cargoOf? (arriveBody tag info ids) (info.extractLsb' 0 2).toNat = some cargo)
include long formed

/-- R89, R90: the checks of an ARRIVE of well-formed IDs whose length its count allows, in order. -/
theorem arriveReport_formed : arriveReport b (arriveBody tag info ids) =
    if !validTag tag then (b.raise arrivalRefused, refuse .rejected)
    else if (b.findTruck tag).isSome then (b.raise arrivalRefused, refuse .duplicateTag)
    else if !info.msb && !b.params.lenient then (b.raise arrivalRefused, refuse .unverified)
    else takeIn b tag (chassisOf (info.extractLsb' 2 2)) cargo (!info.msb) := by
  have named : word24At (arriveBody tag info ids) 0 = tag := word24At_bytes24 tag ([info] ++ ids)
  have byte : byteAt (arriveBody tag info ids) 3 = info := rfl
  have length : (arriveBody tag info ids).length = 4 + 8 * (info.extractLsb' 0 2).toNat := by rw [arriveBody_length, long]
  simp only [arriveReport, named, byte, arriveCount, formed, length, bne_self_eq_false, Bool.or_false]

theorem arriveReport_invalidTag (invalid : validTag tag = false) :
    arriveReport b (arriveBody tag info ids) = (b.raise arrivalRefused, refuse .rejected) := by
  simp [arriveReport_formed long formed, invalid]

theorem arriveReport_duplicate (valid : validTag tag = true) {p : Place} (held : b.findTruck tag = some p) :
    arriveReport b (arriveBody tag info ids) = (b.raise arrivalRefused, refuse .duplicateTag) := by
  simp [arriveReport_formed long formed, valid, held]

theorem arriveReport_unverified (valid : validTag tag = true) (absent : b.findTruck tag = none) (mark : info.msb = false)
    (strict : b.params.lenient = false) :
    arriveReport b (arriveBody tag info ids) = (b.raise arrivalRefused, refuse .unverified) := by
  simp [arriveReport_formed long formed, valid, absent, mark, strict]

theorem arriveReport_takenIn (valid : validTag tag = true) (absent : b.findTruck tag = none)
    (policy : info.msb = true ∨ b.params.lenient = true) : arriveReport b (arriveBody tag info ids) =
      takeIn b tag (chassisOf (info.extractLsb' 2 2)) cargo (!info.msb) := by
  have passes : (!info.msb && !b.params.lenient) = false := by
    obtain pass | pass := policy <;> simp [pass]
  simp [arriveReport_formed long formed, valid, absent, passes]

end

/-- R89: an ARRIVE of no, one or two IDs has one of its three lengths. -/
theorem arriveBody_allowed (tag : Tag) {info : Byte} {ids : List Byte} (long : ids.length = 8 * (info.extractLsb' 0 2).toNat)
    (few : (info.extractLsb' 0 2).toNat ≤ 2) : lengthAllowed kindArrive (arriveBody tag info ids) = true
      ∧ (arriveBody tag info ids).length ≤ maxFrameBody := by
  have length := arriveBody_length tag info ids
  have lengths : (arriveBody tag info ids).length = 4 ∨ (arriveBody tag info ids).length = 12
      ∨ (arriveBody tag info ids).length = 20 := by omega
  refine ⟨?_, by simp only [maxFrameBody]; omega⟩
  show ((_ == 4 || _ == 12) || _ == 20) = true
  simpa [or_assoc] using lengths

/-! ## Gate frames in RUN -/

section

variable {s : State} {body : List Byte} {b : Berth} {r : Reply}

theorem exec_arrive (speaks : StationSpeaks s gateIn) (allowed : lengthAllowed kindArrive body = true)
    (short : body.length ≤ maxFrameBody) (own : arriveReport (heardFrom s.berth gateIn) body = (b, r)) :
    exec (.arrive (frameOf gateIn 2 body)) s = .next (replied s gateIn b r) := by
  have taken : ownReport (heardFrom s.berth gateIn) (roleOf gateIn) kindArrive body = (b, r) := own
  exact congrArg _ ((frameEvent_run speaks (by decide) (by decide) rfl rfl allowed short).trans (by rw [taken]))

theorem exec_depart (speaks : StationSpeaks s gateOut) {tag : Tag} (own : departReport (heardFrom s.berth gateOut) tag = (b, r)) :
    exec (.depart (frameOf gateOut 2 (bytes24 tag))) s = .next (replied s gateOut b r) := by
  have taken : ownReport (heardFrom s.berth gateOut) (roleOf gateOut) kindDepart (bytes24 tag) = (b, r) := by
    rw [← own]
    exact congrArg (departReport (heardFrom s.berth gateOut)) (word24At_bytes24_nil tag)
  exact congrArg _ ((frameEvent_run speaks (by decide) (by decide) rfl rfl rfl (by simp [maxFrameBody])).trans (by rw [taken]))

end

section

variable {b : Berth} {tag : Tag}

theorem departReport_found {p : Place} (found : b.findTruck tag = some p) : departReport b tag = (removeTruck b p, accept) := by
  simp [departReport, found]

theorem departReport_none (absent : b.findTruck tag = none) : departReport b tag = (b, refuse .unknown) := by
  simp [departReport, absent]

end

/-! ## The holding list (R94) -/

theorem admitToHolding_full {b : Berth} (t : Truck) (full : b.params.holdDepth ≤ b.occupancy) :
    admitToHolding b t = (b.raise arrivalRefused, refuse .holdingFull) :=
  if_neg (Nat.not_lt.2 full)

/-! ## The obligation -/

/-- Settles O35. -/
theorem gateReports : Obligations.GateReports := by
  refine ⟨fun s tag info ids cargo speaks => ?_, fun s tag speaks => ⟨fun p found => ?_, fun absent => ?_⟩,
    fun b tag info ids => ?_, fun _ t => admitToHolding_full t⟩
  · intro b body long few formed valid absent policy
    obtain ⟨allowed, short⟩ := arriveBody_allowed tag long few
    exact exec_arrive speaks allowed short (arriveReport_takenIn long formed valid absent policy)
  · exact exec_depart speaks (departReport_found found)
  · exact exec_depart speaks (departReport_none absent)
  · intro body cargo long
    refine ⟨fun bad => ?_, fun formed valid => ?_⟩
    · cases formed : cargo with
      | none => exact arriveReport_malformed formed
      | some ids => exact arriveReport_invalidTag long formed (bad.resolve_left (by simp [formed]))
    · obtain ⟨ids, formed⟩ := Option.ne_none_iff_exists'.1 formed
      exact ⟨fun p held => arriveReport_duplicate long formed valid held,
        fun absent mark strict => arriveReport_unverified long formed valid absent mark strict⟩

end Sys2Proof.Machine

/-! # Arrivals routed (R83, R91 to R96; O36) -/

namespace Sys2Proof.Machine

/-! ## Target sets (R91) -/

theorem inSet_or {n : Nat} (x y : BitVec n) (i : Nat) : inSet (x ||| y) i = (inSet x i || inSet y i) := BitVec.getLsbD_or

theorem inSet_craneMask (c d : Crane) : inSet (craneMask c) d.val = decide (c = d) := by revert c d; decide

theorem inSet_foldl_craneMask (ts : List Ticket) (set : BitVec 8) (c : Crane) :
    inSet (ts.foldl (fun m t => m ||| craneMask t.crane) set) c.val = true ↔ inSet set c.val = true ∨ ∃ t ∈ ts, t.crane = c := by
  induction ts generalizing set with
  | nil => simp
  | cons t ts ih => simp [ih, inSet_or, inSet_craneMask, or_assoc]

theorem inSet_indexTargets (b : Berth) (cargo : List ContainerId) (c : Crane) : inSet (b.indexTargets cargo) c.val = true ↔
    ∃ id ∈ cargo, ∃ t, b.indexed? id = some t ∧ t.crane = c := by
  have empty : inSet (0 : BitVec 8) c.val = false := BitVec.getLsbD_zero
  simp only [Berth.indexTargets, inSet_foldl_craneMask, empty, Bool.false_eq_true, false_or, List.mem_filterMap]
  exact ⟨fun ⟨t, ⟨id, mem, live⟩, crane⟩ => ⟨id, mem, t, live, crane⟩, fun ⟨id, mem, t, live, crane⟩ => ⟨t, ⟨id, mem, live⟩, crane⟩⟩

/-! ## Routing rules (R93, R96) -/

theorem Rule.matches_iff (r : Rule) (tag : Tag) (ch : Chassis) (cargo : List ContainerId) : r.matches tag ch cargo = true ↔
    (r.tagLo.toNat ≤ tag.toNat ∧ tag.toNat ≤ r.tagHi.toNat) ∧ inSet r.chassis ch.code.toNat = true
      ∧ (r.cond = some .empty → cargo = []) ∧ (r.cond = some .laden → cargo ≠ [])
      ∧ (r.owner = [] ∨ ∃ id ∈ cargo, r.owner <+: id) := by
  have owner : (r.owner.isEmpty || cargo.any fun id => id.take r.owner.length == r.owner) = true ↔
      (r.owner = [] ∨ ∃ id ∈ cargo, r.owner <+: id) := by
    have take (id : ContainerId) : (id.take r.owner.length == r.owner) = true ↔ r.owner <+: id :=
      beq_iff_eq.trans (eq_comm.trans List.prefix_iff_eq_take.symm)
    simp [take]
  simp only [Rule.matches, Bool.and_eq_true, owner, decide_eq_true_eq, BitVec.le_def, and_assoc]
  cases r.cond with
  | none => simp
  | some cond => cases cond <;> simp

section

variable {p : Params} {tag : Tag} {ch : Chassis} {cargo : List ContainerId} {prio : Bool} {r : Rule} {rs : List Rule}

theorem evalRules_skips (skips : r.enabled = false ∨ r.matches tag ch cargo = false) :
    evalRules p tag ch cargo (r :: rs) prio = evalRules p tag ch cargo rs prio := by
  have skips : (r.enabled && r.matches tag ch cargo) = false := by obtain off | other := skips <;> simp [*]
  simp [evalRules, skips]

variable (enabled : r.enabled = true) (meets : r.matches tag ch cargo = true)
include enabled meets

/-- R93: a rule that applies acts: PRIORITY goes on, the others decide. -/
theorem evalRules_applies :
    (r.action = some .priority → evalRules p tag ch cargo (r :: rs) prio = evalRules p tag ch cargo rs true)
    ∧ (r.action = some .cranes → evalRules p tag ch cargo (r :: rs) prio = (.stand r.mask, prio))
    ∧ (r.action = some .hold → evalRules p tag ch cargo (r :: rs) prio = (.hold r.mask, prio))
    ∧ (r.action = some .reject → evalRules p tag ch cargo (r :: rs) prio = (.reject, prio)) := by
  refine ⟨fun action => ?_, fun action => ?_, fun action => ?_, fun action => ?_⟩ <;> simp [evalRules, enabled, meets, action]

end

/-! ## The stand chosen (R92) -/

/-- The first of the elements of greatest key, in an ascending list. -/
theorem firstLeast_greatest {α : Type} [LinearOrder α] (key : α → Nat) {l : List α} (ascending : l.Pairwise (· < ·)) {x : α}
    (found : firstLeast (fun x y => decide (key y < key x)) l = some x) :
    ∀ y ∈ l, key y < key x ∨ (key y = key x ∧ x ≤ y) := by
  induction l generalizing x with
  | nil => cases found
  | cons z zs ih =>
    obtain ⟨first, ascending⟩ := List.pairwise_cons.1 ascending
    simp only [firstLeast] at found
    split at found
    · next none_ =>
      cases found
      simp [(firstLeast_none _).1 none_]
    · next w least =>
      have rest := ih ascending least
      split at found
      · next less =>
        cases found
        intro y mem
        rcases List.mem_cons.1 mem with rfl | mem
        · exact Or.inl (of_decide_eq_true less)
        · exact rest y mem
      · next notLess =>
        cases found
        have notLess : key w ≤ key z := by simpa using notLess
        intro y mem
        rcases List.mem_cons.1 mem with rfl | mem
        · exact Or.inr ⟨rfl, le_rfl⟩
        · have before := (first y mem).le
          have below : key y ≤ key w := by rcases rest y mem with less | ⟨same, -⟩ <;> omega
          rcases Nat.lt_or_eq_of_le (below.trans notLess) with less | same
          · exact Or.inl less
          · exact Or.inr ⟨same, before⟩

/-- R92: the crane is in the set, takes trucks and has an available spot. -/
def Berth.standFits (b : Berth) (mask : BitVec 8) (c : Crane) : Bool :=
  inSet mask c.val && b.takesTrucks c && (b.lowestLane c).isSome

theorem standFits_iff (b : Berth) (mask : BitVec 8) (c : Crane) : b.standFits mask c = true ↔
    inSet mask c.val = true ∧ b.takesTrucks c = true ∧ b.lowestLane c ≠ none := by
  simp [Berth.standFits, and_assoc, Option.isSome_iff_ne_none]

theorem allCranes_ascending : allCranes.Pairwise (· < ·) := by decide

theorem mem_allLanes (l : Lane) : l ∈ allLanes := by revert l; decide

theorem allLanes_ascending : allLanes.Pairwise (· < ·) := by decide

theorem standFor_none (b : Berth) (mask : BitVec 8) : b.standFor mask = none ↔ ∀ c, ¬ b.standFits mask c = true := by
  refine (firstLeast_none _).trans (List.filter_eq_nil_iff.trans ?_)
  exact ⟨fun h c => h c (mem_allCranes c), fun h c _ => h c⟩

theorem standFor_some {b : Berth} {mask : BitVec 8} {c : Crane} (chosen : b.standFor mask = some c) : b.standFits mask c = true
    ∧ ∀ d, b.standFits mask d = true → b.truckHunger d < b.truckHunger c ∨ (b.truckHunger d = b.truckHunger c ∧ c ≤ d) := by
  refine ⟨(List.mem_filter.1 (firstLeast_mem _ chosen)).2, fun d fits => ?_⟩
  exact firstLeast_greatest b.truckHunger (allCranes_ascending.filter _) chosen d (List.mem_filter.2 ⟨mem_allCranes d, fits⟩)

/-- R92: the hungriest crane that fits, ties to the lowest number, is one crane, so it is the one chosen. -/
theorem standFor_iff (b : Berth) (mask : BitVec 8) (c : Crane) : b.standFor mask = some c ↔ b.standFits mask c = true
    ∧ ∀ d, b.standFits mask d = true → b.truckHunger d < b.truckHunger c ∨ (b.truckHunger d = b.truckHunger c ∧ c ≤ d) := by
  refine ⟨standFor_some, fun ⟨fits, greatest⟩ => ?_⟩
  cases chosen : b.standFor mask with
  | none => exact absurd fits ((standFor_none b mask).1 chosen c)
  | some d =>
    obtain ⟨fitsToo, greatestToo⟩ := standFor_some chosen
    have below := greatest d fitsToo
    have above := greatestToo c fits
    have same : d = c := le_antisymm (above.resolve_left (by omega)).2 (below.resolve_left (by omega)).2
    rw [same]

theorem lowestLane_iff (b : Berth) (c : Crane) (l : Lane) : b.lowestLane c = some l ↔
    b.spotAvailable c l = true ∧ ∀ m, m < l → b.spotAvailable c m = false := by
  rw [Berth.lowestLane, find?_sorted allLanes_ascending fun _ _ => lt_asymm]
  exact ⟨fun ⟨_, spot, before⟩ => ⟨spot, fun m => before m (mem_allLanes m)⟩,
    fun ⟨spot, before⟩ => ⟨mem_allLanes l, spot, fun m _ => before m⟩⟩

/-! ## The entry made (R92, R94, R95) -/

theorem raisePriority_raw (b : Berth) (prio : Bool) :
    (if prio then b.raise priorityArrival else b).nu.raw = b.nu.raw ||| (if prio then priorityArrival else 0) := by
  cases prio
  · exact BitVec.or_zero.symm
  · rfl

/-- A reading that the notice of a priority arrival does not change. -/
theorem raisePriority_keeps {α : Type} (f : Berth → α) (notice : ∀ (b : Berth) x, f (b.raise x) = f b) (b : Berth) (prio : Bool) :
    f (if prio then b.raise priorityArrival else b) = f b := by
  cases prio
  · rfl
  · exact notice b _

theorem admitToHolding_room {b : Berth} {t : Truck} (room : b.occupancy < b.params.holdDepth) : let r := admitToHolding b t
    r.1.shu.holding = b.shu.holding ++ [t] ∧ r.1.shu.stands = b.shu.stands ∧ r.1.shu.promotionDue = true
      ∧ r.1.nu.raw = b.nu.raw ||| (if t.priority then priorityArrival else 0)
      ∧ r.2 = { code := .holdArea, reason := .none, data := [natByte (b.shu.holding.length + 1)] } := by
  have kept {α : Type} (f : Berth → α) (notice : ∀ (b : Berth) x, f (b.raise x) = f b) := raisePriority_keeps f notice b t.priority
  simp only [admitToHolding, if_pos room]
  refine ⟨congrArg (· ++ [t]) (kept (·.shu.holding) fun _ _ => rfl), kept (·.shu.stands) fun _ _ => rfl, rfl,
    raisePriority_raw b t.priority, ?_⟩
  rw [kept (·.shu.holding) fun _ _ => rfl]

theorem admitToStand_records (b : Berth) (t : Truck) (c : Crane) (l : Lane) : let r := admitToStand b t c l
    r.1.stand c = b.stand c ++ [{ t with lane := some l }] ∧ (∀ d, d ≠ c → r.1.stand d = b.stand d)
      ∧ r.1.shu.holding = b.shu.holding ∧ r.1.nu.raw = b.nu.raw ||| (if t.priority then priorityArrival else 0)
      ∧ r.1.tickets = b.tickets ∧ r.1.cranes = b.cranes ∧ r.1.qlc = b.qlc ∧ r.2 = accept [finByte c, finByte l] := by
  have kept {α : Type} (f : Berth → α) (notice : ∀ (b : Berth) x, f (b.raise x) = f b) := raisePriority_keeps f notice b t.priority
  refine ⟨?_, fun d other => ?_, kept (·.shu.holding) fun _ _ => rfl, raisePriority_raw b t.priority,
    kept (·.tickets) fun _ _ => rfl, kept (·.cranes) fun _ _ => rfl, kept (·.qlc) fun _ _ => rfl, rfl⟩
  · exact (Berth.stand_modStand ..).trans (congrArg (· ++ _) (kept (·.stand c) fun _ _ => rfl))
  · exact (Berth.stand_modStand_other _ _ _ _ other).trans (kept (·.stand d) fun _ _ => rfl)

/-- R89 to R95: the entry of an arrival, before it has a lane. -/
def Berth.arrival (b : Berth) (tag : Tag) (ch : Chassis) (cargo : List ContainerId) (unverified prio : Bool) (mask : BitVec 8) :
    Truck :=
  { tag, lane := none, chassis := ch, cargo, unverified, priority := prio, state := .waiting, joinedAt := b.nowSecs,
    arrivedAt := b.nowSecs, targets := mask, arrival := b.shu.arrivals, stay := b.shu.stays }

section

variable {b : Berth} {tag : Tag} {ch : Chassis} {cargo : List ContainerId} (unverified : Bool) {prio : Bool} {mask : BitVec 8}

theorem takeIn_reject (route : b.route tag ch cargo = (.reject, prio)) :
    takeIn b tag ch cargo unverified = (b.raise arrivalRefused, refuse .rejected) := by
  simp [takeIn, route]

theorem takeIn_hold (route : b.route tag ch cargo = (.hold mask, prio)) :
    takeIn b tag ch cargo unverified = admitToHolding b (b.arrival tag ch cargo unverified prio mask) := by
  simp [takeIn, route, Berth.arrival]

variable (route : b.route tag ch cargo = (.stand mask, prio))
include route

theorem takeIn_noStand (none_ : b.standFor mask = none) :
    takeIn b tag ch cargo unverified = admitToHolding b (b.arrival tag ch cargo unverified prio mask) := by
  simp [takeIn, route, none_, Berth.arrival]

theorem takeIn_stand {c : Crane} {l : Lane} (chosen : b.standFor mask = some c) (lane : b.lowestLane c = some l) :
    takeIn b tag ch cargo unverified = admitToStand b (b.arrival tag ch cargo unverified prio mask) c l := by
  simp [takeIn, route, chosen, lane, Berth.arrival]

end

/-! ## The obligation -/

/-- Settles O36. -/
theorem arrivalRouting : Obligations.ArrivalRouting := by
  refine ⟨inSet_indexTargets, fun b tag ch cargo => ⟨fun some_ => if_neg some_, fun none_ => if_pos none_⟩, Rule.matches_iff,
    fun p tag ch cargo prio => ⟨rfl, fun r rs => ⟨evalRules_skips, evalRules_applies⟩⟩, fun b mask => ?_, lowestLane_iff,
    fun b tag ch cargo unverified => ?_⟩
  · simp only [← standFits_iff]
    exact ⟨standFor_none b mask, standFor_iff b mask⟩
  · intro r entry held
    have holds {mask : BitVec 8} {prio : Bool}
        (admits : r = admitToHolding b (b.arrival tag ch cargo unverified prio mask)) : held mask prio := by
      unfold held
      rw [admits]
      exact ⟨admitToHolding_room, admitToHolding_full _⟩
    refine ⟨fun prio => takeIn_reject unverified, fun mask prio route => holds (takeIn_hold unverified route),
      fun mask prio route => ⟨fun none_ => holds (takeIn_noStand unverified route none_), fun c l chosen lane => ?_⟩⟩
    have admits : r = admitToStand b (b.arrival tag ch cargo unverified prio mask) c l :=
      takeIn_stand unverified route chosen lane
    rw [admits]
    exact admitToStand_records b _ c l

end Sys2Proof.Machine

/-! # Promotions (R99 to R103; O52) -/

namespace Sys2Proof.Machine

/-! ## The entry promoted (R101) -/

/-- The entry's target set includes the crane. -/
def Truck.aims (c : Crane) (t : Truck) : Bool := inSet t.targets c.val

theorem nextHeld_eq (b : Berth) (c : Crane) : b.nextHeld c =
    (b.shu.holding.find? fun t => t.aims c && t.priority).or (b.shu.holding.find? (Truck.aims c)) := by
  have marked : (b.shu.holding.filter (Truck.aims c)).find? (fun t => t.priority) =
      b.shu.holding.find? fun t => t.aims c && t.priority := by
    rw [List.find?_filter]
    congr 1
    funext t
    simp
  have oldest : (b.shu.holding.filter (Truck.aims c)).head? = b.shu.holding.find? (Truck.aims c) := List.head?_filter
  rw [← marked, ← oldest, Berth.nextHeld]
  split
  · next first => exact (congrArg (Option.or · _) first).symm
  · next none_ => exact (congrArg (Option.or · _) none_).symm

theorem nextHeld_none (b : Berth) (c : Crane) : b.nextHeld c = none ↔ ∀ u ∈ b.shu.holding, u.aims c = false := by
  rw [nextHeld_eq, Option.or_eq_none_iff, List.find?_eq_none, List.find?_eq_none]
  simp only [Bool.not_eq_true]
  exact ⟨And.right, fun none_ => ⟨fun u mem => by simp [none_ u mem], none_⟩⟩

section

variable {b : Berth} {c : Crane} {xs ys : List Truck} {t : Truck} (held : b.shu.holding = xs ++ t :: ys)
  (aims : t.aims c = true)
include held aims

theorem nextHeld_priority (priority : t.priority = true) (first : ∀ u ∈ xs, u.aims c = true → u.priority = false) :
    b.nextHeld c = some t := by
  have found : b.shu.holding.find? (fun t => t.aims c && t.priority) = some t := by
    rw [held, List.find?_append, List.find?_eq_none.2, List.find?_cons_of_pos (by simp [aims, priority])]
    · rfl
    · intro u mem both
      obtain ⟨aimsToo, prio⟩ := Bool.and_eq_true_iff.1 both
      exact Bool.false_ne_true ((first u mem aimsToo).symm.trans prio)
  rw [nextHeld_eq, found, Option.some_or]

theorem nextHeld_oldest (plain : ∀ u ∈ xs ++ t :: ys, u.aims c = true → u.priority = false)
    (first : ∀ u ∈ xs, u.aims c = false) : b.nextHeld c = some t := by
  have unmarked : b.shu.holding.find? (fun t => t.aims c && t.priority) = none := by
    rw [held, List.find?_eq_none]
    intro u mem both
    obtain ⟨aimsToo, prio⟩ := Bool.and_eq_true_iff.1 both
    exact Bool.false_ne_true ((plain u mem aimsToo).symm.trans prio)
  have found : b.shu.holding.find? (Truck.aims c) = some t := by
    rw [held, List.find?_append, List.find?_eq_none.2, List.find?_cons_of_pos aims]
    · rfl
    · intro u mem
      simp [first u mem]
  rw [nextHeld_eq, unmarked, found, Option.none_or]

end

/-! ## One promotion (R101) -/

section

variable (b : Berth) (c : Crane) (l : Lane) (t : Truck)

theorem promote_stand : (promote b c l t).stand c =
    b.stand c ++ [{ t with lane := some l, joinedAt := b.nowSecs, state := .waiting, stay := b.shu.stays }] :=
  Berth.stand_modStand ..

theorem promote_stand_other {d : Crane} (other : d ≠ c) : (promote b c l t).stand d = b.stand d :=
  Berth.stand_modStand_other _ _ _ _ other

theorem promote_holding : (promote b c l t).shu.holding = b.shu.holding.filter fun u => u.arrival != t.arrival := rfl

theorem promote_promotes : (promote b c l t).qlc.promotes =
    b.qlc.promotes ++ [freshOrder (.promote t.tag c l b.shu.stays) b.now] := rfl

/-- A promotion leaves every entry of the stands in its place. -/
theorem promote_entries {d : Crane} {u : Truck} (mem : u ∈ b.stand d) : u ∈ (promote b c l t).stand d := by
  by_cases same : d = c
  · subst same
    rw [promote_stand]
    exact List.mem_append_left _ mem
  · rwa [promote_stand_other b c l t same]

/-- A spot available after a promotion was available before it. -/
theorem promote_spotAvailable {d : Crane} {m : Lane} (spot : (promote b c l t).spotAvailable d m = true) :
    b.spotAvailable d m = true := by
  simp only [Berth.spotAvailable, Bool.and_eq_true, Bool.not_eq_true', List.any_eq_false] at spot ⊢
  obtain ⟨⟨empty, set⟩, opened⟩ := spot
  exact ⟨⟨fun u mem => empty u (promote_entries b c l t mem), set⟩, opened⟩

/-- The lane of a promotion is taken by it. -/
theorem promote_spot_taken : (promote b c l t).spotAvailable c l = false := by
  have taken : ((promote b c l t).stand c).any (fun u => u.lane == some l) = true := by
    rw [promote_stand]
    simp
  simp [Berth.spotAvailable, taken]

end

/-! ## The rounds of one crane (R100) -/

/-- R100: nothing is left to promote to a crane: the queue is full, no spot is available, or no held entry targets it. -/
def PromotionsEnd (b : Berth) (c : Crane) : Prop :=
  8 ≤ b.qlc.promotes.length ∨ b.lowestLane c = none ∨ b.nextHeld c = none

theorem lowestLane_none (b : Berth) (c : Crane) : b.lowestLane c = none ↔ ∀ l, b.spotAvailable c l = false := by
  simp only [Berth.lowestLane, List.find?_eq_none, Bool.not_eq_true]
  exact ⟨fun none_ l => none_ l (mem_allLanes l), fun none_ l _ => none_ l⟩

/-- A promotion to any crane leaves nothing to promote where nothing was left. -/
theorem PromotionsEnd.promote {b : Berth} {d : Crane} (ended : PromotionsEnd b d) (c : Crane) (l : Lane) (t : Truck) :
    PromotionsEnd (promote b c l t) d := by
  rcases ended with full | noLane | noneHeld
  · left
    rw [promote_promotes, List.length_append]
    omega
  · right; left
    rw [lowestLane_none] at noLane ⊢
    exact fun m => Bool.eq_false_iff.2 fun spot => Bool.false_ne_true ((noLane m).symm.trans (promote_spotAvailable b c l t spot))
  · right; right
    rw [nextHeld_none] at noneHeld ⊢
    rw [promote_holding]
    exact fun u mem => noneHeld u (List.mem_filter.1 mem).1

theorem promoteInto_ended {b : Berth} {c : Crane} (ended : PromotionsEnd b c) (fuel : Nat) : promoteInto c fuel b = b := by
  cases fuel with
  | zero => rfl
  | succ fuel =>
    rcases ended with full | none_ | none_
    · exact promoteInto_full c _ full
    · simp [promoteInto, none_]
    · simp [promoteInto, none_]

theorem promoteInto_promotes {b : Berth} {c : Crane} {l : Lane} {t : Truck} (room : b.qlc.promotes.length < 8)
    (lane : b.lowestLane c = some l) (next : b.nextHeld c = some t) (fuel : Nat) :
    promoteInto c (fuel + 1) b = promoteInto c fuel (promote b c l t) := by
  simp [promoteInto, room, lane, next]

/-- One round: nothing is left to promote, or an entry goes to the lowest available lane. -/
theorem promoteInto_round (b : Berth) (c : Crane) : PromotionsEnd b c
    ∨ ∃ l t, b.lowestLane c = some l ∧ ∀ fuel, promoteInto c (fuel + 1) b = promoteInto c fuel (promote b c l t) := by
  by_cases full : 8 ≤ b.qlc.promotes.length
  · exact Or.inl (Or.inl full)
  · cases lane : b.lowestLane c with
    | none => exact Or.inl (Or.inr (Or.inl lane))
    | some l =>
      cases next : b.nextHeld c with
      | none => exact Or.inl (Or.inr (Or.inr next))
      | some t => exact Or.inr ⟨l, t, rfl, promoteInto_promotes (Nat.not_le.1 full) lane next⟩

/-- What every promotion keeps, the rounds of a crane keep. -/
theorem promoteInto_keeps {P : Berth → Prop} (kept : ∀ b c l t, P b → P (promote b c l t)) (c : Crane) (fuel : Nat) {b : Berth}
    (h : P b) : P (promoteInto c fuel b) := by
  induction fuel generalizing b with
  | zero => exact h
  | succ fuel ih =>
    rcases promoteInto_round b c with ended | ⟨l, t, -, next⟩
    · rwa [promoteInto_ended ended]
    · rw [next]
      exact ih (kept b c l t h)

/-- The available lanes of a crane. -/
def Berth.spots (b : Berth) (c : Crane) : Finset Lane := Finset.univ.filter fun l => b.spotAvailable c l = true

theorem mem_spots (b : Berth) (c : Crane) (l : Lane) : l ∈ b.spots c ↔ b.spotAvailable c l = true := by simp [Berth.spots]

theorem card_spots_le (b : Berth) (c : Crane) : (b.spots c).card ≤ 6 := (Finset.card_filter_le ..).trans (by simp)

/-- A promotion takes an available lane. -/
theorem card_spots_promote {b : Berth} {c : Crane} {l : Lane} (lane : b.lowestLane c = some l) (t : Truck) :
    ((promote b c l t).spots c).card < (b.spots c).card := by
  refine Finset.card_lt_card (Finset.ssubset_iff_of_subset (fun m spot => ?_) |>.2 ⟨l, ?_, fun spot => ?_⟩)
  · rw [mem_spots] at spot ⊢
    exact promote_spotAvailable b c l t spot
  · rw [mem_spots]
    exact List.find?_some lane
  · rw [mem_spots, promote_spot_taken] at spot
    exact Bool.false_ne_true spot

section

variable {c : Crane} {fuel : Nat}

/-- With a round for each available lane, nothing is left to promote to the crane. -/
theorem promoteInto_ends {b : Berth} (enough : (b.spots c).card ≤ fuel) : PromotionsEnd (promoteInto c fuel b) c := by
  induction fuel generalizing b with
  | zero =>
    have none_ := Finset.card_eq_zero.1 (Nat.le_zero.1 enough)
    refine Or.inr (Or.inl ((lowestLane_none b c).2 fun l => ?_))
    exact Bool.eq_false_iff.2 fun spot => Finset.notMem_empty l (none_ ▸ (mem_spots b c l).2 spot)
  | succ fuel ih =>
    rcases promoteInto_round b c with ended | ⟨l, t, lane, next⟩
    · rwa [promoteInto_ended ended]
    · rw [next]
      exact ih (by have := card_spots_promote lane t; omega)

/-- A round more than there are available lanes changes nothing. -/
theorem promoteInto_enough {b : Berth} (enough : (b.spots c).card ≤ fuel) : promoteInto c (fuel + 1) b = promoteInto c fuel b := by
  induction fuel generalizing b with
  | zero => exact promoteInto_ended (promoteInto_ends enough) 1
  | succ fuel ih =>
    rcases promoteInto_round b c with ended | ⟨l, t, lane, next⟩
    · rw [promoteInto_ended ended, promoteInto_ended ended]
    · rw [next, next, ih (by have := card_spots_promote lane t; omega)]

end

/-! ## The promotion check (R100) -/

/-- The promotion check of one crane. -/
def promoteTo (b : Berth) (c : Crane) : Berth := if b.takesTrucks c then promoteInto c 6 b else b

theorem promotionCheck_made {b : Berth} (run : b.mode = .run) (online : b.online gateIn = true) :
    promotionCheck b = allCranes.foldl promoteTo b := if_pos ⟨run, online⟩

theorem promotionCheck_idle {b : Berth} (idle : b.mode ≠ .run ∨ b.online gateIn = false) : promotionCheck b = b := by
  rcases idle with config | offline
  · exact if_neg fun both => config both.1
  · exact promotionCheck_offline offline

theorem promoteTo_takes {b : Berth} {c : Crane} (takes : b.takesTrucks c = true) : promoteTo b c = promoteInto c 6 b := if_pos takes

theorem promoteTo_ends {b : Berth} {c : Crane} (takes : b.takesTrucks c = true) : PromotionsEnd (promoteTo b c) c := by
  rw [promoteTo_takes takes]
  exact promoteInto_ends (card_spots_le b c)

section

variable {P : Berth → Prop} (kept : ∀ b c l t, P b → P (promote b c l t))
include kept

theorem promoteTo_keeps (c : Crane) {b : Berth} (h : P b) : P (promoteTo b c) := by
  unfold promoteTo
  split
  · exact promoteInto_keeps kept c 6 h
  · exact h

theorem foldl_promoteTo_keeps (cs : List Crane) {b : Berth} (h : P b) : P (cs.foldl promoteTo b) := by
  induction cs generalizing b with
  | nil => exact h
  | cons c cs ih => exact ih (promoteTo_keeps kept c h)

end

/-- The cranes checked later leave nothing to promote to one checked before. -/
theorem foldl_promoteTo_ends {cs : List Crane} {c : Crane} (mem : c ∈ cs) {b : Berth} (takes : b.takesTrucks c = true) :
    PromotionsEnd (cs.foldl promoteTo b) c := by
  induction cs generalizing b with
  | nil => cases mem
  | cons d ds ih =>
    rcases List.mem_cons.1 mem with same | mem
    · subst same
      exact foldl_promoteTo_keeps (P := fun b => PromotionsEnd b c) (fun _ d l t ended => ended.promote d l t) ds
        (promoteTo_ends takes)
    · exact ih mem (promoteTo_keeps (P := fun b => b.takesTrucks c = true) (fun _ _ _ _ takes => takes) d takes)

theorem foldl_promoteTo_idle {cs : List Crane} {b : Berth} (idle : ∀ d ∈ cs, b.takesTrucks d = false) :
    cs.foldl promoteTo b = b := by
  induction cs with
  | nil => rfl
  | cons d ds ih =>
    have first : promoteTo b d = b := if_neg (by simp [idle d List.mem_cons_self])
    rw [List.foldl_cons, first]
    exact ih fun e mem => idle e (List.mem_cons_of_mem _ mem)

theorem allCranes_split (c : Crane) : ∃ xs ys, allCranes = xs ++ c :: ys ∧ ∀ d ∈ xs, d < c := by
  obtain ⟨xs, ys, split_⟩ := List.append_of_mem (mem_allCranes c)
  refine ⟨xs, ys, split_, fun d mem => ?_⟩
  have ascending := split_ ▸ allCranes_ascending
  exact (List.pairwise_append.1 ascending).2.2 d mem c List.mem_cons_self

/-- R100: the check begins with the lowest crane that takes trucks. -/
theorem promotionCheck_first {b : Berth} {c : Crane} {xs ys : List Crane} (run : b.mode = .run) (online : b.online gateIn = true)
    (takes : b.takesTrucks c = true) (split_ : allCranes = xs ++ c :: ys) (idle : ∀ d ∈ xs, b.takesTrucks d = false) :
    promotionCheck b = ys.foldl promoteTo (promoteInto c 6 b) := by
  rw [promotionCheck_made run online, split_, List.foldl_append, foldl_promoteTo_idle idle, List.foldl_cons, promoteTo_takes takes]

/-- R100, R101: a check is its first promotion and the check after it. -/
theorem promotionCheck_promotes {b : Berth} {c : Crane} {l : Lane} {t : Truck} (run : b.mode = .run)
    (online : b.online gateIn = true) (takes : b.takesTrucks c = true) (lowest : ∀ d, d < c → b.takesTrucks d = false)
    (room : b.qlc.promotes.length < 8) (lane : b.lowestLane c = some l) (next : b.nextHeld c = some t) :
    promotionCheck b = promotionCheck (promote b c l t) := by
  obtain ⟨xs, ys, split_, below⟩ := allCranes_split c
  have idle : ∀ d ∈ xs, b.takesTrucks d = false := fun d mem => lowest d (below d mem)
  have fewer : ((promote b c l t).spots c).card ≤ 5 := by
    have taken := card_spots_promote lane t
    have bound := card_spots_le b c
    omega
  rw [promotionCheck_first run online takes split_ idle,
    promotionCheck_first (b := promote b c l t) run online takes split_ idle, promoteInto_promotes room lane next,
    promoteInto_enough fewer]

/-! ## An undelivered PROMOTE (R103) -/

section

variable {b : Berth} {c : Crane} {tag : Tag} {stay : Nat} (l : Lane)

theorem promoteUndelivered_gone (gone : ∀ u ∈ b.stand c, u.tag ≠ tag ∨ u.stay ≠ stay) :
    promoteUndelivered b (.promote tag c l stay) = b := by
  have none_ : (b.stand c).find? (fun u => u.tag == tag && u.stay == stay) = none := by
    rw [List.find?_eq_none]
    intro u mem
    simpa [imp_iff_not_or] using gone u mem
  simp only [promoteUndelivered, none_]

variable {t : Truck} (found : (b.stand c).find? (fun u => u.tag == tag && u.stay == stay) = some t)
include found

theorem promoteUndelivered_waiting (waiting : t.state = .waiting) :
    promoteUndelivered b (.promote tag c l stay) = returnToHolding b c t := by
  simp only [promoteUndelivered, found, waiting]

theorem promoteUndelivered_granted (bound : t.state = .bound) (granted : (b.crane c).work = .granted) :
    promoteUndelivered b (.promote tag c l stay) = returnToHolding (withdraw b c .promoteFailed) c t := by
  simp only [promoteUndelivered, found, bound, granted]

theorem promoteUndelivered_stays (stays : (t.state = .bound ∧ (b.crane c).work = .lifting) ∨ t.state = .departing) :
    promoteUndelivered b (.promote tag c l stay) = b := by
  rcases stays with ⟨bound, lifting⟩ | departing
  · simp only [promoteUndelivered, found, bound, lifting]
  · simp only [promoteUndelivered, found, departing]

end

theorem returnToHolding_stand (b : Berth) (c : Crane) (t : Truck) :
    (returnToHolding b c t).stand c = (b.stand c).filter fun u => u.stay != t.stay := Berth.stand_modStand ..

theorem returnToHolding_stand_other (b : Berth) {c d : Crane} (t : Truck) (other : d ≠ c) :
    (returnToHolding b c t).stand d = b.stand d := Berth.stand_modStand_other _ _ _ _ other

/-! ## The obligation -/

/-- Settles O52. -/
theorem promotions : Obligations.Promotions := by
  refine ⟨fun b c xs ys t held aims => ⟨nextHeld_priority held aims, nextHeld_oldest held aims⟩, nextHeld_none,
    fun b c l t => ⟨promote_stand b c l t, fun d => promote_stand_other b c l t, rfl, rfl, rfl, rfl, rfl, rfl, rfl⟩,
    fun b => promotionCheck_idle, fun b run online c takes => ?_, fun b c l t => promotionCheck_promotes,
    fun b tag c l stay => ⟨promoteUndelivered_gone l, fun t found => ⟨fun waiting => ?_, promoteUndelivered_granted l found,
      promoteUndelivered_stays l found⟩⟩⟩
  · rw [promotionCheck_made run online]
    exact foldl_promoteTo_ends (mem_allCranes c) takes
  · have known : t.stay = stay := by
      have test := List.find?_some found
      simp only [Bool.and_eq_true, beq_iff_eq] at test
      exact test.2
    rw [promoteUndelivered_waiting l found waiting, ← known]
    exact ⟨returnToHolding_stand b c t, fun d => returnToHolding_stand_other b t, rfl, rfl, rfl⟩

end Sys2Proof.Machine



/-! # The task pool (R116, R117, R124)

The number of task slots, the slots reserved by grants and the numbers of the tasks.  Most parts of a step leave the pool as it
is, or free slots of it; a release, a landing and a grant alone take one. -/

namespace Sys2Proof.Machine

/-- What R116 counts. -/
def Berth.pool (b : Berth) : Nat × Nat × List TaskNo := (b.sizes.taskSlots, b.ltu.reserved, b.ltu.tasks.map (·.number))

namespace Berth

/-! ## The named updates -/

@[simp] theorem modTicketsIf_pool (b : Berth) (p : Ticket → Bool) (f : Ticket → Ticket) : (b.modTicketsIf p f).pool = b.pool := rfl
@[simp] theorem modTicket_pool (b : Berth) (n : TicketNo) (f : Ticket → Ticket) : (b.modTicket n f).pool = b.pool := rfl
@[simp] theorem modTickets_pool (b : Berth) (ns : List TicketNo) (f : Ticket → Ticket) : (b.modTickets ns f).pool = b.pool := rfl
@[simp] theorem dropTicket_pool (b : Berth) (n : TicketNo) : (b.dropTicket n).pool = b.pool := rfl
@[simp] theorem craneReasons_pool (b : Berth) (c : Crane) : (b.craneReasons c).pool = b.pool := rfl
@[simp] theorem setReasons_pool (b : Berth) (ns : List TicketNo) (r : Reason) : (b.setReasons ns r).pool = b.pool := rfl
@[simp] theorem modCrane_pool (b : Berth) (c : Crane) (f : CraneRec → CraneRec) : (b.modCrane c f).pool = b.pool := rfl
@[simp] theorem modGang_pool (b : Berth) (g : Gang) (f : GangRec → GangRec) : (b.modGang g f).pool = b.pool := rfl
@[simp] theorem modStation_pool (b : Berth) (s : Station) (f : StationRec → StationRec) : (b.modStation s f).pool = b.pool := rfl
@[simp] theorem unlist_pool (b : Berth) (g : Gang) (n : TaskNo) : (b.unlist g n).pool = b.pool := rfl
@[simp] theorem postGang_pool (b : Berth) (g : Gang) (o : OrderBody) : (b.postGang g o).pool = b.pool := rfl
@[simp] theorem setSent_pool (b : Berth) (x : Option (List Byte)) : (b.setSent x).pool = b.pool := rfl
@[simp] theorem setWindow_pool (b : Berth) (x : Option Station) : (b.setWindow x).pool = b.pool := rfl
@[simp] theorem owePromotion_pool (b : Berth) : b.owePromotion.pool = b.pool := rfl
@[simp] theorem setGangClaim_pool (b : Berth) (g : Gang) (x : Option GangClaim) : (b.setGangClaim g x).pool = b.pool := rfl
@[simp] theorem raise_pool (b : Berth) (x : BitVec 16) : (b.raise x).pool = b.pool := rfl
@[simp] theorem evalLevels_pool (b : Berth) : b.evalLevels.pool = b.pool := rfl
@[simp] theorem consult_pool (b : Berth) : b.consult.pool = b.pool := rfl
@[simp] theorem setTime_pool (b : Berth) (q : QTime) : (b.setTime q).pool = b.pool := rfl
@[simp] theorem setRunning_pool (b : Berth) (r : Bool) : (b.setRunning r).pool = b.pool := rfl
@[simp] theorem setMode_pool (b : Berth) (m : Mode) : (b.setMode m).pool = b.pool := rfl

/-- A change of tasks that leaves their numbers. -/
@[simp] theorem modTask_pool (b : Berth) (n : TaskNo) (f : Task → Task) (h : ∀ t, (f t).number = t.number) :
    (b.modTask n f).pool = b.pool := by
  have numbers : (b.modTask n f).ltu.tasks.map (·.number) = b.ltu.tasks.map (·.number) := by
    simp only [modTask, List.map_map]
    refine List.map_congr_left fun t _ => ?_
    simp only [Function.comp_apply]
    split
    · exact h t
    · rfl
  exact congrArg (fun l => (b.sizes.taskSlots, b.ltu.reserved, l)) numbers

@[simp] theorem setTaskState_pool (b : Berth) (n : TaskNo) (s : TaskState) : (b.setTaskState n s).pool = b.pool :=
  modTask_pool b n _ fun _ => rfl

/-- The pool is read off the partition and the Lashing Task Unit. -/
theorem pool_congr {b b' : Berth} (sizes : b'.sizes = b.sizes) (ltu : b'.ltu = b.ltu) : b'.pool = b.pool := by
  simp only [pool, sizes, ltu]

/-! ## Slots given back -/

/-- The pool has its size, no task is new and no slot more is reserved. -/
structure PoolWithin (b' b : Berth) : Prop where
  slots : b'.sizes.taskSlots = b.sizes.taskSlots
  tasks : (b'.ltu.tasks.map (·.number)).Sublist (b.ltu.tasks.map (·.number))
  reserved : b'.ltu.reserved ≤ b.ltu.reserved

namespace PoolWithin

theorem of_pool {b' b : Berth} (h : b'.pool = b.pool) : b'.PoolWithin b := by
  simp only [pool, Prod.mk.injEq] at h
  obtain ⟨slots, reserved, tasks⟩ := h
  exact ⟨slots, tasks ▸ List.Sublist.refl _, reserved.le⟩

theorem refl (b : Berth) : b.PoolWithin b := of_pool rfl

theorem trans {x y z : Berth} (h : x.PoolWithin y) (k : y.PoolWithin z) : x.PoolWithin z :=
  ⟨h.slots.trans k.slots, h.tasks.trans k.tasks, h.reserved.trans k.reserved⟩

/-- What is done after slots are given back, with the pool left as it is. -/
theorem after {b'' b' b : Berth} (h : b'.PoolWithin b) (e : b''.pool = b'.pool) : b''.PoolWithin b := (of_pool e).trans h

/-- Slots given back after a change that leaves the pool. -/
theorem before {x b' b : Berth} (h : b'.PoolWithin x) (e : x.pool = b.pool) : b'.PoolWithin b := h.trans (of_pool e)

theorem foldl {α : Type} {f : Berth → α → Berth} (h : ∀ b x, (f b x).PoolWithin b) (l : List α) (b : Berth) :
    (l.foldl f b).PoolWithin b :=
  foldl_kept (P := fun b' => b'.PoolWithin b) (fun b' x kept => (h b' x).trans kept) l (refl b)

end PoolWithin

theorem dropTask_within (b : Berth) (n : TaskNo) : (b.dropTask n).PoolWithin b := ⟨rfl, List.filter_sublist.map _, le_rfl⟩

theorem unreserve_within (b : Berth) : b.unreserve.PoolWithin b := ⟨rfl, List.Sublist.refl _, Nat.sub_le ..⟩

end Berth

end Sys2Proof.Machine

/-! # What the parts of a step make of the task pool -/

namespace Sys2Proof.Machine

open Berth

/-! ## Deck requests, duty and lists -/

@[simp] theorem leaveDeckRequest_pool (b : Berth) (g : Gang) : (leaveDeckRequest b g).pool = b.pool :=
  pool_congr (congrArg Prod.fst (leaveDeckRequest_roll b g)) (leaveDeckRequest_ltu b g)

@[simp] theorem releaseCraneClaim_pool (b : Berth) (c : Crane) : (releaseCraneClaim b c).pool = b.pool :=
  pool_congr (releaseCraneClaim_sizes b c) (releaseCraneClaim_ltu b c)

@[simp] theorem releaseGangClaim_pool (b : Berth) (g : Gang) : (releaseGangClaim b g).pool = b.pool :=
  pool_congr (releaseGangClaim_sizes b g) (releaseGangClaim_ltu b g)

theorem openUnlisted_pool (b : Berth) (g : Gang) (l : List TaskNo) : (openUnlisted b g l).pool = b.pool :=
  foldl_keeps Berth.pool _ (fun _ _ => by simp) l b

theorem leaveDuty_pool (b : Berth) (g : Gang) : (leaveDuty b g).pool = b.pool :=
  leaveDuty_keeps Berth.pool (fun _ _ => rfl) setTaskState_pool b

@[simp] theorem dutyOn_pool (b : Berth) (g : Gang) : (dutyOn b g).pool = b.pool := rfl

@[simp] theorem dutyOff_pool (b : Berth) (g : Gang) : (dutyOff b g).pool = b.pool := by
  cases duty : (b.gang g).onDuty with
  | false => rw [dutyOff_offDuty duty]
  | true =>
    cases activity : (b.gang g).activity with
    | idle => rw [dutyOff_idle duty activity, leaveDuty_pool]
    | onDeck => rw [dutyOff_onDeck duty activity, modGang_pool]
    | assigned | waitDeck =>
      rw [dutyOff_busy duty (by simp [activity]), recallFirst_keeps Berth.pool fun _ _ _ => rfl, leaveDuty_pool,
        leaveDeckRequest_pool]

@[simp] theorem applyRoster_pool (b : Berth) (g : Gang) : (applyRoster b g).pool = b.pool := by
  unfold applyRoster
  split
  · exact dutyOff_pool b g
  · exact dutyOn_pool b g

@[simp] theorem applyRosters_pool (b : Berth) : (applyRosters b).pool = b.pool := foldl_keeps Berth.pool _ applyRoster_pool ..

@[simp] theorem evalShift_pool (b : Berth) : (evalShift b).pool = b.pool := by
  unfold evalShift
  dsimp only
  split
  · rfl
  · rw [applyRosters_pool]
    rfl

@[simp] theorem serve_pool (b : Berth) (g : Gang) (set : BitVec 8) : (serve b g set).pool = b.pool := by
  rw [serve_eq, modGang_pool, openUnlisted_pool]

@[simp] theorem gangOffline_pool (b : Berth) (g : Gang) : (gangOffline b g).pool = b.pool := by
  rw [gangOffline_keeps Berth.pool (fun _ _ _ => rfl) setTaskState_pool, leaveDeckRequest_pool]

@[simp] theorem gangWork_pool (b : Berth) : (gangWork b).pool = b.pool :=
  gangWork_keeps Berth.pool (fun _ _ _ => rfl) setTaskState_pool (fun _ _ _ => rfl) b

/-! ## The gang cycle -/

@[simp] theorem deckRequest_pool (b : Berth) (g : Gang) (n : TaskNo) : (deckRequest b g n).1.pool = b.pool := by
  unfold deckRequest
  dsimp only
  split
  · rfl
  · split; swap; · rfl
    split; · rfl
    split; · rfl
    split; · rfl
    split
    · simp
    · rfl

@[simp] theorem gangDelivered_pool (b : Berth) (g : Gang) (body : OrderBody) : (gangDelivered b g body).pool = b.pool := by
  unfold gangDelivered
  split
  · split
    · simp
    · rfl
  · rfl

@[simp] theorem gangUndelivered_pool (b : Berth) (g : Gang) (body : OrderBody) : (gangUndelivered b g body).pool = b.pool := by
  unfold gangUndelivered
  split
  · split
    · simp
    · rfl
  · split
    · split
      · simp
      · rfl
    · rfl
  · rfl

/-- R123, R126: a completed task's slot is freed. -/
theorem completeTask_within (b : Berth) (g : Gang) (t : Task) : (completeTask b g t).PoolWithin b :=
  (dropTask_within _ _).before (by simp)

theorem taskDoneReport_within (b : Berth) (g : Gang) (n : TaskNo) : (taskDoneReport b g n).1.PoolWithin b := by
  unfold taskDoneReport
  dsimp only
  split
  · exact .refl b
  · split; swap; · exact .refl b
    split
    · split
      · exact (completeTask_within ..).after (setTaskState_pool ..)
      · exact completeTask_within ..
    · exact completeTask_within ..

theorem offDeck_within (b : Berth) (g : Gang) : (offDeck b g).PoolWithin b := by
  have released := releaseGangClaim_pool b g
  unfold offDeck dropIfOwedToNobody
  split
  · split
    · exact (dropTask_within _ _).before ((unlist_pool ..).trans released)
    · exact .of_pool released
  · exact .of_pool released

/-- R121, R134: a gang that comes off deck frees at most the slot of a task owed to nobody. -/
theorem comeOffDeck_within (b : Berth) (g : Gang) (k : Bool) : (comeOffDeck b g k).PoolWithin b := by
  refine (offDeck_within b g).after ?_
  by_cases leaves : (b.gang g).reliefDue = true ∨ k = true
  · rw [comeOffDeck_leaves leaves, leaveDeck_keeps Berth.pool (fun _ _ => rfl) setTaskState_pool]
  · obtain ⟨stays, goes⟩ := not_or.1 leaves
    obtain rfl : k = false := by simpa using goes
    rw [comeOffDeck_stays (by simpa using stays), modGang_pool, requeueFirst_keeps Berth.pool setTaskState_pool]

theorem offDeckReport_within (b : Berth) (g : Gang) : (offDeckReport b g).1.PoolWithin b := by
  unfold offDeckReport
  split
  · exact comeOffDeck_within ..
  · exact .refl b

/-! ## Links given up (R121, R126) -/

theorem dropUnlinked_within (b : Berth) (t : Task) : (dropUnlinked b t).PoolWithin b := by
  unfold dropUnlinked
  split
  · exact dropTask_within ..
  · split
    · exact (dropTask_within _ _).before (unlist_pool ..)
    · exact dropTask_within ..
  · split
    · next g _ =>
      have left := (dropTask_within (b.unlist g t.number) t.number).before (unlist_pool b g t.number)
      exact left.after (by simp)
    · exact dropTask_within ..
  · exact .refl b

theorem unlinkUnlash_within (b : Berth) (n : TicketNo) : (unlinkUnlash b n).PoolWithin b := by
  have unlinked : ∀ k, (unlinked b n k).pool = b.pool := fun k => modTask_pool _ k _ fun _ => rfl
  unfold unlinkUnlash
  split
  · exact .refl b
  · dsimp only
    split
    · split
      · exact (dropUnlinked_within _ _).before (unlinked _)
      · exact .of_pool (unlinked _)
    · exact .of_pool (unlinked _)

@[simp] theorem unlinkLash_pool (b : Berth) (t : Ticket) : (unlinkLash b t).pool = b.pool := by
  unfold unlinkLash
  split
  · exact modTask_pool _ _ _ fun _ => rfl
  · rfl

@[simp] theorem freeTicket_pool (b : Berth) (n : TicketNo) : (freeTicket b n).pool = b.pool := by
  unfold freeTicket
  split
  · rfl
  · dsimp only
    rw [dropTicket_pool, unlinkLash_pool]
    split <;> rfl

@[simp] theorem setPartner_pool (b : Berth) (p q : Option TicketNo) : (setPartner b p q).pool = b.pool := by
  cases p <;> rfl

theorem cancelTicket_within (b : Berth) (t : Ticket) : (cancelTicket b t).PoolWithin b := by
  have awaiting : (awaitingUnlinked b t).PoolWithin b := by
    unfold awaitingUnlinked
    split
    · exact unlinkUnlash_within ..
    · exact .refl b
  rw [cancelTicket_eq]
  exact awaiting.after (by simp)

theorem amendTicket_within (b : Berth) (set : BitVec 16) (body : List Byte) (t : Ticket) :
    (amendTicket b set body t).PoolWithin b := by
  have given : (amendUnlinked b t (amendFields set body t)).PoolWithin b := by
    unfold amendUnlinked
    split
    · exact unlinkUnlash_within ..
    · exact .refl b
  rw [amendTicket_eq]
  exact given.after (by simp)

/-! ## Reservations given back (R47, R49) -/

theorem withdraw_within (b : Berth) (c : Crane) (cause : Cause) : (withdraw b c cause).PoolWithin b := by
  have sizes : (withdraw b c cause).sizes = b.sizes := congrArg Prod.fst (withdraw_roll b c cause)
  refine ⟨by rw [sizes], by rw [withdraw_ltu], ?_⟩
  rw [withdraw_ltu]
  dsimp only
  split <;> omega

theorem abandonLift_within (b : Berth) (c : Crane) : (abandonLift b c).PoolWithin b := by
  have sizes : (abandonLift b c).sizes = b.sizes := congrArg Prod.fst (abandonLift_roll b c)
  refine ⟨by rw [sizes], by rw [abandonLift_ltu], ?_⟩
  rw [abandonLift_ltu]
  dsimp only
  split <;> omega

@[simp] theorem endWaiting_pool (b : Berth) (c : Crane) : (endWaiting b c).pool = b.pool := rfl

@[simp] theorem setAuto_pool (b : Berth) (c : Crane) : (setAuto b c).pool = b.pool := by
  unfold setAuto
  split <;> rfl

theorem setManual_within (b : Berth) (c : Crane) : (setManual b c).PoolWithin b := by
  unfold setManual
  dsimp only
  split
  · exact .refl b
  · split
    case h_4 => exact (withdraw_within ..).before (modCrane_pool ..)
    all_goals exact .of_pool (by simp)

theorem haltCrane_within (b : Berth) (c : Crane) : (haltCrane b c).PoolWithin b := by
  unfold haltCrane
  dsimp only
  split
  case h_2 => exact (withdraw_within ..).before (by simp)
  all_goals exact .of_pool (by simp)

theorem craneOffline_within (b : Berth) (c : Crane) : (craneOffline b c).PoolWithin b := by
  cases work : (b.crane c).work with
  | idle => rw [craneOffline_idle work]; exact .refl b
  | waiting => rw [craneOffline_waiting work]; exact .of_pool (endWaiting_pool b c)
  | granted => rw [craneOffline_granted work]; exact withdraw_within ..
  | lifting => rw [craneOffline_lifting work]; exact .of_pool rfl

theorem removeTruck_within (b : Berth) (p : Place) : (removeTruck b p).PoolWithin b := by
  have dropped : ∀ (b : Berth) c t, (dropEntry b c t).pool = b.pool := fun _ _ _ => rfl
  unfold removeTruck
  split
  · exact .of_pool rfl
  · split
    · split
      · exact (withdraw_within ..).after (dropped ..)
      · exact .of_pool rfl
      all_goals exact .of_pool (dropped ..)
    · exact .of_pool (dropped ..)

theorem departReport_within (b : Berth) (tag : Tag) : (departReport b tag).1.PoolWithin b := by
  unfold departReport
  split
  · exact .refl b
  · exact removeTruck_within ..

theorem abandonReport_within (b : Berth) (c : Crane) (n : TicketNo) : (abandonReport b c n).1.PoolWithin b := by
  unfold abandonReport
  dsimp only
  split
  · exact .refl b
  · split
    · exact .refl b
    · exact abandonLift_within ..

/-! ## Cranes and trucks -/

@[simp] theorem askReport_pool (b : Berth) (c : Crane) : (askReport b c).1.pool = b.pool := by
  unfold askReport; dsimp only; split <;> [rfl; (split <;> [rfl; (split <;> rfl)])]

@[simp] theorem standbyReport_pool (b : Berth) (c : Crane) : (standbyReport b c).1.pool = b.pool := by
  unfold standbyReport; split <;> rfl

@[simp] theorem positionReport_pool (b : Berth) (c : Crane) (bay : Bay) : (positionReport b c bay).1.pool = b.pool := by
  unfold positionReport
  split
  case h_1 | h_2 => rfl
  all_goals split <;> rfl

@[simp] theorem lockOn_pool (b : Berth) (c : Crane) : (lockOn b c).pool = b.pool :=
  lockOn_keeps Berth.pool (fun _ _ _ _ _ => rfl) b c

theorem takeIn_pool (b : Berth) (tag : Tag) (chassis : Chassis) (cargo : List ContainerId) (u : Bool) :
    (takeIn b tag chassis cargo u).1.pool = b.pool := by
  have holding : ∀ t, (admitToHolding b t).1.pool = b.pool := fun t => by
    unfold admitToHolding; split <;> [(dsimp only; split <;> rfl); rfl]
  have stand : ∀ t c l, (admitToStand b t c l).1.pool = b.pool := fun t c l => by
    unfold admitToStand; dsimp only; split <;> rfl
  unfold takeIn
  dsimp only
  split
  · rfl
  · exact holding _
  · split
    · exact holding _
    · split
      · exact holding _
      · exact stand ..

@[simp] theorem arriveReport_pool (b : Berth) (body : List Byte) : (arriveReport b body).1.pool = b.pool := by
  unfold arriveReport
  dsimp only
  split
  · rfl
  · split <;> [rfl; (split <;> [rfl; (split <;> [rfl; exact takeIn_pool ..])])]

@[simp] theorem verifyTruck_pool (b : Berth) (p : Place) : (verifyTruck b p).pool = b.pool := by
  cases p <;> rfl

@[simp] theorem createTicket_pool (b : Berth) (t : Ticket) : (createTicket b t).pool = b.pool := by
  unfold createTicket; dsimp only; split <;> rfl

/-! ## Quay time -/

@[simp] theorem markLates_pool (b : Berth) : (markLates b).pool = b.pool := by
  unfold markLates; split <;> rfl

@[simp] theorem starveCheck_pool (b : Berth) (c : Crane) : (starveCheck b c).pool = b.pool := by
  unfold starveCheck; split <;> rfl

@[simp] theorem starveSweep_pool (b : Berth) : (starveSweep b).pool = b.pool := foldl_keeps Berth.pool _ starveCheck_pool ..

@[simp] theorem deadlineBeforeExpiry_pool (b : Berth) (n : TicketNo) : (deadlineBeforeExpiry b n).pool = b.pool := by
  unfold deadlineBeforeExpiry
  split
  · rfl
  · split <;> [(split <;> rfl); rfl]

theorem expireGrant_within (b : Berth) (c : Crane) : (expireGrant b c).PoolWithin b := by
  unfold expireGrant
  split
  · exact (withdraw_within ..).before (foldl_keeps Berth.pool _ deadlineBeforeExpiry_pool ..)
  · exact .refl b

theorem dueTimeEvent_within (b : Berth) : (dueTimeEvent b).PoolWithin b :=
  (PoolWithin.foldl expireGrant_within allCranes _).before (starveSweep_pool b)

/-! ## Modes -/

@[simp] theorem enterConfigFromRun_pool (b : Berth) : (enterConfigFromRun b).pool = b.pool := by
  rw [enterConfigFromRun_eq, gangsEnterConfig_keeps Berth.pool (fun _ _ _ => rfl) setTaskState_pool,
    claimsEnterConfig_keeps Berth.pool fun _ _ => rfl, stopWaitings_keeps Berth.pool (fun _ _ _ => rfl) fun _ _ => rfl,
    boardEmptied_keeps Berth.pool (fun _ _ => rfl) fun _ _ => rfl, setMode_pool]

@[simp] theorem enterRun_pool (b : Berth) : (enterRun b).pool = b.pool := by simp [enterRun]

/-! ## The link -/

@[simp] theorem makeOnline_pool (b : Berth) (s : Station) : (makeOnline b s).pool = b.pool := by
  unfold makeOnline; dsimp only; split <;> [rfl; (split <;> rfl)]

@[simp] theorem launch_pool (b : Berth) (s : Station) : (launch b s).pool = b.pool := by
  unfold launch; split <;> rfl

@[simp] theorem answer_pool (b : Berth) (s : Station) (r : Reply) : (answer b s r).pool = b.pool := by
  unfold answer; split <;> rfl

theorem ownerReport_within (b : Berth) (r : Role) (body : OrderBody) (d : Bool) : (ownerReport b r body d).PoolWithin b := by
  have crane : ∀ c, (craneUndelivered b c body).PoolWithin b := fun c => by
    unfold craneUndelivered
    split
    · split
      · exact withdraw_within ..
      · exact .refl b
    · exact .refl b
  have promote : (promoteUndelivered b body).PoolWithin b := by
    have returned : ∀ (b : Berth) c t, (returnToHolding b c t).pool = b.pool := fun _ _ _ => rfl
    unfold promoteUndelivered
    split
    · split
      · exact .refl b
      · split
        · exact .of_pool (returned ..)
        · exact (withdraw_within ..).after (returned ..)
        · exact .refl b
    · exact .refl b
  cases r with
  | crane c => cases d <;> [exact crane c; exact .refl b]
  | gang g => cases d <;> [exact .of_pool (gangUndelivered_pool ..); exact .of_pool (gangDelivered_pool ..)]
  | gateIn => cases d <;> [exact promote.after (owePromotion_pool _); exact .of_pool (owePromotion_pool b)]
  | gateOut | unassigned | self => exact .refl b

theorem declareOffline_within (b : Berth) (s : Station) : (declareOffline b s).PoolWithin b := by
  have cut : ∀ r, (cutOff b s r).pool = b.pool := fun r => by cases r <;> rfl
  show (offlineEffects (cutOff b s (roleOf s)) (roleOf s)).PoolWithin b
  unfold offlineEffects
  split
  · exact (craneOffline_within ..).before (cut _)
  · exact .of_pool ((gangOffline_pool ..).trans (cut _))
  all_goals exact .of_pool (cut _)

theorem reportOrder_within (b : Berth) (s : Station) (report : Option (OrderBody × Bool)) : (reportOrder b s report).PoolWithin b := by
  unfold reportOrder
  dsimp only
  split
  · exact .refl b
  · exact (ownerReport_within ..).after (modStation_pool ..)
  · have counted := fun body => (ownerReport_within b (roleOf s) body false).after (modStation_pool _ s StationRec.countFail)
    split
    · exact (declareOffline_within ..).trans (counted _)
    · exact counted _

theorem endAttempt_within (b : Berth) (e : AttemptEnd) : (endAttempt b e).PoolWithin b := by
  unfold endAttempt
  dsimp only
  split
  · exact .of_pool (setWindow_pool ..)
  · split
    case h_1 | h_2 | h_3 => exact (reportOrder_within ..).before rfl
    all_goals exact .of_pool (setWindow_pool ..)

end Sys2Proof.Machine

/-! # Tasks and reservations stay within the pool (R116, R117; O58) -/

namespace Sys2Proof.Machine

open Berth

/-! ## Passes up to the last

A property that each pass with its check and each use of the free values keep, the passes of a change keep. -/

section

variable {P : Berth → Prop} (pass : ∀ b c, P b → P (passAndCheck b c))
include pass

theorem scanPasses_kept (cs : List Crane) {b : Berth} (h : P b) : P (scanPasses cs b).1 := by
  induction cs generalizing b with
  | nil => exact h
  | cons c cs ih =>
    unfold scanPasses
    dsimp only
    split
    · exact ih (pass b c h)
    · exact pass b c h

variable (consult : ∀ b : Berth, P b → P b.consult)
include consult

theorem passRounds_kept (fuel : Nat) {b : Berth} (h : P b) : P (passRounds fuel b) := by
  induction fuel generalizing b with
  | zero => exact h
  | succ n ih =>
    have taken : P b.orderTaken := by
      unfold Berth.orderTaken
      split
      · exact consult b h
      · exact h
    have scanned := scanPasses_kept pass b.passOrder taken
    rw [passRounds_succ]
    split
    · exact ih scanned
    · exact scanned

theorem runPasses_kept {b : Berth} (h : P b) : P (runPasses b) := passRounds_kept pass consult 9 h

/-- What the gangs' work leaves, the promotion check and the passes after it keep. -/
theorem runWork_kept (promoted : ∀ b, P b → P (promoteDue b)) {b : Berth} (h : P (gangWork b)) : P (runWork b) := by
  unfold runWork
  dsimp only
  split
  · exact runPasses_kept pass consult (promoted _ (runPasses_kept pass consult (consult _ h)))
  · refine runPasses_kept pass consult (promoted _ ?_)
    split
    · exact consult _ h
    · exact h

end

/-! ## A pool in order -/

/-- `TasksKept`, of the berth. -/
structure PoolKept (b : Berth) : Prop where
  ascend : (b.ltu.tasks.map fun t => t.number.toNat).Pairwise (· < ·)
  slots : ∀ t ∈ b.ltu.tasks, t.number.toNat < b.sizes.taskSlots
  room : b.ltu.tasks.length + b.ltu.reserved ≤ b.sizes.taskSlots

theorem tasksKept_iff (s : State) : TasksKept s ↔ PoolKept s.berth :=
  ⟨fun ⟨ascend, slots, room⟩ => ⟨ascend, slots, room⟩, fun ⟨ascend, slots, room⟩ => ⟨ascend, slots, room⟩⟩

/-- R117, R217: a free slot that a task can take is a slot of the section. -/
theorem freeTaskSlot_lt {b : Berth} {n : TaskNo} (slot : b.freeTaskSlot = some n) : n.toNat < b.sizes.taskSlots := by
  have within : b.sizes.taskSlotsWithin ≤ b.sizes.taskSlots := Nat.min_le_left ..
  have memory : b.sizes.taskSlotsWithin ≤ 1600 - b.sizes.ticketSlots - b.sizes.ruleSlots := Nat.min_le_right ..
  obtain ⟨-, below, -⟩ := lowestFree_spec _ _ _ _ (by omega) slot
  omega

/-- Distinct numbers below a bound are at most so many. -/
theorem length_le_of_nodup_lt {l : List Nat} {N : Nat} (nodup : l.Nodup) (below : ∀ x ∈ l, x < N) : l.length ≤ N := by
  have sub : l ⊆ List.range N := fun x mem => List.mem_range.2 (below x mem)
  simpa using (nodup.subperm sub).length_le

namespace PoolKept

variable {b b' : Berth}

theorem within (h : PoolKept b) (w : b'.PoolWithin b) : PoolKept b' := by
  obtain ⟨slots, tasks, reserved⟩ := w
  have numbers : (b'.ltu.tasks.map fun t => t.number.toNat).Sublist (b.ltu.tasks.map fun t => t.number.toNat) := by
    simpa [Function.comp_def] using tasks.map BitVec.toNat
  refine ⟨h.ascend.sublist numbers, fun t mem => ?_, ?_⟩
  · obtain ⟨u, listed, same⟩ := List.mem_map.1 (tasks.subset (List.mem_map_of_mem mem))
    rw [slots, ← same]
    exact h.slots u listed
  · have fewer : b'.ltu.tasks.length ≤ b.ltu.tasks.length := by simpa using tasks.length_le
    have room := h.room
    omega

theorem congr (h : PoolKept b) (e : b'.pool = b.pool) : PoolKept b' := h.within (.of_pool e)

theorem of_empty (tasks : b.ltu.tasks = []) (reserved : b.ltu.reserved = 0) : PoolKept b := by
  refine ⟨?_, ?_, ?_⟩ <;> simp [tasks, reserved]

/-- A section with a free slot has fewer tasks than slots. -/
theorem length_lt (h : PoolKept b) {n : TaskNo} (slot : b.freeTaskSlot = some n) : b.ltu.tasks.length < b.sizes.taskSlots := by
  have new : n.toNat ∉ b.ltu.tasks.map fun t => t.number.toNat := fun mem => by
    obtain ⟨t, listed, same⟩ := List.mem_map.1 mem
    exact List.find?_eq_none.1 (freeTaskSlot_new slot) t listed (by simpa using BitVec.eq_of_toNat_eq same)
  have nodup : (n.toNat :: b.ltu.tasks.map fun t => t.number.toNat).Nodup :=
    List.nodup_cons.2 ⟨new, h.ascend.imp Nat.ne_of_lt⟩
  have fits := length_le_of_nodup_lt nodup (N := b.sizes.taskSlots) (by simpa using ⟨freeTaskSlot_lt slot, h.slots⟩)
  simpa using fits

/-! ## Slots taken -/

/-- R117: a new task takes a free slot that is not reserved. -/
theorem createTask (h : PoolKept b) {n : TaskNo} (k : TaskKind) (bay : Bay) (c : Crane) (l : Nat) (slot : b.freeTaskSlot = some n)
    (free : b.ltu.tasks.length + b.ltu.reserved < b.sizes.taskSlots) : PoolKept (b.createTask n k bay c l) := by
  have new := List.find?_eq_none.1 (freeTaskSlot_new slot)
  refine ⟨insertBy_pairwise (fun t : Task => t.number.toNat) _ _ h.ascend fun t mem same => ?_, fun t mem => ?_, ?_⟩
  · exact new t mem (by simpa using BitVec.eq_of_toNat_eq same)
  · rcases (mem_insertBy ..).1 mem with rfl | old
    · exact (freeTaskSlot_lt slot : n.toNat < b.sizes.taskSlots)
    · exact h.slots t old
  · have length := createTask_tasks_length b n k bay c l
    show (b.createTask n k bay c l).ltu.tasks.length + b.ltu.reserved ≤ b.sizes.taskSlots
    omega

theorem linkUnlash (h : PoolKept b) {t : Ticket} (e : linkUnlash b t = some b') : PoolKept b' := by
  have free : b.freeTasks ≠ 0 → b.ltu.tasks.length + b.ltu.reserved < b.sizes.taskSlots := fun room => by
    unfold freeTasks at room
    omega
  unfold Machine.linkUnlash at e
  dsimp only at e
  split at e
  · cases e
    exact h.congr ((modTicket_pool ..).trans (modTask_pool _ _ _ fun _ => rfl))
  · split at e
    · cases e
    · next room =>
      split at e
      · next slot =>
        cases e
        exact (h.createTask _ _ _ _ slot (free room)).congr (modTicket_pool ..)
      · cases e

theorem releaseTicket (h : PoolKept b) {t : Ticket} (e : releaseTicket b t = .ok b') : PoolKept b' := by
  unfold Machine.releaseTicket at e
  dsimp only at e
  split at e
  · cases e
  · split at e
    · split at e
      · next linked =>
        cases e
        exact (h.linkUnlash linked).congr (modTicket_pool ..)
      · cases e
    · cases e
      exact h.congr (modTicket_pool ..)

/-- R125: a landing's reservation becomes a link, or the slot of a new task. -/
theorem linkLash (h : PoolKept b) (c : Crane) (bay : Bay) (ns : List TicketNo) : PoolKept (linkLash b c bay ns) := by
  have given := h.within (unreserve_within b)
  cases join : b.joinableLash bay with
  | some x =>
    rw [linkLash_join join]
    exact given.congr ((modTickets_pool ..).trans (modTask_pool _ _ _ fun _ => rfl))
  | none =>
    cases slot : b.freeTaskSlot with
    | some j =>
      have free : b.ltu.tasks.length + (b.ltu.reserved - 1) < b.sizes.taskSlots := by
        have fewer := h.length_lt slot
        have room := h.room
        omega
      rw [linkLash_create join slot]
      exact (given.createTask _ _ _ _ slot free).congr (modTickets_pool ..)
    | none =>
      rw [linkLash_full join slot]
      exact given

theorem land (h : PoolKept b) (c : Crane) (k : Bool) : PoolKept (land b c k) := by
  have set : (setDown b c k).pool = b.pool := pool_congr (setDown_sizes b c k) (setDown_ltu b c k)
  have freed : PoolKept (releaseCraneClaim (setDown b c k) c) := h.congr ((releaseCraneClaim_pool ..).trans set)
  have linked : PoolKept (landed b c k) := by
    refine PoolKept.congr ?_ (craneReasons_pool ..)
    unfold linkLanded
    split
    · exact freed
    · exact freed
    · exact freed.linkLash ..
  rw [land_eq]
  split
  · exact linked.congr (foldl_keeps Berth.pool _ freeTicket_pool ..)
  · exact linked

/-- R124: a grant or a pick reserves a slot only where one is free. -/
theorem makeGrant (h : PoolKept b) {c : Crane} {k : Candidate} {pin : Option Tag} {e : Option Truck} (pick : Bool)
    (passed : checkCandidate b c k pin = .ok e) : PoolKept (makeGrant b c k e pick) := by
  obtain ⟨-, -, room, -⟩ := checkCandidate_passed passed
  have sizes : (Machine.makeGrant b c k e pick).sizes = b.sizes := congrArg Prod.fst (makeGrant_roll b c k e pick)
  refine ⟨by rw [makeGrant_ltu]; exact h.ascend, by rw [makeGrant_ltu, sizes]; exact h.slots, ?_⟩
  rw [makeGrant_ltu, sizes]
  dsimp only
  split
  · next lash =>
    have free := room lash
    unfold freeTasks at free
    omega
  · exact h.room

/-! ## The end of a change -/

theorem selectionPass (h : PoolKept b) (c : Crane) : PoolKept (selectionPass b c) := by
  have judged : ∀ l : List Candidate, (l.foldl (writeFailures c) b).pool = b.pool := fun l =>
    foldl_keeps Berth.pool _ (fun b k => by unfold writeFailures; split <;> rfl) l b
  unfold Machine.selectionPass
  split
  · unfold passStrict
    split
    · exact h
    · dsimp only
      split
      · exact h.congr (by simp)
      · next passed => exact (h.congr (setReasons_pool ..)).makeGrant false passed
  · unfold passPriority
    dsimp only
    split
    · exact h.congr (judged _)
    · split
      · exact h.congr ((setReasons_pool ..).trans (judged _))
      · next passed => exact (h.congr (judged _)).makeGrant false passed

theorem passAndCheck (h : PoolKept b) (c : Crane) : PoolKept (passAndCheck b c) := (h.selectionPass c).congr (starveCheck_pool ..)

theorem runWork (h : PoolKept b) : PoolKept (runWork b) :=
  runWork_kept (fun _ c h => h.passAndCheck c) (fun _ h => h.congr (consult_pool _))
    (fun _ h => h.congr (promoteDue_keeps Berth.pool (fun _ _ => rfl) (fun _ _ _ _ => rfl) _)) (h.congr (gangWork_pool b))

theorem settle (h : PoolKept b) : PoolKept (settle b) := by
  have marked : PoolKept (markLates b) := h.congr (markLates_pool b)
  refine PoolKept.congr ?_ ((evalLevels_pool _).trans (starveSweep_pool _))
  split
  · exact marked.runWork
  · exact marked.congr rfl

theorem settleIf (h : PoolKept b') : PoolKept (settleIf b b') := by
  unfold Machine.settleIf
  split
  · next same => exact same ▸ h
  · exact h.settle

/-- A change of the pool that takes no slot, and the end of the change. -/
theorem settled (h : PoolKept b) (w : b'.PoolWithin b) : PoolKept (Machine.settle b') := (h.within w).settle

/-! ## Events of quay time -/

theorem clockStep (h : PoolKept b) : PoolKept (clockStep b) := by
  have due := (dueTimeEvent_within (b.setTime b.now.next)).before (setTime_pool ..)
  unfold Machine.clockStep
  dsimp only
  split
  · split
    · exact h.settled due
    · exact h.settled (due.after (evalShift_pool _))
  · exact h

theorem expiryEvent (h : PoolKept b) (c : Crane) : PoolKept (expiryEvent c b) := by
  unfold Machine.expiryEvent
  split
  · exact h.settled (expireGrant_within b c)
  · exact h

theorem lateEvent (h : PoolKept b) (n : TicketNo) : PoolKept (lateEvent n b) := by
  unfold Machine.lateEvent
  split
  · exact h.settled (.of_pool rfl)
  · exact h

theorem boundaryEvent (h : PoolKept b) : PoolKept (boundaryEvent b) := by
  unfold Machine.boundaryEvent
  split
  · exact h.settled (.of_pool (evalShift_pool b))
  · exact h

/-! ## Ticket commands -/

theorem ownLoad (h : PoolKept b) (body : List Byte) : PoolKept (ownLoad b body).1 := by
  have created : ∀ t, PoolKept (createTicket b t) := fun t => h.congr (createTicket_pool b t)
  unfold Machine.ownLoad
  dsimp only
  split; · exact h
  split; · exact h
  split; · exact h
  split; · exact h
  split
  · exact (created _).settle
  · split
    · next released => exact ((created _).releaseTicket released).settle
    · exact h

theorem ownAmend (h : PoolKept b) (body : List Byte) : PoolKept (ownAmend b body).1 := by
  unfold Machine.ownAmend
  dsimp only
  split; · exact h
  split; · exact h
  split; · exact h
  split; · exact h
  split; · exact h
  split; · exact h
  exact h.settled (amendTicket_within ..)

theorem ownRelease (h : PoolKept b) (body : List Byte) : PoolKept (ownRelease b body).1 := by
  unfold Machine.ownRelease
  dsimp only
  split; · exact h
  split; · exact h
  split
  · next released => exact (h.releaseTicket released).settle
  · exact h

theorem ownHold (h : PoolKept b) (body : List Byte) : PoolKept (ownHold b body).1 := by
  unfold Machine.ownHold
  dsimp only
  split
  · exact h
  · split
    case h_2 => exact h.settled (.of_pool (modTicket_pool ..))
    case h_3 => exact h.settled (withdraw_within ..)
    all_goals exact h

theorem ownCancel (h : PoolKept b) (body : List Byte) : PoolKept (ownCancel b body).1 := by
  unfold Machine.ownCancel
  dsimp only
  split
  · exact h
  · split
    case h_1 | h_2 => exact h.settled (cancelTicket_within ..)
    case h_3 => exact h.settled ((cancelTicket_within ..).trans (withdraw_within ..))
    all_goals exact h

theorem ownRetire (h : PoolKept b) (body : List Byte) : PoolKept (ownRetire b body).1 := by
  unfold Machine.ownRetire
  dsimp only
  split
  · exact h
  · split
    · exact h
    · exact h.settled (.of_pool (freeTicket_pool ..))

theorem ownForce (h : PoolKept b) (body : List Byte) : PoolKept (ownForce b body).1 := by
  have forced : ∀ c n, (setForced b c n).pool = b.pool := fun _ _ => rfl
  unfold Machine.ownForce
  dsimp only
  split; · exact h
  split; · exact h
  split; · exact h
  split
  · exact ((h.congr (forced _ _)).land _ _).settle
  · exact h.settled ((abandonLift_within ..).before (forced _ _))

/-! ## Crane, lane, truck and rule commands -/

theorem ownCraneHalt (h : PoolKept b) (body : List Byte) : PoolKept (ownCraneHalt b body).1 := by
  unfold Machine.ownCraneHalt
  split
  · exact h
  · exact h.settled (haltCrane_within ..)

theorem ownCraneResume (h : PoolKept b) (body : List Byte) : PoolKept (ownCraneResume b body).1 := by
  unfold Machine.ownCraneResume
  split
  · exact h
  · exact h.congr (modCrane_pool ..)

theorem ownCraneMode (h : PoolKept b) (body : List Byte) : PoolKept (ownCraneMode b body).1 := by
  unfold Machine.ownCraneMode
  split
  · next k _ _ _ _ =>
    cases k with
    | auto => exact h.settled (.of_pool ((setAuto_pool ..).trans (modCrane_pool ..)))
    | manual => exact h.settled ((setManual_within ..).before (modCrane_pool ..))
  · exact h

theorem ownLaneSet (h : PoolKept b) (body : List Byte) : PoolKept (ownLaneSet b body).1 := by
  unfold Machine.ownLaneSet
  dsimp only
  split
  · split
    · exact h
    · refine h.settled (.of_pool ?_)
      split <;> rfl
  · exact h

theorem ownTruckRemove (h : PoolKept b) (body : List Byte) : PoolKept (ownTruckRemove b body).1 := by
  unfold Machine.ownTruckRemove
  split
  · exact h
  · exact h.settled (removeTruck_within ..)

theorem ownTruckVerify (h : PoolKept b) (body : List Byte) : PoolKept (ownTruckVerify b body).1 := by
  unfold Machine.ownTruckVerify
  split
  · exact h
  · exact h.settled (.of_pool (verifyTruck_pool ..))

theorem ownRuleWrite (h : PoolKept b) (body : List Byte) : PoolKept (ownRuleWrite b body).1 := by
  unfold Machine.ownRuleWrite
  dsimp only
  split
  · split
    · exact h
    · exact h.congr rfl
  · exact h

/-! ## Gang commands -/

theorem ownGangDuty (h : PoolKept b) (body : List Byte) : PoolKept (ownGangDuty b body).1 := by
  unfold Machine.ownGangDuty
  split
  · refine h.settled (.of_pool ?_)
    split
    · exact dutyOn_pool ..
    · exact dutyOff_pool ..
  · exact h

theorem ownGangServe (h : PoolKept b) (body : List Byte) : PoolKept (ownGangServe b body).1 := by
  unfold Machine.ownGangServe
  split
  · exact h.settled (.of_pool (serve_pool ..))
  · exact h

theorem ownGangRoster (h : PoolKept b) (body : List Byte) : PoolKept (ownGangRoster b body).1 := by
  unfold Machine.ownGangRoster
  split
  · split
    · exact h.settled (.of_pool ((applyRoster_pool ..).trans (modGang_pool ..)))
    · exact h
  · exact h

theorem ownGangClear (h : PoolKept b) (body : List Byte) : PoolKept (ownGangClear b body).1 := by
  unfold Machine.ownGangClear
  split
  · split
    · exact h.settled (comeOffDeck_within ..)
    · exact h
  · exact h

/-! ## Clock, mode and configuration commands -/

theorem ownClockSet (h : PoolKept b) (body : List Byte) : PoolKept (ownClockSet b body).1 := by
  unfold Machine.ownClockSet
  dsimp only
  split
  all_goals
    split
    · exact h
    · exact h.settled ((dueTimeEvent_within _).before (by simp))

theorem ownClockAdjust (h : PoolKept b) (body : List Byte) : PoolKept (ownClockAdjust b body).1 := by
  unfold Machine.ownClockAdjust
  dsimp only
  split
  · exact h
  · split
    · exact h
    · refine h.settled ((dueTimeEvent_within _).before ?_)
      split <;> simp

theorem ownClockRun (h : PoolKept b) : PoolKept (ownClockRun b).1 := by
  unfold Machine.ownClockRun
  dsimp only
  split
  · exact h
  · exact h.settled ((dueTimeEvent_within _).before (setRunning_pool ..))

theorem moveMode (h : PoolKept b) (m : Mode) : PoolKept (moveMode b m).1 := by
  unfold Machine.moveMode
  dsimp only
  split
  case h_4 =>
    split
    · exact h.settled (.of_pool (enterRun_pool b))
    · exact h
  case h_5 => exact h.congr rfl
  case h_6 =>
    split
    · exact h
    · exact h.settled (.of_pool (enterConfigFromRun_pool b))
  case h_7 => exact h.congr (setMode_pool ..)
  all_goals exact h

theorem ownModeSet (h : PoolKept b) (body : List Byte) : PoolKept (ownModeSet b body).1 := by
  unfold Machine.ownModeSet
  split
  · exact h
  · exact h.moveMode _

theorem ownConfigWrite (h : PoolKept b) (body : List Byte) : PoolKept (ownConfigWrite b body).1 := by
  have applied : ∀ code c value, (applyConfig b code c value).pool = b.pool := fun code c value => by
    unfold applyConfig
    dsimp only
    split
    · exact evalShift_pool _
    · rfl
  unfold Machine.ownConfigWrite
  dsimp only
  split; · exact h
  split; · exact h
  split; · exact h
  split; · exact h
  exact h.settled (.of_pool (applied _ _ _))

/-- R216: a new partition finds the pool empty. -/
theorem ownPartition (h : PoolKept b) (body : List Byte) : PoolKept (ownPartition b body).1 := by
  unfold Machine.ownPartition
  dsimp only
  split; · exact h
  split; · exact h
  split; · exact h
  next empty =>
  simp only [Bool.or_eq_true, Bool.not_eq_true', List.isEmpty_eq_false_iff, bne_iff_ne, ne_eq, not_or, not_not] at empty
  exact (PoolKept.of_empty (b := applyPartition b _) empty.1 empty.2).settle

theorem ownWrite (h : PoolKept b) (code : Byte) (body : List Byte) : PoolKept (ownWrite code body b).1 := by
  unfold Machine.ownWrite
  split
  case h_1 => exact h.ownLoad body
  case h_2 => exact h.ownAmend body
  case h_3 => exact h.ownRelease body
  case h_4 => exact h.ownHold body
  case h_5 => exact h.ownCancel body
  case h_6 => exact h.ownRetire body
  case h_7 => exact h.ownForce body
  case h_8 => exact h.ownCraneHalt body
  case h_9 => exact h.ownCraneResume body
  case h_10 => exact h.ownCraneMode body
  case h_11 => exact h.ownLaneSet body
  case h_12 => exact h.ownTruckVerify body
  case h_13 => exact h.ownTruckRemove body
  case h_14 => exact h.ownGangDuty body
  case h_15 => exact h.ownGangServe body
  case h_16 => exact h.ownGangRoster body
  case h_17 => exact h.ownGangClear body
  case h_18 => exact h.ownRuleWrite body
  case h_19 => exact h.ownClockSet body
  case h_20 => exact h.ownClockAdjust body
  case h_21 => exact h.ownClockRun
  case h_22 | h_23 | h_24 => exact h.congr rfl
  case h_25 => exact h.ownModeSet body
  case h_26 => exact h.ownConfigWrite body
  case h_27 => exact h.ownPartition body
  case h_28 => exact (PoolKept.of_empty (b := clearAll b) rfl rfl).settle
  case h_29 => exact h

/-! ## Reports of stations -/

theorem manualPick (h : PoolKept b) (c : Crane) (n : TicketNo) (tag : Option Tag) : PoolKept (manualPick b c n tag).1 := by
  unfold Machine.manualPick
  dsimp only
  split; · exact h
  split; · exact h
  split; · exact h
  split
  · exact h
  · next passed => exact (h.makeGrant true passed).congr ((lockOn_pool ..).trans (modTickets_pool ..))

theorem lockOnReport (h : PoolKept b) (c : Crane) (n : TicketNo) (tag : Option Tag) : PoolKept (lockOnReport b c n tag).1 := by
  unfold Machine.lockOnReport
  dsimp only
  split
  · exact h.congr (lockOn_pool ..)
  · split
    · exact h
    · split
      all_goals split
      case h_2.isTrue => exact h.manualPick c n tag
      all_goals exact h

theorem setDownReport (h : PoolKept b) (c : Crane) (n : TicketNo) (k : Bool) : PoolKept (setDownReport b c n k).1 := by
  unfold Machine.setDownReport
  dsimp only
  split; · exact h
  split; · exact h
  split; · exact h
  exact h.land _ _

theorem craneReport (h : PoolKept b) (c : Crane) (kind : Byte) (body : List Byte) :
    PoolKept (ownReport b (.crane c) kind body).1 := by
  unfold ownReport
  split; · exact h
  dsimp only
  split; · exact h.congr (askReport_pool ..)
  split; · exact h.congr (standbyReport_pool ..)
  split; · exact h.congr (positionReport_pool ..)
  split; · exact h.lockOnReport ..
  split; · exact h.setDownReport ..
  split; · exact h.within (abandonReport_within ..)
  split; · exact h.within (setManual_within ..)
  split; · exact h.congr (setAuto_pool ..)
  exact h

theorem gangReport (h : PoolKept b) (g : Gang) (kind : Byte) (body : List Byte) : PoolKept (ownReport b (.gang g) kind body).1 := by
  unfold ownReport
  split; · exact h
  dsimp only
  split; · exact h.congr (deckRequest_pool ..)
  split; · exact h.within (taskDoneReport_within ..)
  split; · exact h.within (offDeckReport_within ..)
  exact h

theorem ownReport (h : PoolKept b) (r : Role) (kind : Byte) (body : List Byte) : PoolKept (ownReport b r kind body).1 := by
  cases r with
  | crane c => exact h.craneReport c kind body
  | gang g => exact h.gangReport g kind body
  | gateIn =>
    unfold Machine.ownReport
    split; · exact h
    dsimp only
    split
    · exact h.congr (arriveReport_pool ..)
    · exact h
  | gateOut =>
    unfold Machine.ownReport
    split; · exact h
    dsimp only
    split
    · exact h.within (departReport_within ..)
    · exact h
  | unassigned | self =>
    unfold Machine.ownReport
    split <;> exact h

/-! ## Frames and orders -/

theorem handFrame (h : PoolKept b) (s : Station) (kind : Byte) (body : List Byte) : PoolKept (handFrame b s kind body) := by
  have online : PoolKept (makeOnline b s) := h.congr (makeOnline_pool b s)
  have sent : ∀ {x} r, PoolKept x → PoolKept (sendReply (Machine.settleIf b x) s r) := fun _ kept => kept.settleIf.congr rfl
  unfold Machine.handFrame
  dsimp only
  split
  · exact h
  · refine sent _ ?_
    split
    · exact online.ownReport ..
    · exact online
  · exact sent _ (online.ownReport ..)

theorem takeFrame (h : PoolKept b) (s : Station) (cls : BitVec 2) (kind : Byte) (body : List Byte) :
    PoolKept (takeFrame b s cls kind body) := by
  have refused : ∀ r, PoolKept (answer (b.raise linkError) s r) := fun r => h.congr ((answer_pool ..).trans (raise_pool ..))
  unfold Machine.takeFrame
  split
  · exact h.congr (raise_pool ..)
  · split
    · exact refused _
    · split
      · exact refused _
      · exact h.handFrame s kind body

theorem goodFrame (h : PoolKept b) (s : Station) (cls : BitVec 2) (kind : Byte) (body : List Byte) :
    PoolKept (goodFrame b s cls kind body) := by
  have heard : PoolKept ((setHeard b s).setSent none) := h.congr rfl
  unfold Machine.goodFrame
  dsimp only
  split
  · split
    · exact heard.settled (endAttempt_within ..)
    · exact heard.settled ((endAttempt_within ..).before (raise_pool ..))
  · exact heard.takeFrame s cls kind body

theorem badFrame (h : PoolKept b) : PoolKept (badFrame b) := by
  have noted : PoolKept ((b.setSent none).raise linkError) := h.congr rfl
  unfold Machine.badFrame
  dsimp only
  split
  · exact noted.settled (endAttempt_within ..)
  · exact noted

theorem windowClose (h : PoolKept b) : PoolKept (windowClose b) := by
  have silent : PoolKept (b.setSent none) := h.congr (setSent_pool ..)
  unfold Machine.windowClose
  dsimp only
  split
  · exact silent.settled (endAttempt_within ..)
  · exact silent

theorem sendOrder (h : PoolKept b) (o : SendOutcome) : PoolKept (sendOrder o b) := by
  have silent : PoolKept (b.setSent none) := h.congr (setSent_pool ..)
  unfold Machine.sendOrder
  dsimp only
  split
  · split
    · exact silent
    · split
      · exact silent
      · exact silent.congr (by simp)
      · exact silent.settled ((endAttempt_within ..).before (launch_pool ..))
  · exact silent

end PoolKept

/-! ## Every change of the berth -/

/-- R116, R117: no change of the berth gives two tasks one slot, or takes more slots than there are. -/
theorem poolKept_events : KeptByEvents PoolKept where
  reset _ := .of_empty rfl rfl
  timeout h := h.congr (raise_pool ..)
  write code body h := h.ownWrite code body
  frame st cls kind body h := h.goodFrame st cls kind body
  noFrame h := h.badFrame
  close h := h.windowClose
  send o h := h.sendOrder o
  clock h := h.clockStep
  expiry c h := h.expiryEvent c
  late n h := h.lateEvent n
  starved c h := h.congr (starveCheck_pool _ c)
  boundary h := h.boundaryEvent

/-- Settles O58: each change of the berth keeps the task pool in order, and so every step does. -/
theorem tasksStayWithinPool : Obligations.TasksStayWithinPool := by
  intro s t h e
  rw [tasksKept_iff] at h ⊢
  exact poolKept_events.step h e

end Sys2Proof.Machine

/-! # Assignment and dispatch of gangs (R127, R128, R130; O38) -/

namespace Sys2Proof.Machine

/-! ## The gang that takes a task (R127) -/

theorem eligible_iff (b : Berth) (t : Task) (g : Gang) : b.eligible t g = true ↔
    (b.gang g).onDuty = true ∧ b.online (gangStation g) = true ∧ (b.gang g).reliefDue = false
    ∧ inSet (b.gang g).served t.crane.val = true ∧ (b.gang g).tasks.length < 8 := by
  simp [Berth.eligible, and_assoc]

/-- R127: the eligible gangs, in the order of their numbers. -/
def Berth.eligibleGangs (b : Berth) (t : Task) : List Gang := allGangs.filter (b.eligible t)

theorem mem_eligibleGangs {b : Berth} {t : Task} {g : Gang} : g ∈ b.eligibleGangs t ↔ b.eligible t g = true := by
  simp [Berth.eligibleGangs, mem_allGangs]

theorem eligibleGangs_ascending (b : Berth) (t : Task) : (b.eligibleGangs t).Pairwise (· < ·) :=
  List.Pairwise.filter _ (by decide)

theorem eligibleGangs_nil {b : Berth} {t : Task} (none_ : ∀ g, b.eligible t g = false) : b.eligibleGangs t = [] :=
  List.filter_eq_nil_iff.2 fun g _ => by simp [none_ g]

/-- R127: the gang that takes a task. -/
def Berth.taker (b : Berth) (t : Task) : Option Gang :=
  firstLeast (fun g h => decide ((b.gang g).tasks.length < (b.gang h).tasks.length)) (b.eligibleGangs t)

theorem assignTask_eq (b : Berth) (t : Task) : assignTask b t = match b.taker t with
    | none => b
    | some g => takeTask b g t := rfl

theorem taker_some {b : Berth} {t : Task} {g : Gang} (eligible : b.eligible t g = true) : ∃ h, b.taker t = some h :=
  Option.ne_none_iff_exists'.1 fun none_ =>
    List.ne_nil_of_mem (mem_eligibleGangs.2 eligible) ((firstLeast_none _).1 none_)

theorem assignTask_stays {b : Berth} {t : Task} (none_ : ∀ g, b.eligible t g = false) : assignTask b t = b := by
  have nobody : b.taker t = none := (firstLeast_none _).2 (eligibleGangs_nil none_)
  rw [assignTask_eq, nobody]

/-- R127: the shortest list, ties to the lowest number. -/
theorem taker_shortest {b : Berth} {t : Task} {g : Gang} (eligible : b.eligible t g = true)
    (shortest : ∀ h, b.eligible t h = true → (b.gang g).tasks.length < (b.gang h).tasks.length
      ∨ ((b.gang g).tasks.length = (b.gang h).tasks.length ∧ g ≤ h)) : b.taker t = some g := by
  obtain ⟨h, chosen⟩ := taker_some eligible
  rw [chosen]
  have beaten := shortest h (mem_eligibleGangs.1 (firstLeast_mem _ chosen))
  obtain ⟨xs, ys, list, before, after⟩ := firstLeast_key (fun g => (b.gang g).tasks.length) chosen
  have mem := mem_eligibleGangs.2 eligible
  have ascending := eligibleGangs_ascending b t
  rw [list] at mem ascending
  rcases List.mem_append.1 mem with first | rest
  · have longer : (b.gang h).tasks.length < (b.gang g).tasks.length := before g first
    omega
  · rcases List.mem_cons.1 rest with rfl | later
    · rfl
    · have shorter : (b.gang h).tasks.length ≤ (b.gang g).tasks.length := after g later
      have lower : h < g := (List.pairwise_cons.1 (List.pairwise_append.1 ascending).2.1).1 g later
      rcases beaten with less | ⟨-, first⟩
      · omega
      · exact absurd lower (not_lt.2 first)

/-- R127: a task goes to the eligible gang with the shortest list. -/
theorem assignTask_takes {b : Berth} {t : Task} {g : Gang} (eligible : b.eligible t g = true)
    (shortest : ∀ h, b.eligible t h = true → (b.gang g).tasks.length < (b.gang h).tasks.length
      ∨ ((b.gang g).tasks.length = (b.gang h).tasks.length ∧ g ≤ h)) : assignTask b t = takeTask b g t := by
  rw [assignTask_eq, taker_shortest eligible shortest]

/-- R127: a task that some gang could take is taken. -/
theorem assignTask_taken {b : Berth} {t : Task} {g : Gang} (eligible : b.eligible t g = true) :
    ∃ h, assignTask b t = takeTask b h t := by
  obtain ⟨h, chosen⟩ := taker_some eligible
  exact ⟨h, by rw [assignTask_eq, chosen]⟩

/-! ## The place in the list (R128) -/

/-- The test of `QueuedKind`. -/
def Berth.isQueued (b : Berth) (kind : TaskKind) (n : TaskNo) : Bool :=
  (b.task? n).any fun t => t.state == .queued && t.kind == kind

theorem queuedKind_iff {b : Berth} {kind : TaskKind} {n : TaskNo} : QueuedKind b kind n ↔ b.isQueued kind n = true := by
  simp [QueuedKind, Berth.isQueued, Option.any_eq_true]

theorem not_queuedKind_iff {b : Berth} {kind : TaskKind} {n : TaskNo} : ¬ QueuedKind b kind n ↔ b.isQueued kind n = false := by
  rw [queuedKind_iff, Bool.not_eq_true]

theorem placeOf_none {α : Type} {p : α → Bool} {l : List α} (none_ : ∀ x ∈ l, p x = false) : placeOf p l = 0 := by
  induction l with
  | nil => rfl
  | cons x xs ih => simp [placeOf, none_ x List.mem_cons_self, ih fun y mem => none_ y (List.mem_cons_of_mem _ mem)]

/-- The places that R128 reads. -/
theorem listWith_unlash (b : Berth) (l : List TaskNo) (n : TaskNo) : b.listWith l n .unlash =
    match placeOf (b.isQueued .unlash) l.reverse with
    | k + 1 => l.take (l.length - k) ++ n :: l.drop (l.length - k)
    | 0 => match placeOf (b.isQueued .lash) l with
      | k + 1 => l.take k ++ n :: l.drop k
      | 0 => l ++ [n] := rfl

section

variable {b : Berth} {n m : TaskNo} {l xs ys : List TaskNo}

/-- R128: behind the last QUEUED UNLASH. -/
theorem listWith_behind (queued : QueuedKind b .unlash m) (last : ∀ y ∈ ys, ¬ QueuedKind b .unlash y) :
    b.listWith (xs ++ m :: ys) n .unlash = xs ++ m :: n :: ys := by
  have place : placeOf (b.isQueued .unlash) (xs ++ m :: ys).reverse = ys.length + 1 := by
    have found := placeOf_append (p := b.isQueued .unlash) (xs := ys.reverse)
      (fun y mem => not_queuedKind_iff.1 (last y (List.mem_reverse.1 mem))) (queuedKind_iff.1 queued) xs.reverse
    simpa using found
  have length : (xs ++ m :: ys).length - ys.length = (xs ++ [m]).length := by simp; omega
  have split_ : xs ++ m :: ys = (xs ++ [m]) ++ ys := by simp
  rw [listWith_unlash, place]
  dsimp only
  rw [length, split_, List.take_left, List.drop_left, List.append_assoc]
  rfl

/-- R128, log 41: with no QUEUED UNLASH, before the first QUEUED LASH. -/
theorem listWith_before (queued : QueuedKind b .lash m) (noUnlash : ∀ y ∈ xs ++ m :: ys, ¬ QueuedKind b .unlash y)
    (first : ∀ y ∈ xs, ¬ QueuedKind b .lash y) : b.listWith (xs ++ m :: ys) n .unlash = xs ++ n :: m :: ys := by
  have unlash : placeOf (b.isQueued .unlash) (xs ++ m :: ys).reverse = 0 :=
    placeOf_none fun y mem => not_queuedKind_iff.1 (noUnlash y (List.mem_reverse.1 mem))
  have lash : placeOf (b.isQueued .lash) (xs ++ m :: ys) = xs.length + 1 :=
    placeOf_append (fun y mem => not_queuedKind_iff.1 (first y mem)) (queuedKind_iff.1 queued) ys
  rw [listWith_unlash, unlash, lash]
  dsimp only
  rw [List.take_left, List.drop_left]

/-- R128: with nothing QUEUED, at the end. -/
theorem listWith_end (none_ : ∀ y ∈ l, ¬ QueuedKind b .unlash y ∧ ¬ QueuedKind b .lash y) :
    b.listWith l n .unlash = l ++ [n] := by
  have unlash : placeOf (b.isQueued .unlash) l.reverse = 0 :=
    placeOf_none fun y mem => not_queuedKind_iff.1 (none_ y (List.mem_reverse.1 mem)).1
  have lash : placeOf (b.isQueued .lash) l = 0 := placeOf_none fun y mem => not_queuedKind_iff.1 (none_ y mem).2
  rw [listWith_unlash, unlash, lash]

end

/-- A list that takes a task is longer by one. -/
theorem listWith_length (b : Berth) (l : List TaskNo) (n : TaskNo) (kind : TaskKind) :
    (b.listWith l n kind).length = l.length + 1 := by
  obtain ⟨xs, ys, list, taken, -⟩ := listWith_split b l n kind
  rw [taken, list]
  simp
  omega

/-! ## Dispatch (R130) -/

/-- R130: a gang that is not to be dispatched. -/
def Berth.undispatchable (b : Berth) (g : Gang) : Prop :=
  (b.gang g).activity ≠ .idle ∨ (b.gang g).onDuty = false ∨ b.online (gangStation g) = false ∨ b.firstTask g = none

/-- R130: the gang is called to its first task. -/
def callGang (b : Berth) (g : Gang) (t : Task) : Berth :=
  ((b.setTaskState t.number .dispatched).modGang g fun r => { r with activity := .assigned }).postGang g
    (.dispatch t.number t.kind t.bay t.crane)

theorem dispatchGang_calls {b : Berth} {g : Gang} {t : Task} (idle : (b.gang g).activity = .idle)
    (duty : (b.gang g).onDuty = true) (online : b.online (gangStation g) = true) (first : b.firstTask g = some t) :
    dispatchGang b g = callGang b g t := by
  unfold dispatchGang
  dsimp only
  rw [if_pos ⟨idle, duty, online⟩, first]
  rfl

theorem dispatchGang_stays {b : Berth} {g : Gang} (not_ : b.undispatchable g) : dispatchGang b g = b := by
  unfold dispatchGang
  dsimp only
  split
  · next may =>
    obtain ⟨idle, duty, online⟩ := may
    rcases not_ with busy | off | offline | none_
    · exact absurd idle busy
    · rw [off] at duty; cases duty
    · rw [offline] at online; cases online
    · rw [none_]
  · rfl

theorem dispatchGang_cases (b : Berth) (g : Gang) :
    (b.undispatchable g ∧ dispatchGang b g = b) ∨ ∃ t, dispatchGang b g = callGang b g t := by
  by_cases not_ : b.undispatchable g
  · exact Or.inl ⟨not_, dispatchGang_stays not_⟩
  · simp only [Berth.undispatchable, not_or, not_not, Bool.not_eq_false, ← ne_eq, Option.ne_none_iff_exists'] at not_
    obtain ⟨idle, duty, online, t, first⟩ := not_
    exact Or.inr ⟨t, dispatchGang_calls idle duty online first⟩

/-! ## What the assignment pass leaves (R127) -/

/-- A task is OPEN in the pool and a gang could take it. -/
def Berth.unassigned (b : Berth) (t : Task) : Prop := t ∈ b.ltu.tasks ∧ t.state = .opened ∧ ∃ g, b.eligible t g = true

/-- A task that a change of state has not reached stands in the pool as it did. -/
theorem mem_setTaskState {b : Berth} {n : TaskNo} {s : TaskState} {t : Task} (mem : t ∈ (b.setTaskState n s).ltu.tasks)
    (other : t.state ≠ s) : t ∈ b.ltu.tasks ∧ t.number ≠ n := by
  obtain ⟨u, listed, changed⟩ := List.mem_map.1 mem
  split at changed
  · subst changed
    exact absurd rfl other
  · next unnamed =>
    subst changed
    exact ⟨listed, by simpa using unnamed⟩

/-- R127: a gang's list only grows in the pass, so that no gang becomes eligible. -/
theorem takeTask_eligible {b : Berth} {g h : Gang} {t u : Task} (eligible : (takeTask b g u).eligible t h = true) :
    b.eligible t h = true := by
  rw [eligible_iff] at eligible ⊢
  obtain ⟨duty, online, stays, served, room⟩ := eligible
  by_cases own : h = g
  · subst own
    rw [takeTask_gang] at duty stays served room
    dsimp only at room
    rw [listWith_length] at room
    exact ⟨duty, online, stays, served, by omega⟩
  · have same : (takeTask b g u).gang h = b.gang h := Berth.gang_modGang_other _ _ _ _ own
    rw [same] at duty stays served room
    exact ⟨duty, online, stays, served, room⟩

theorem assignTask_unassigned {b : Berth} {t u : Task} (left : (assignTask b u).unassigned t) : b.unassigned t := by
  rcases assignTask_cases b u with same | ⟨g, -, same⟩ <;> rw [same] at left
  · exact left
  · obtain ⟨mem, opened, h, eligible⟩ := left
    exact ⟨(mem_setTaskState mem (by rw [opened]; decide)).1, opened, h, takeTask_eligible eligible⟩

/-- R127: a task that has had its turn is taken, or no gang could take it. -/
theorem assignTask_assigned (b : Berth) (t : Task) : ¬ (assignTask b t).unassigned t := by
  intro left
  obtain ⟨-, -, g, eligible⟩ := assignTask_unassigned left
  obtain ⟨h, taken⟩ := assignTask_taken eligible
  rw [taken] at left
  obtain ⟨mem, opened, -⟩ := left
  exact (mem_setTaskState mem (by rw [opened]; decide)).2 rfl

/-- R127: every task of the pool has had its turn, the OPEN tasks in the pass and the others before it. -/
theorem assignPass_assigned (b : Berth) (t : Task) : ¬ (assignPass b).unassigned t := by
  intro left
  have before : b.unassigned t := by
    by_contra assigned
    exact foldl_kept (P := fun b : Berth => ¬ b.unassigned t) (fun _ _ => mt assignTask_unassigned) b.openTasks assigned left
  obtain ⟨listed, opened, -⟩ := before
  have turn : t ∈ b.openTasks := (mem_sortBy ..).2 (List.mem_filter.2 ⟨listed, by simp [opened]⟩)
  exact foldl_makes (I := fun _ => True) (P := fun t (b : Berth) => ¬ b.unassigned t) (fun _ _ _ => trivial)
    (fun b t _ => assignTask_assigned b t) (fun _ _ _ => mt assignTask_unassigned) b.openTasks trivial t turn left

/-! ## What the dispatches leave (R130) -/

theorem callGang_own (b : Berth) (g : Gang) (t : Task) : (callGang b g t).gang g = { b.gang g with activity := .assigned } :=
  Berth.gang_modGang ..

theorem callGang_other (b : Berth) {g h : Gang} (t : Task) (other : h ≠ g) : (callGang b g t).gang h = b.gang h :=
  Berth.gang_modGang_other _ _ _ _ other

/-- A change of state gives no task a slot. -/
theorem task?_setTaskState_none {b : Berth} {n m : TaskNo} (x : TaskState) (none_ : b.task? m = none) :
    (b.setTaskState n x).task? m = none := by
  by_cases same : m = n
  · rw [same, task?_setTaskState_same, ← same, none_]
    rfl
  · rw [task?_setTaskState_other _ _ same, none_]

theorem callGang_firstTask {b : Berth} {g h : Gang} {t : Task} (other : h ≠ g) (none_ : b.firstTask h = none) :
    (callGang b g t).firstTask h = none := by
  unfold Berth.firstTask at none_ ⊢
  rw [callGang_other b t other]
  cases first : (b.gang h).tasks.head? with
  | none => rfl
  | some n =>
    rw [first] at none_
    exact task?_setTaskState_none _ none_

/-- R130: no call makes a gang eligible. -/
theorem callGang_eligible {b : Berth} {g h : Gang} {t u : Task} (eligible : (callGang b g u).eligible t h = true) :
    b.eligible t h = true := by
  by_cases own : h = g
  · rw [eligible_iff, own, callGang_own] at eligible
    rw [eligible_iff, own]
    exact eligible
  · rw [eligible_iff, callGang_other b u own] at eligible
    exact (eligible_iff ..).2 eligible

theorem dispatchGang_unassigned {b : Berth} {g : Gang} {t : Task} (left : (dispatchGang b g).unassigned t) : b.unassigned t := by
  rcases dispatchGang_cases b g with ⟨-, same⟩ | ⟨u, calls⟩
  · rwa [same] at left
  · rw [calls] at left
    obtain ⟨mem, opened, h, eligible⟩ := left
    exact ⟨(mem_setTaskState mem (by rw [opened]; decide)).1, opened, h, callGang_eligible eligible⟩

theorem dispatchGang_own (b : Berth) (g : Gang) : (dispatchGang b g).undispatchable g := by
  rcases dispatchGang_cases b g with ⟨not_, same⟩ | ⟨t, calls⟩
  · rwa [same]
  · rw [calls]
    refine Or.inl ?_
    rw [callGang_own]
    exact nofun

theorem dispatchGang_stands {b : Berth} (g : Gang) {h : Gang} (not_ : b.undispatchable h) :
    (dispatchGang b g).undispatchable h := by
  by_cases own : h = g
  · rw [own]
    exact dispatchGang_own b g
  rcases dispatchGang_cases b g with ⟨-, same⟩ | ⟨t, calls⟩
  · rwa [same]
  · rw [calls]
    unfold Berth.undispatchable at not_ ⊢
    rw [callGang_other b t own]
    rcases not_ with busy | off | offline | none_
    · exact Or.inl busy
    · exact Or.inr (Or.inl off)
    · exact Or.inr (Or.inr (Or.inl offline))
    · exact Or.inr (Or.inr (Or.inr (callGang_firstTask own none_)))

/-- R127, R130: what the gangs' work leaves undone. -/
structure GangsWorked (b : Berth) : Prop where
  assigned : ∀ t, ¬ b.unassigned t
  called : ∀ g, b.undispatchable g

theorem gangWork_worked (b : Berth) : GangsWorked (gangWork b) where
  assigned t := foldl_kept (P := fun b : Berth => ¬ b.unassigned t) (fun _ _ => mt dispatchGang_unassigned) allGangs
    (assignPass_assigned b t)
  called g := foldl_makes (I := fun _ => True) (P := fun g (b : Berth) => b.undispatchable g) (fun _ _ _ => trivial)
    (fun b g _ => dispatchGang_own b g) (fun _ g _ => dispatchGang_stands g) allGangs trivial g (mem_allGangs g)

/-! ## What follows the gangs' work in a change -/

/-- The records that assignment and dispatch read. -/
def Berth.hands (b : Berth) : Vector GangRec 4 × List Task × Vector StationRec 16 := (b.ltu.gangs, b.ltu.tasks, b.qlc.stations)

theorem GangsWorked.congr {b b' : Berth} (worked : GangsWorked b) (same : b'.hands = b.hands) : GangsWorked b' := by
  obtain ⟨gangs, rest⟩ := Prod.ext_iff.1 same
  obtain ⟨tasks, stations⟩ := Prod.ext_iff.1 rest
  dsimp only [Berth.hands] at gangs tasks stations
  have gang : b'.gang = b.gang := funext fun g => by unfold Berth.gang; rw [gangs]
  have online : b'.online = b.online := funext fun st => by unfold Berth.online Berth.station; rw [stations]
  have task? : b'.task? = b.task? := funext fun n => by unfold Berth.task?; rw [tasks]
  obtain ⟨assigned, called⟩ := worked
  constructor
  · simpa only [Berth.unassigned, Berth.eligible, gang, online, tasks] using assigned
  · simpa only [Berth.undispatchable, Berth.firstTask, gang, online, task?] using called

theorem makeGrant_hands (b : Berth) (c : Crane) (k : Candidate) (e : Option Truck) (pick : Bool) :
    (makeGrant b c k e pick).hands = b.hands := by
  have ltu := makeGrant_ltu (b := b) (c := c) (k := k) (e := e) (pick := pick)
  have stations : (makeGrant b c k e pick).qlc.stations = b.qlc.stations :=
    congrArg (fun x => x.2.2.2.2.2.1) (makeGrant_fixed b c k e pick)
  simp only [Berth.hands, ltu, stations]

theorem starveCheck_hands (b : Berth) (c : Crane) : (starveCheck b c).hands = b.hands := by
  unfold starveCheck
  split <;> rfl

theorem starveSweep_hands (b : Berth) : (starveSweep b).hands = b.hands := foldl_keeps Berth.hands _ starveCheck_hands ..

theorem evalLevels_hands (b : Berth) : b.evalLevels.hands = b.hands := rfl

theorem passAndCheck_hands (b : Berth) (c : Crane) : (passAndCheck b c).hands = b.hands :=
  (starveCheck_hands ..).trans
    (selectionPass_keeps Berth.hands (fun _ _ _ => rfl) (fun b k e => makeGrant_hands b c k e false) b)

theorem runWork_worked (b : Berth) : GangsWorked (runWork b) :=
  runWork_kept (fun b c h => h.congr (passAndCheck_hands b c)) (fun _ h => h.congr rfl)
    (fun b h => h.congr (promoteDue_keeps Berth.hands (fun _ _ => rfl) (fun _ _ _ _ => rfl) b)) (gangWork_worked b)

/-- R127, R130: a change in RUN ends with every gang's work done. -/
theorem settle_worked {b : Berth} (run : b.mode = .run) : GangsWorked (settle b) := by
  have mode : (markLates b).mode = .run := (congrArg Prod.fst (markLates_fixed b)).trans run
  have work : changeWork (markLates b) = runWork (markLates b) := if_pos mode
  have swept : (settle b).hands = (runWork (markLates b)).hands := by
    rw [settle_eq, evalLevels_hands, starveSweep_hands, work]
  exact (runWork_worked _).congr swept

/-! ## The obligation -/

/-- Settles O38, from the order in which eligible gangs are compared, the places in a list and what the gangs' work of a
change leaves undone. -/
theorem gangAssignment : Obligations.GangAssignment := by
  refine ⟨eligible_iff, fun _ _ => assignTask_stays, fun _ _ _ => assignTask_takes,
    fun b n l xs ys m => ⟨rfl, listWith_behind, listWith_before, listWith_end⟩,
    fun b g => ⟨fun t => dispatchGang_calls, dispatchGang_stays⟩, fun b run => ?_⟩
  obtain ⟨assigned, called⟩ := settle_worked run
  refine ⟨fun t listed opened g => ?_, called⟩
  by_contra eligible
  exact assigned t ⟨listed, opened, g, Bool.eq_true_of_not_eq_false eligible⟩

end Sys2Proof.Machine

/-! # The shift (R149 to R151; O24) -/

namespace Sys2Proof.Machine

/-! ## What the rosters leave (R136) -/

section

variable {α : Type} (f : Berth → α) (gang : ∀ (b : Berth) g r, f (b.modGang g r) = f b)
  (task : ∀ (b : Berth) n s, f (b.setTaskState n s) = f b) (posted : ∀ (b : Berth) g o, f (b.postGang g o) = f b)
  (request : ∀ (b : Berth) g, f (leaveDeckRequest b g) = f b)
include gang task posted request

theorem dutyOff_keeps (b : Berth) (g : Gang) : f (dutyOff b g) = f b := by
  cases on : (b.gang g).onDuty with
  | false => rw [dutyOff_offDuty on]
  | true =>
    cases activity : (b.gang g).activity with
    | idle => rw [dutyOff_idle on activity, leaveDuty_keeps f (fun b => gang b g) task]
    | onDeck => rw [dutyOff_onDeck on activity, gang]
    | assigned | waitDeck =>
      rw [dutyOff_busy on (by simp [activity]), recallFirst_keeps f posted, leaveDuty_keeps f (fun b => gang b g) task, request]

/-- A reading of no gang, task or gang order, which the release of a deck request leaves. -/
theorem applyRosters_keeps (b : Berth) : f (applyRosters b) = f b := by
  refine foldl_keeps f _ (fun b g => ?_) ..
  rw [applyRoster_eq]
  split
  · exact dutyOff_keeps f gang task posted request b g
  · exact gang ..

end

@[simp] theorem applyRosters_clock (b : Berth) : (applyRosters b).clock = b.clock :=
  applyRosters_keeps (·.clock) (fun _ _ _ => rfl) (fun _ _ _ => rfl) (fun _ _ _ => rfl) leaveDeckRequest_clock b

@[simp] theorem applyRosters_nu (b : Berth) : (applyRosters b).nu = b.nu :=
  applyRosters_keeps (·.nu) (fun _ _ _ => rfl) (fun _ _ _ => rfl) (fun _ _ _ => rfl) leaveDeckRequest_nu b

/-! ## The evaluation of the shift (R150, R151) -/

theorem evalShift_same {b : Berth} (same : shiftOneHot b.params b.nowSecs = b.clock.shiftIndex) : evalShift b = b :=
  if_pos same

theorem evalShift_differs {b : Berth} (differs : shiftOneHot b.params b.nowSecs ≠ b.clock.shiftIndex) :
    evalShift b = applyRosters
      (({ b with clock := { b.clock with shiftIndex := shiftOneHot b.params b.nowSecs } } : Berth).raise shiftChange) :=
  if_neg differs

theorem evalShift_clock (b : Berth) :
    (evalShift b).clock = { b.clock with shiftIndex := shiftOneHot b.params b.nowSecs } := by
  by_cases same : shiftOneHot b.params b.nowSecs = b.clock.shiftIndex
  · rw [evalShift_same same, same]
  · rw [evalShift_differs same, applyRosters_clock]
    rfl

/-- R151: a shift change raises SHIFT_CHANGE, and no roster that it applies raises another notice. -/
theorem evalShift_raises {b : Berth} (differs : shiftOneHot b.params b.nowSecs ≠ b.clock.shiftIndex) :
    (evalShift b).nu.raw = b.nu.raw ||| shiftChange := by
  rw [evalShift_differs differs, applyRosters_nu]
  rfl

/-- Settles O24: the figures are computed, and the evaluation is read off by whether the index differs. -/
theorem shifts : Obligations.Shifts := by
  refine ⟨?_, fun b => ⟨?_, evalShift_same, evalShift_raises⟩⟩
  · decide
  · rw [evalShift_clock]

end Sys2Proof.Machine

/-! # The quay clock (R142 to R147; O23) -/

namespace Sys2Proof.Machine

/-! ## Quay time in sixteenths (R142, R147) -/

@[simp] theorem QTime.ofBits_bits (q : QTime) : QTime.ofBits q.bits = q := by
  have secs : q.bits.extractLsb' 4 32 = q.secs := BitVec.extractLsb'_append_eq_left
  have six : q.bits.extractLsb' 0 4 = q.six := BitVec.extractLsb'_append_eq_right
  rw [QTime.ofBits, secs, six]

@[simp] theorem QTime.bits_ofBits (x : BitVec 36) : (QTime.ofBits x).bits = x :=
  (extract_join x 0 32 4).trans BitVec.extractLsb'_eq_self

theorem QTime.bits_toNat (q : QTime) : q.bits.toNat = q.secs.toNat * 2 ^ 4 + q.six.toNat := by
  rw [QTime.bits, BitVec.toNat_append, ← Nat.shiftLeft_add_eq_or_of_lt q.six.isLt, Nat.shiftLeft_eq]

/-- A quay time is the next one where it counts one sixteenth more. -/
theorem QTime.next_eq {q p : QTime} (more : p.bits.toNat = (q.bits.toNat + 1) % 2 ^ 36) : q.next = p := by
  have counts : q.bits + 1 = p.bits := BitVec.eq_of_toNat_eq (by rw [more]; rfl)
  rw [QTime.next, counts, QTime.ofBits_bits]

/-- R142: below the last sixteenth of a second the seconds stand. -/
theorem QTime.next_within {q : QTime} (within : q.six ≠ 15) : q.next = { q with six := q.six + 1 } := by
  have below : q.six.toNat ≠ 15 := fun last => within (BitVec.eq_of_toNat_eq last)
  apply QTime.next_eq
  rw [QTime.bits_toNat, QTime.bits_toNat, BitVec.toNat_add]
  simp only [BitVec.reduceToNat]
  omega

/-- R142: the last sixteenth carries into the seconds, which wrap. -/
theorem QTime.next_carries {q : QTime} (last : q.six = 15) : q.next = { secs := q.secs + 1, six := 0 } := by
  apply QTime.next_eq
  rw [QTime.bits_toNat, QTime.bits_toNat, BitVec.toNat_add, last]
  simp only [BitVec.reduceToNat]
  omega

/-- A signed number added to a word is added modulo the word's size. -/
theorem toNat_add_toInt {w : Nat} (x y : BitVec w) : ((x + y).toNat : Int) = ((x.toNat : Int) + y.toInt) % 2 ^ w := by
  have size : (2 : Int) ^ w = (2 ^ w : Nat) := by norm_cast
  rw [size, BitVec.toNat_add, BitVec.toInt_eq_toNat_bmod, Int.add_emod, Int.bmod_emod, ← Int.add_emod]
  norm_cast

theorem QTime.adjust_bits (q : QTime) (d : Byte) :
    ((q.adjust d).bits.toNat : Int) = ((q.bits.toNat : Int) + d.toInt) % 2 ^ 36 := by
  rw [QTime.adjust, QTime.bits_ofBits, toNat_add_toInt, BitVec.toInt_signExtend_of_le (by decide)]

/-! ## The commands from a ready port (R144 to R147) -/

section

variable {s : State} {body : List Byte} {b : Berth} {r : Res} (ready : PortReady s)
include ready

theorem exec_clockSet (long : 4 ≤ body.length) (short : body.length ≤ 5) (own : ownClockSet s.berth body = (b, r)) :
    exec (.clockSet body) s = .next (applied 0x50 b r s) :=
  congrArg _ (hostWrite_owned (code := 0x50) ready rfl rfl long short (by cases s.berth.mode <;> rfl) own)

theorem exec_clockAdjust {d : Byte} (own : ownClockAdjust s.berth [d] = (b, r)) :
    exec (.clockAdjust [d]) s = .next (applied 0x51 b r s) :=
  congrArg _ (hostWrite_owned (code := 0x51) ready rfl rfl le_rfl le_rfl (by cases s.berth.mode <;> rfl) own)

theorem exec_clockRun (own : ownClockRun s.berth = (b, r)) : exec .clockRun s = .next (applied 0x52 b r s) :=
  congrArg _ (hostWrite_owned (code := 0x52) ready rfl rfl le_rfl le_rfl (by cases s.berth.mode <;> rfl) own)

theorem exec_clockStop : exec .clockStop s = .next (applied 0x53 (s.berth.setRunning false) (clockRes s.berth) s) :=
  congrArg _ (hostWrite_owned (code := 0x53) ready rfl rfl le_rfl le_rfl (by cases s.berth.mode <;> rfl) rfl)

end

/-- R152: the due times are handed the event, and the result is that of the clock as the change ends. -/
def clockChanged (b : Berth) : Berth × Res := (settle (dueTimeEvent b), clockRes (settle (dueTimeEvent b)))

/-- R146: CLOCK_SET without a byte of sixteenths. -/
theorem ownClockSet_secs (b : Berth) (secs : Secs) : ownClockSet b (bytes32 secs) =
    clockChanged (evalShift (b.setTime { secs, six := 0 })) := by
  have time : word32At (bytes32 secs) 0 = secs := bytes32_join secs
  have short : (bytes32 secs).length ≠ 5 := Nat.ne_of_beq_eq_false rfl
  have low : ¬ 15 < (0 : Byte).toNat := by decide
  have sixteenths : (0 : Byte).extractLsb' 0 4 = 0 := rfl
  simp only [ownClockSet, short, if_false, low, time, sixteenths, clockChanged]

/-- R146: CLOCK_SET with its byte of sixteenths. -/
theorem ownClockSet_sixteenths (b : Berth) (secs : Secs) (six : BitVec 4) :
    ownClockSet b (bytes32 secs ++ [six.setWidth 8]) = clockChanged (evalShift (b.setTime { secs, six })) := by
  have time : word32At (bytes32 secs ++ [six.setWidth 8]) 0 = secs := bytes32_join secs
  have long : (bytes32 secs ++ [six.setWidth 8]).length = 5 := rfl
  have last : byteAt (bytes32 secs ++ [six.setWidth 8]) 4 = six.setWidth 8 := rfl
  have low : ¬ 15 < (six.setWidth 8).toNat := by rw [BitVec.toNat_setWidth]; omega
  have sixteenths := roster_bits six
  simp only [ownClockSet, long, if_true, last, low, if_false, time, sixteenths, clockChanged]

/-- R147: an adjustment that changes the seconds evaluates the shift. -/
theorem ownClockAdjust_moves {b : Berth} {d : Byte} (valid : d ≠ 0x80) (adjusts : d ≠ 0)
    (moves : (b.now.adjust d).secs ≠ b.nowSecs) :
    ownClockAdjust b [d] = clockChanged (evalShift (b.setTime (b.now.adjust d))) :=
  (if_neg valid).trans ((if_neg adjusts).trans (congrArg clockChanged (if_neg moves)))

/-- R147: an adjustment within the second leaves the shift. -/
theorem ownClockAdjust_stays {b : Berth} {d : Byte} (valid : d ≠ 0x80) (adjusts : d ≠ 0)
    (stays : (b.now.adjust d).secs = b.nowSecs) : ownClockAdjust b [d] = clockChanged (b.setTime (b.now.adjust d)) :=
  (if_neg valid).trans ((if_neg adjusts).trans (congrArg clockChanged (if_pos stays)))

/-- R144: CLOCK_RUN of a stopped clock. -/
theorem ownClockRun_stopped {b : Berth} (stopped : b.clock.running = false) :
    ownClockRun b = clockChanged (b.setRunning true) := if_neg (by simp [stopped])

theorem ownClockRun_running {b : Berth} (running : b.clock.running = true) : ownClockRun b = (b, clockRes b) :=
  if_pos running

/-! ## What an event of quay time leaves of the clock (R152) -/

theorem clock_of_fixed {b b' : Berth} (same : b'.fixed = b.fixed) : b'.clock = b.clock := congrArg (·.2.2.2.1) same

@[simp] theorem settle_clock (b : Berth) : (settle b).clock = b.clock := clock_of_fixed (settle_fixed b)

@[simp] theorem withdraw_clock (b : Berth) (c : Crane) (cause : Cause) : (withdraw b c cause).clock = b.clock := by
  rw [withdraw_keeps (·.clock) (fun _ _ => rfl) (fun _ => rfl) (fun _ _ => rfl), releaseCraneClaim_clock]
  exact unbound_keeps (·.clock) (fun _ => rfl) (fun _ _ => rfl) b

@[simp] theorem deadlineBeforeExpiry_clock (b : Berth) (n : TicketNo) : (deadlineBeforeExpiry b n).clock = b.clock := by
  unfold deadlineBeforeExpiry
  split
  · rfl
  · split
    · split <;> rfl
    · rfl

@[simp] theorem expireGrant_clock (b : Berth) (c : Crane) : (expireGrant b c).clock = b.clock := by
  unfold expireGrant
  split
  · rw [withdraw_clock]
    exact foldl_keeps Berth.clock _ deadlineBeforeExpiry_clock ..
  · rfl

@[simp] theorem dueTimeEvent_clock (b : Berth) : (dueTimeEvent b).clock = b.clock :=
  (foldl_keeps Berth.clock _ expireGrant_clock ..).trans (clock_of_fixed (starveSweep_fixed b))

/-! ## A step of the time base (R142) -/

/-- R142: a step of the running clock leaves the next quay time, whatever the due times and the shift do. -/
theorem clockStep_running {b : Berth} (running : b.clock.running = true) :
    (clockStep b).clock.time = b.now.next ∧ (clockStep b).clock.running = true := by
  unfold clockStep
  dsimp only
  rw [if_pos running, settle_clock]
  split
  · rw [dueTimeEvent_clock]
    exact ⟨rfl, running⟩
  · rw [evalShift_clock, dueTimeEvent_clock]
    exact ⟨rfl, running⟩

/-- R145: a stopped clock makes no step. -/
theorem clockStep_stopped {b : Berth} (stopped : b.clock.running = false) : clockStep b = b := if_neg (by simp [stopped])

theorem exec_timeBaseStep_running {s : State} (live : s.port.inReset = false) (running : s.berth.clock.running = true) :
    ∃ t, exec .timeBaseStep s = .next t ∧ t.berth.clock.time = s.berth.now.next ∧ t.berth.clock.running = true
      ∧ t.port = s.port := by
  have step : exec .timeBaseStep s = .next { s with berth := clockStep s.berth } := congrArg _ (berthEvent_taken clockStep s live)
  obtain ⟨time, runs⟩ := clockStep_running running
  exact ⟨_, step, time, runs, rfl⟩

theorem exec_timeBaseStep_stopped {s : State} (stopped : s.berth.clock.running = false) : exec .timeBaseStep s = .next s := by
  have unmoved : berthEvent clockStep s = s := by
    unfold berthEvent
    rw [clockStep_stopped stopped, ite_self]
  exact congrArg _ unmoved

/-! ## The obligation -/

/-- Settles O23, from the owners' parts of the commands, the count of sixteenths and the clock that a step leaves. -/
theorem clockCommandsAndSteps : Obligations.ClockCommandsAndSteps := by
  refine ⟨⟨fun s ready => ⟨fun stopped => ?_, fun running => ?_, exec_clockStop ready, fun secs => ?_, fun secs six => ?_,
      fun d valid adjusts moves => ?_, fun d valid adjusts stays => ?_, exec_clockAdjust ready rfl, exec_clockAdjust ready rfl⟩,
    QTime.adjust_bits, by decide⟩, fun _ => QTime.next_within, fun _ => QTime.next_carries,
    fun _ => exec_timeBaseStep_running, fun _ => exec_timeBaseStep_stopped⟩
  · exact exec_clockRun ready (ownClockRun_stopped stopped)
  · exact exec_clockRun ready (ownClockRun_running running)
  · exact exec_clockSet ready le_rfl (by simp [bytes32]) (ownClockSet_secs s.berth secs)
  · exact exec_clockSet ready (by simp [bytes32]) le_rfl (ownClockSet_sixteenths s.berth secs six)
  · exact exec_clockAdjust ready (ownClockAdjust_moves valid adjusts moves)
  · exact exec_clockAdjust ready (ownClockAdjust_stays valid adjusts stays)

end Sys2Proof.Machine

/-! # CONFIG_WRITE and PARTITION (R214 to R216; O29) -/

namespace Sys2Proof.Machine

/-! ## The ranges (R214) -/

theorem inRange_iff (lo hi v : Nat) : inRange lo hi v = true ↔ lo ≤ v ∧ v ≤ hi := by
  simp [inRange]

theorem inRange_zero_iff (hi v : Nat) : inRange 0 hi v = true ↔ v ≤ hi := by
  simp [inRange]

/-- R214: STARVE_TIME is 0 or lies in its range. -/
theorem starveTime_inRange (v : Nat) : paramInRange 6 v = true ↔ v = 0 ∨ (10 ≤ v ∧ v ≤ 900) := by
  simp [paramInRange, inRange_iff]

/-- R214: the flags. -/
theorem flag_inRange {code : Nat} (flag : code ∈ [10, 11, 12, 13]) (v : Nat) : paramInRange code v = true ↔ v ≤ 1 := by
  have same : paramInRange code v = inRange 0 1 v := by
    simp only [List.mem_cons, List.not_mem_nil, or_false] at flag
    obtain rfl | rfl | rfl | rfl := flag <;> rfl
  rw [same, inRange_zero_iff]

/-! ## The guards (R215) -/

/-- R215: no lane outside the set holds an entry. -/
theorem strandedLane_none (b : Berth) (c : Crane) (set : BitVec 6) : b.strandedLane c set = none ↔
    ∀ t ∈ b.stand c, ∀ l, t.lane = some l → inSet set l.val = true := by
  simp only [Berth.strandedLane, List.find?_eq_none, Bool.and_eq_true, Bool.not_eq_true', List.any_eq_true, beq_iff_eq,
    not_and, not_exists]
  constructor
  · intro clear t mem l lane
    by_contra outside
    exact clear l (mem_allLanes l) (by simpa using outside) t mem lane
  · intro within l _ outside t mem lane
    rw [within t mem l lane] at outside
    cases outside

/-- R215: the lowest lane outside the set whose spot holds an entry. -/
theorem strandedLane_some {b : Berth} {c : Crane} {set : BitVec 6} {l : Lane} (outside : inSet set l.val = false)
    (held : ∃ t ∈ b.stand c, t.lane = some l)
    (lowest : ∀ t ∈ b.stand c, ∀ m, m < l → t.lane = some m → inSet set m.val = true) : b.strandedLane c set = some l := by
  refine (find?_sorted allLanes_ascending fun _ _ => lt_asymm).2 ⟨mem_allLanes l, by simpa [outside] using held, fun m _ before => ?_⟩
  by_contra stranded
  simp only [Bool.not_eq_false, Bool.and_eq_true, Bool.not_eq_true', List.any_eq_true, beq_iff_eq] at stranded
  obtain ⟨out, t, mem, lane⟩ := stranded
  rw [lowest t mem m before lane] at out
  cases out

theorem configGuard_laneSet (b : Berth) (c : Crane) (value : BitVec 32) : configGuard b 3 c value = none ↔
    ∀ t ∈ b.stand c, ∀ l, t.lane = some l → inSet (value.extractLsb' 0 6) l.val = true :=
  Option.map_eq_none_iff.trans (strandedLane_none b c _)

theorem configGuard_holdDepth (b : Berth) (c : Crane) (value : BitVec 32) :
    configGuard b 7 c value = none ↔ b.occupancy ≤ value.toNat := by
  simp [configGuard]

theorem configGuard_other (b : Berth) {code : Nat} (c : Crane) (value : BitVec 32) (notLanes : code ≠ 3) (notDepth : code ≠ 7) :
    configGuard b code c value = none := by
  unfold configGuard
  split
  · exact absurd rfl notLanes
  · exact absurd rfl notDepth
  · rfl

/-! ## The write (R151, R214) -/

theorem isShiftParam_iff (code : Nat) : isShiftParam code = true ↔ code = 14 ∨ code = 15 ∨ code = 16 := by
  simp [isShiftParam, or_assoc]

theorem applyConfig_eq (b : Berth) (code : Nat) (c : Crane) (value : BitVec 32) : applyConfig b code c value =
    if code = 14 ∨ code = 15 ∨ code = 16 then evalShift { b with params := b.params.write code c value }
    else { b with params := b.params.write code c value } := by
  simp only [applyConfig, isShiftParam_iff]

/-! ## The sizes of a partition (R216) -/

theorem stepped_iff (step lo hi v : Nat) : stepped step lo hi v = true ↔ lo ≤ v ∧ v ≤ hi ∧ v % step = 0 := by
  simp [stepped, inRange_iff, and_assoc]

theorem stepped_false (step lo hi v : Nat) : stepped step lo hi v = false ↔ ¬ (lo ≤ v ∧ v ≤ hi ∧ v % step = 0) := by
  rw [← stepped_iff, Bool.not_eq_true]

theorem partitionInvalidAt_eq (z : Sizes) : partitionInvalidAt z =
    if stepped 64 64 1536 z.ticketSlots then if stepped 16 16 256 z.taskSlots then if stepped 8 0 64 z.ruleSlots then none
    else some 4 else some 2 else some 0 := rfl

/-- R216: valid sizes are multiples in their ranges. -/
theorem partition_valid {z : Sizes} (valid : partitionInvalidAt z = none) :
    z.ticketSlots ≤ 1536 ∧ z.taskSlots ≤ 256 ∧ z.ruleSlots ≤ 64 := by
  have fields := firstInvalid_none valid
  simp only [List.forall_mem_cons, stepped_iff] at fields
  obtain ⟨⟨-, tickets, -⟩, ⟨-, tasks, -⟩, ⟨-, rules, -⟩, -⟩ := fields
  exact ⟨tickets, tasks, rules⟩

/-! ## CONFIG_WRITE in CONFIG (R214, R215) -/

section

variable {s : State} {body : List Byte} {b : Berth} {r : Res} (ready : PortReady s) (config : s.berth.mode = .config)
include ready config

theorem exec_configWrite (long : body.length = 6) (own : ownConfigWrite s.berth body = (b, r)) :
    exec (.configWrite body) s = .next (applied 0x61 b r s) :=
  congrArg _ (hostWrite_owned (code := 0x61) ready rfl rfl long.ge long.le (by rw [config]; rfl) own)

theorem exec_partition (long : body.length = 5) (own : ownPartition s.berth body = (b, r)) :
    exec (.partition body) s = .next (applied 0x62 b r s) :=
  congrArg _ (hostWrite_owned (code := 0x62) ready rfl rfl long.ge long.le (by rw [config]; rfl) own)

end

/-- A code of the table, with an index where the code takes one. -/
def ConfigNamed (code index : Byte) : Prop := 1 ≤ code.toNat ∧ code.toNat ≤ 16 ∧ (code = 3 → index.toNat ≤ 7)

section

variable {b : Berth} {code index : Byte} {value : BitVec 32}

theorem ownConfigWrite_unknown (unknown : code.toNat < 1 ∨ 16 < code.toNat) :
    ownConfigWrite b ([code, index] ++ bytes32 value) = (b, badField 0) := if_pos unknown

theorem ownConfigWrite_index (laneSet : code = 3) (beyond : 7 < index.toNat) :
    ownConfigWrite b ([code, index] ++ bytes32 value) = (b, badField 1) := by
  subst laneSet
  exact if_pos ⟨rfl, beyond⟩

/-- R214, R215: once the parameter is named, the value's range and then the guard decide. -/
theorem ownConfigWrite_named (named : ConfigNamed code index) : ownConfigWrite b ([code, index] ++ bytes32 value) =
    if paramInRange code.toNat value.toNat = true then
      (configGuard b code.toNat ((craneOf? index).getD 0) value).elim
        (settle (applyConfig b code.toNat ((craneOf? index).getD 0) value), okRes (BitVec.ofNat 16 code.toNat) index)
        fun detail => (b, { code := .occupied, entity := 0, detail })
    else (b, badField 2) := by
  obtain ⟨least, greatest, crane⟩ := named
  have field : word32At ([code, index] ++ bytes32 value) 2 = value := bytes32_join value
  have first : byteAt ([code, index] ++ bytes32 value) 0 = code := rfl
  have second : byteAt ([code, index] ++ bytes32 value) 1 = index := rfl
  have known : ¬ (code.toNat < 1 ∨ 16 < code.toNat) := by omega
  have within : ¬ (code.toNat = 3 ∧ 7 < index.toNat) := fun ⟨laneSet, beyond⟩ =>
    absurd (crane (BitVec.eq_of_toNat_eq laneSet)) (Nat.not_le.2 beyond)
  simp only [ownConfigWrite, field, first, second, known, within, if_false]
  cases paramInRange code.toNat value.toNat
  · rfl
  · cases configGuard b code.toNat ((craneOf? index).getD 0) value <;> rfl

/-- R214: a value outside the parameter's range. -/
theorem ownConfigWrite_range (named : ConfigNamed code index) (beyond : paramInRange code.toNat value.toNat = false) :
    ownConfigWrite b ([code, index] ++ bytes32 value) = (b, badField 2) :=
  (ownConfigWrite_named named).trans (if_neg (by simp [beyond]))

variable (named : ConfigNamed code index) (within : paramInRange code.toNat value.toNat = true)
include named within

/-- R215: a guard that does not hold. -/
theorem ownConfigWrite_occupied {detail : Byte}
    (guard : configGuard b code.toNat ((craneOf? index).getD 0) value = some detail) :
    ownConfigWrite b ([code, index] ++ bytes32 value) = (b, { code := .occupied, entity := 0, detail }) := by
  rw [ownConfigWrite_named named, if_pos within, guard]
  rfl

theorem ownConfigWrite_writes (guard : configGuard b code.toNat ((craneOf? index).getD 0) value = none) :
    ownConfigWrite b ([code, index] ++ bytes32 value) =
      (settle (applyConfig b code.toNat ((craneOf? index).getD 0) value), okRes (BitVec.ofNat 16 code.toNat) index) := by
  rw [ownConfigWrite_named named, if_pos within, guard]
  rfl

end

/-- R215: a lane set that leaves an entry's lane out is refused with the lowest such lane. -/
theorem ownConfigWrite_stranded {b : Berth} {c : Crane} {l : Lane} {value : BitVec 32}
    (within : paramInRange 3 value.toNat = true) (outside : inSet (value.extractLsb' 0 6) l.val = false)
    (held : ∃ t ∈ b.stand c, t.lane = some l)
    (lowest : ∀ t ∈ b.stand c, ∀ m, m < l → t.lane = some m → inSet (value.extractLsb' 0 6) m.val = true) :
    ownConfigWrite b ([3, finByte c] ++ bytes32 value) = (b, { code := .occupied, entity := 0, detail := finByte l }) := by
  have cranes : ∀ d : Crane, (finByte d).toNat ≤ 7 := by decide
  have guard : configGuard b 3 ((craneOf? (finByte c)).getD 0) value = some (finByte l) := by
    rw [craneOf?_finByte]
    exact congrArg (Option.map finByte) (strandedLane_some outside held lowest)
  exact ownConfigWrite_occupied (code := 3) ⟨by decide, by decide, fun _ => cranes c⟩ within guard

/-- R215: a holding depth below the occupancy is refused with the occupancy. -/
theorem ownConfigWrite_overfull {b : Berth} {index : Byte} {value : BitVec 32} (within : value.toNat ≤ 32)
    (overfull : value.toNat < b.occupancy) : ownConfigWrite b ([7, index] ++ bytes32 value) =
      (b, { code := .occupied, entity := 0, detail := natByte b.occupancy }) :=
  ownConfigWrite_occupied (code := 7) ⟨by decide, by decide, fun laneSet => absurd laneSet (by decide)⟩
    ((inRange_zero_iff 32 _).2 within) (if_pos overfull)

/-! ## PARTITION in CONFIG (R216) -/

/-- The sizes that a PARTITION body carries. -/
def sizesOf (x y : BitVec 16) (w : Byte) : Sizes := { ticketSlots := x.toNat, taskSlots := y.toNat, ruleSlots := w.toNat }

/-- Sizes in their ranges fit the fields of a body. -/
theorem sizesOf_valid {z : Sizes} (valid : partitionInvalidAt z = none) :
    sizesOf (BitVec.ofNat 16 z.ticketSlots) (BitVec.ofNat 16 z.taskSlots) (natByte z.ruleSlots) = z := by
  obtain ⟨tickets, tasks, rules⟩ := partition_valid valid
  simp only [sizesOf, natByte, BitVec.toNat_ofNat]
  rw [Nat.mod_eq_of_lt (by omega), Nat.mod_eq_of_lt (by omega), Nat.mod_eq_of_lt (by omega)]

section

variable {b : Berth} {x y : BitVec 16} {w : Byte}

/-- R216: the fields decide first, then the tickets, then the task pool (log 44). -/
theorem ownPartition_fields : ownPartition b (bytes16 x ++ bytes16 y ++ [w]) =
    (partitionInvalidAt (sizesOf x y w)).elim
      (if b.tickets ≠ [] then (b, { code := .occupied, entity := 0, detail := 1 })
      else if b.ltu.tasks ≠ [] ∨ b.ltu.reserved ≠ 0 then (b, { code := .occupied, entity := 0, detail := 2 })
      else (settle (applyPartition b (sizesOf x y w)),
        okRes (BitVec.ofNat 16 (sizesOf x y w).sum) (if (sizesOf x y w).sum ≤ 1600 then 0 else 1)))
      fun offset => (b, badField offset) := by
  have tickets : word16At (bytes16 x ++ bytes16 y ++ [w]) 0 = x := bytes16_join x
  have tasks : word16At (bytes16 x ++ bytes16 y ++ [w]) 2 = y := bytes16_join y
  have rules : byteAt (bytes16 x ++ bytes16 y ++ [w]) 4 = w := rfl
  have exceeds : boolByte (!(sizesOf x y w).valid) = if (sizesOf x y w).sum ≤ 1600 then 0 else 1 := by
    unfold Sizes.valid boolByte
    split <;> simp_all
  unfold ownPartition
  simp only [tickets, tasks, rules]
  rw [← sizesOf]
  cases partitionInvalidAt (sizesOf x y w) with
  | some offset => rfl
  | none => simp [exceeds]

theorem ownPartition_invalid {offset : Byte} (invalid : partitionInvalidAt (sizesOf x y w) = some offset) :
    ownPartition b (bytes16 x ++ bytes16 y ++ [w]) = (b, badField offset) := by
  rw [ownPartition_fields, invalid]
  rfl

variable (valid : partitionInvalidAt (sizesOf x y w) = none)
include valid

/-- R216 (log 44): a ticket is found before the task pool is read. -/
theorem ownPartition_ticket (held : b.tickets ≠ []) :
    ownPartition b (bytes16 x ++ bytes16 y ++ [w]) = (b, { code := .occupied, entity := 0, detail := 1 }) := by
  rw [ownPartition_fields, valid]
  exact if_pos held

theorem ownPartition_task (noTicket : b.tickets = []) (held : b.ltu.tasks ≠ [] ∨ b.ltu.reserved ≠ 0) :
    ownPartition b (bytes16 x ++ bytes16 y ++ [w]) = (b, { code := .occupied, entity := 0, detail := 2 }) := by
  rw [ownPartition_fields, valid]
  exact (if_neg (not_not.2 noTicket)).trans (if_pos held)

theorem ownPartition_empty (noTicket : b.tickets = []) (noTask : b.ltu.tasks = []) (noSlot : b.ltu.reserved = 0) :
    ownPartition b (bytes16 x ++ bytes16 y ++ [w]) = (settle (applyPartition b (sizesOf x y w)),
      okRes (BitVec.ofNat 16 (sizesOf x y w).sum) (if (sizesOf x y w).sum ≤ 1600 then 0 else 1)) := by
  rw [ownPartition_fields, valid]
  exact (if_neg (not_not.2 noTicket)).trans (if_neg (by simp [noTask, noSlot]))

end

/-! ## The obligation -/

/-- R216: the first field out of its range. -/
theorem partitionInvalidAt_fields (z : Sizes) :
    (stepped 64 64 1536 z.ticketSlots = false → partitionInvalidAt z = some 0)
    ∧ (stepped 64 64 1536 z.ticketSlots = true →
      (stepped 16 16 256 z.taskSlots = false → partitionInvalidAt z = some 2)
      ∧ (stepped 16 16 256 z.taskSlots = true →
        (stepped 8 0 64 z.ruleSlots = false → partitionInvalidAt z = some 4)
        ∧ (stepped 8 0 64 z.ruleSlots = true → partitionInvalidAt z = none))) := by
  refine ⟨fun tickets => ?_, fun tickets => ⟨fun tasks => ?_, fun tasks => ⟨fun rules => ?_, fun rules => ?_⟩⟩⟩
  · simp [partitionInvalidAt_eq, tickets]
  · simp [partitionInvalidAt_eq, tickets, tasks]
  · simp [partitionInvalidAt_eq, tickets, tasks, rules]
  · simp [partitionInvalidAt_eq, tickets, tasks, rules]

/-- Settles O29, from the ranges and guards, the owners' parts by the first check that fails, and what each write leaves. -/
theorem configAndPartitionWrites : Obligations.ConfigAndPartitionWrites := by
  refine ⟨fun s code index value ready config least greatest crane within guard => ?_,
    fun s z ready config valid noTicket noTask noSlot => ?_,
    fun v => ⟨inRange_iff 1 8 v, inRange_zero_iff 3 v, inRange_iff 1 63 v, inRange_iff 10 600 v, inRange_iff 1 7 v,
      starveTime_inRange v, inRange_zero_iff 32 v, inRange_iff 1 32 v, inRange_zero_iff 255 v,
      fun _ flag => flag_inRange flag v, inRange_iff 60 720 v, inRange_iff 2 4 v, rfl⟩,
    fun b c value => ⟨configGuard_laneSet b c value, configGuard_holdDepth b c value,
      fun _ => configGuard_other b c value⟩,
    applyConfig_eq,
    fun p c value => ⟨rfl, rfl, rfl, modAt_same .., fun d other => modAt_other _ _ _ _ other, rfl, rfl, rfl, rfl, rfl, rfl, rfl,
      rfl, rfl, rfl, rfl, rfl, rfl⟩,
    fun _ _ => rfl, fun z => ?_, fun s code index value ready config => ?_, fun s x y w ready config => ?_⟩
  · exact exec_configWrite ready config rfl (ownConfigWrite_writes ⟨least, greatest, crane⟩ within guard)
  · have own := ownPartition_empty (b := s.berth) (by rwa [sizesOf_valid valid]) noTicket noTask noSlot
    rw [sizesOf_valid valid] at own
    exact exec_partition ready config rfl own
  · simpa only [stepped_false, stepped_iff] using partitionInvalidAt_fields z
  · refine ⟨fun unknown => ?_, fun laneSet beyond => ?_, fun least greatest crane beyond => ?_,
      fun c l laneSet named within outside held lowest => ?_, fun depth within overfull => ?_⟩
    · exact exec_configWrite ready config rfl (ownConfigWrite_unknown unknown)
    · exact exec_configWrite ready config rfl (ownConfigWrite_index laneSet beyond)
    · exact exec_configWrite ready config rfl (ownConfigWrite_range ⟨least, greatest, crane⟩ beyond)
    · rw [laneSet, named]
      exact exec_configWrite ready config rfl (ownConfigWrite_stranded within outside held lowest)
    · rw [depth]
      exact exec_configWrite ready config rfl (ownConfigWrite_overfull within overfull)
  · refine ⟨fun offset invalid => ?_, fun valid => ⟨fun held => ?_, fun noTicket held => ?_⟩⟩
    · exact exec_partition ready config rfl (ownPartition_invalid invalid)
    · exact exec_partition ready config rfl (ownPartition_ticket valid held)
    · exact exec_partition ready config rfl (ownPartition_task valid noTicket held)

end Sys2Proof.Machine

/-! # Good frames that no owner takes (R160, R163 to R165; O40) -/

namespace Sys2Proof.Machine

section

variable {b : Berth} {st : Station} {cls : BitVec 2} {kind : Byte} {body : List Byte}

/-! ## The two cases of the window (R160) -/

theorem goodFrame_closed (closed : b.qlc.window = none) :
    goodFrame b st cls kind body = takeFrame (heardFrom b st) st cls kind body := by
  have window : (heardFrom b st).qlc.window = none := closed
  show (match (heardFrom b st).qlc.window with
    | some a => _
    | none => takeFrame (heardFrom b st) st cls kind body) = _
  rw [window]

theorem goodFrame_opened {a : Station} (opened : b.qlc.window = some a) : goodFrame b st cls kind body =
    if goodReply a st cls kind body then
      settle (endAttempt (heardFrom b st) (if byteAt body 0 = ReplyCode.accept.code then .accepted else .refused))
    else settle (endAttempt ((heardFrom b st).raise linkError) .noReply) := by
  have window : (heardFrom b st).qlc.window = some a := opened
  show (match (heardFrom b st).qlc.window with
    | some a => if goodReply a st cls kind body then _ else _
    | none => _) = _
  rw [window]
  rfl

/-- R175: the reply awaited ends the attempt by its code. -/
theorem goodFrame_awaited {a : Station} (opened : b.qlc.window = some a) (awaited : goodReply a st cls kind body = true) :
    goodFrame b st cls kind body =
      settle (endAttempt (heardFrom b st) (if byteAt body 0 = ReplyCode.accept.code then .accepted else .refused)) := by
  rw [goodFrame_opened opened, if_pos awaited]

/-- R160, R175: any other good frame in the window ends the attempt with no reply. -/
theorem goodFrame_unawaited {a : Station} (opened : b.qlc.window = some a) (other : goodReply a st cls kind body = false) :
    goodFrame b st cls kind body = settle (endAttempt ((heardFrom b st).raise linkError) .noReply) := by
  rw [goodFrame_opened opened, if_neg (by simp [other])]

/-! ## The checks of a frame with no window open (R163, R164) -/

theorem takeFrame_silent (silent : 14 ≤ st.val ∨ kind = kindReply) : takeFrame b st cls kind body = b.raise linkError :=
  if_pos silent

theorem takeFrame_wrongStation (low : st.val < 14) (report : kind ≠ kindReply)
    (unsuited : (roleOf st).kinds.contains kind = false ∨ cls ≠ classOf kind) :
    takeFrame b st cls kind body = answer (b.raise linkError) st (refuse .wrongStation) := by
  have known : ¬ (14 ≤ st.val ∨ kind = kindReply) := not_or.2 ⟨not_le.2 low, report⟩
  have unmatched : (!(roleOf st).kinds.contains kind || cls != classOf kind) = true := by simpa using unsuited
  rw [takeFrame, if_neg known, if_pos unmatched]

theorem takeFrame_wrongState (low : st.val < 14) (report : kind ≠ kindReply) (sends : (roleOf st).kinds.contains kind = true)
    (cls_ : cls = classOf kind) (unfit : lengthAllowed kind body = false) :
    takeFrame b st cls kind body = answer (b.raise linkError) st (refuse .wrongState) := by
  have known : ¬ (14 ≤ st.val ∨ kind = kindReply) := not_or.2 ⟨not_le.2 low, report⟩
  have matched : ¬ (!(roleOf st).kinds.contains kind || cls != classOf kind) = true := by rw [sends, cls_]; simp
  rw [takeFrame, if_neg known, if_neg matched, if_pos (by simp [unfit])]

/-! ## Answers by mode (R165) -/

theorem answer_spoken (speaks : b.mode ≠ .monitor) (r : Reply) : answer b st r = sendReply b st r := if_neg speaks

theorem answer_monitor (monitor : b.mode = .monitor) (r : Reply) : answer b st r = b := if_pos monitor

theorem handFrame_monitor (monitor : b.mode = .monitor) : handFrame b st kind body = b := by
  unfold handFrame
  rw [monitor]

/-- R165: in MONITOR a frame is dropped, with LINK_ERROR where it fails a check. -/
theorem takeFrame_monitor (monitor : b.mode = .monitor) :
    takeFrame b st cls kind body = b ∨ takeFrame b st cls kind body = b.raise linkError := by
  unfold takeFrame
  split
  · exact Or.inr rfl
  · split
    · exact Or.inr (answer_monitor (b := b.raise linkError) monitor _)
    · split
      · exact Or.inr (answer_monitor (b := b.raise linkError) monitor _)
      · exact Or.inl (handFrame_monitor monitor)

end

/-- Settles O40, by the order of the link's checks. -/
theorem linkRefusals : Obligations.LinkRefusals := by
  refine ⟨fun b st cls kind body closed mode => ⟨fun high => ?_, fun low report unsuited => ?_,
    fun low report sends cls_ unfit => ?_⟩, fun b st cls kind body monitor closed => ?_⟩
  · rw [goodFrame_closed closed, takeFrame_silent (Or.inl high)]
  · rw [goodFrame_closed closed, takeFrame_wrongStation low report unsuited]
    exact answer_spoken (b := (heardFrom b st).raise linkError) mode _
  · rw [goodFrame_closed closed, takeFrame_wrongState low report sends cls_ unfit]
    exact answer_spoken (b := (heardFrom b st).raise linkError) mode _
  · rw [goodFrame_closed closed]
    exact takeFrame_monitor (b := heardFrom b st) monitor

end Sys2Proof.Machine

/-! # Bytes on the line (R157, R158; O41) -/

namespace Sys2Proof.Machine

/-- R157: what the check sequence of a frame is taken over. -/
def framePayload (cls : BitVec 2) (st : Station) (kind : Byte) (body : List Byte) : List Byte :=
  [(cls ++ BitVec.ofNat 4 st.val) ++ (0 : BitVec 2), kind, natByte body.length] ++ body

section

variable (cls : BitVec 2) (st : Station) (kind : Byte) (body : List Byte)

theorem frameBytes_payload : frameBytes cls st kind body =
    framePayload cls st kind body ++ bytes16 (checkSequence (framePayload cls st kind body)) := rfl

theorem framePayload_length : (framePayload cls st kind body).length = body.length + 3 := rfl

theorem frameBytes_length : (frameBytes cls st kind body).length = body.length + 5 := by
  rw [frameBytes_payload, List.length_append, framePayload_length, bytes16_length]

/-- The header byte reads back as the class, the station and two zero bits. -/
theorem frameHeader_fields : let h : Byte := (cls ++ BitVec.ofNat 4 st.val) ++ (0 : BitVec 2)
    h.extractLsb' 6 2 = cls ∧ (h.extractLsb' 2 4).toNat = st.val ∧ h.extractLsb' 0 2 = 0 := by
  revert cls st
  decide

theorem frameBytes_body : slice (frameBytes cls st kind body) 3 body.length = body := by
  show (body ++ _).take body.length = body
  exact List.take_left

theorem frameBytes_take : (frameBytes cls st kind body).take (body.length + 3) = framePayload cls st kind body := by
  rw [frameBytes_payload, ← framePayload_length cls st kind body, List.take_left]

theorem frameBytes_check : word16At (frameBytes cls st kind body) (body.length + 3) =
    checkSequence (framePayload cls st kind body) := by
  rw [frameBytes_payload, ← framePayload_length cls st kind body]
  unfold word16At
  rw [byteAt_append_right (Nat.le_refl _), byteAt_append_right (Nat.le_add_right _ 1), Nat.sub_self, Nat.add_sub_cancel_left]
  exact bytes16_join _

/-- R157, R158: a frame of the part's is read back. -/
theorem parseFrame_frameBytes (short : body.length ≤ maxFrameBody) :
    parseFrame (frameBytes cls st kind body) = some (st, cls, kind, body) := by
  obtain ⟨class_, station, zero⟩ := frameHeader_fields cls st
  have count : (byteAt (frameBytes cls st kind body) 2).toNat = body.length :=
    Nat.mod_eq_of_lt (lt_of_le_of_lt short (by decide))
  have header : byteAt (frameBytes cls st kind body) 0 = (cls ++ BitVec.ofNat 4 st.val) ++ (0 : BitVec 2) := rfl
  have kind_ : byteAt (frameBytes cls st kind body) 1 = kind := rfl
  unfold parseFrame
  simp only [count, header, kind_, class_, station, zero, frameBytes_length, frameBytes_body, frameBytes_take, frameBytes_check]
  exact if_pos ⟨Nat.le_add_left _ _, short, trivial, trivial, trivial⟩

end

/-! ## Bytes that make no frame -/

theorem badFrame_closed {b : Berth} (closed : b.qlc.window = none) : badFrame b = (b.setSent none).raise linkError := by
  have window : ¬ ((b.setSent none).raise linkError).qlc.window.isSome = true :=
    Option.not_isSome_iff_eq_none.2 closed
  exact if_neg window

theorem rawFrame_discarded {raw : List Byte} (noFrame : parseFrame raw = none) (b : Berth) : rawFrame raw b = badFrame b := by
  unfold rawFrame
  rw [noFrame]

/-- R158: the check value. -/
theorem checkSequence_checkValue : checkSequence [0x31, 0x32, 0x33, 0x34, 0x35, 0x36, 0x37, 0x38, 0x39] = 0x29B1 := by
  decide +kernel

/-- Settles O41, by what each field of a sent frame reads back as. -/
theorem discardedFrames : Obligations.DiscardedFrames := by
  refine ⟨⟨fun s raw ready noFrame => ?_, parseFrame_frameBytes⟩, checkSequence_checkValue⟩
  obtain ⟨live, closed⟩ := ready
  refine congrArg Host.Outcome.next ?_
  rw [berthEvent_taken _ _ live, rawFrame_discarded noFrame, badFrame_closed closed]

end Sys2Proof.Machine

/-! # The order that is sent next (R155, R174; O43) -/

namespace Sys2Proof.Machine

/-! ## The first of the least -/

/-- Of a list in ascending order, the element of least key, ties to the lowest, is what `firstLeast` gives. -/
theorem firstLeast_earliest {α : Type} (key : α → Nat) {below : α → α → Prop} {l : List α} (ascending : l.Pairwise below)
    {k : α} (mem : k ∈ l) (least : ∀ x ∈ l, key k < key x ∨ (key k = key x ∧ ¬ below x k)) :
    firstLeast (fun x y => decide (key x < key y)) l = some k := by
  obtain ⟨x, chosen⟩ := Option.ne_none_iff_exists'.1 fun none_ => List.ne_nil_of_mem mem ((firstLeast_none _).1 none_)
  rw [chosen]
  have beaten := least x (firstLeast_mem _ chosen)
  obtain ⟨xs, ys, list, before, after⟩ := firstLeast_key key chosen
  rw [list] at mem ascending
  rcases List.mem_append.1 mem with first | rest
  · have later := before k first
    omega
  · rcases List.mem_cons.1 rest with rfl | later
    · rfl
    · have ordered : below x k := (List.pairwise_cons.1 (List.pairwise_append.1 ascending).2.1).1 k later
      have notLater := after k later
      rcases beaten with less | ⟨-, first⟩
      · omega
      · exact absurd ordered first

/-! ## The orders of a row of slots -/

theorem Slot.sendable_iff {s : Slot} {o : Order} : s.sendable = some o ↔ s.current = some o ∧ o.inFlight = false := by
  simp [Slot.sendable, Order.waits, Option.filter_eq_some_iff]

/-- The orders of a row of slots that may be begun, each with the station of its slot, in station order. -/
def slotOrders {n : Nat} (slots : Vector Slot n) (station : Fin n → Station) : List (Station × Order) :=
  (List.finRange n).filterMap fun i => slots[i].sendable.map fun o => (station i, o)

section

variable {n : Nat} {slots : Vector Slot n} {station : Fin n → Station}

theorem mem_slotOrders {x : Station × Order} :
    x ∈ slotOrders slots station ↔ ∃ i o, slots[i].sendable = some o ∧ (station i, o) = x := by
  simp [slotOrders, List.mem_filterMap]

theorem slotOrders_ascending (ordered : StrictMono station) :
    (slotOrders slots station).Pairwise fun x y => x.1 < y.1 := by
  refine List.pairwise_filterMap.2 ((List.pairwise_lt_finRange n).imp fun {i j} less x first y second => ?_)
  obtain ⟨o, -, rfl⟩ := Option.map_eq_some_iff.1 first
  obtain ⟨p, -, rfl⟩ := Option.map_eq_some_iff.1 second
  exact ordered less

/-- R174: the order of earliest queue time, ties to the lowest station. -/
theorem slotOrders_earliest (ordered : StrictMono station) {i : Fin n} {o : Order} (order : slots[i].sendable = some o)
    (first : ∀ j p, slots[j].sendable = some p → o.queueTime.bits.toNat < p.queueTime.bits.toNat
      ∨ (o.queueTime.bits.toNat = p.queueTime.bits.toNat ∧ i ≤ j)) :
    firstLeast earlier (slotOrders slots station) = some (station i, o) := by
  refine firstLeast_earliest (fun x => x.2.queueTime.bits.toNat) (slotOrders_ascending ordered)
    (mem_slotOrders.2 ⟨i, o, order, rfl⟩) fun x mem => ?_
  obtain ⟨j, p, other, rfl⟩ := mem_slotOrders.1 mem
  refine (first j p other).imp_right fun ⟨same, lower⟩ => ⟨same, ?_⟩
  exact not_lt.2 (ordered.monotone lower)

theorem slotOrders_none (idle : ∀ (i : Fin n) o, slots[i].sendable ≠ some o) : firstLeast earlier (slotOrders slots station) = none :=
  (firstLeast_none _).2 (List.eq_nil_iff_forall_not_mem.2 fun x mem => by
    obtain ⟨i, o, order, -⟩ := mem_slotOrders.1 mem
    exact idle i o order)

end

/-! ## The order chosen (R174) -/

theorem craneStation_strictMono : StrictMono craneStation := fun _ _ less => less

theorem gangStation_strictMono : StrictMono gangStation := fun _ _ less => Nat.add_lt_add_left less 10

/-- The head of the promote queue, while it may be begun. -/
def Berth.headToSend (b : Berth) : Option (Station × Order) :=
  (b.qlc.promotes.head?.filter Order.waits).map fun o => (gateIn, o)

/-- R174: crane slots before gang slots before the promote queue. -/
theorem nextOrder_eq (b : Berth) : b.nextOrder = (firstLeast earlier (slotOrders b.qlc.craneSlots craneStation)).or
    ((firstLeast earlier (slotOrders b.qlc.gangSlots gangStation)).or b.headToSend) := by
  show (match firstLeast earlier (slotOrders b.qlc.craneSlots craneStation) with
    | some x => some x
    | none => match firstLeast earlier (slotOrders b.qlc.gangSlots gangStation) with
      | some x => some x
      | none => b.headToSend) = _
  cases firstLeast earlier (slotOrders b.qlc.craneSlots craneStation) with
  | some x => rfl
  | none => cases firstLeast earlier (slotOrders b.qlc.gangSlots gangStation) <;> rfl

theorem headToSend_some {b : Berth} {o : Order} (head : b.qlc.promotes.head? = some o) (waits : o.inFlight = false) :
    b.headToSend = some (gateIn, o) := by
  simp [Berth.headToSend, head, Order.waits, waits, Option.filter]

theorem headToSend_none {b : Berth} (flies : ∀ o, b.qlc.promotes.head? = some o → o.inFlight = true) : b.headToSend = none := by
  have none_ : b.qlc.promotes.head?.filter Order.waits = none :=
    Option.filter_eq_none_iff.2 fun o head => by simp [Order.waits, flies o head]
  rw [Berth.headToSend, none_]
  rfl

/-- A queue time as a plain number of sixteenths. -/
theorem QTime.bits_sixteenths (q : QTime) : 16 * q.secs.toNat + q.six.toNat = q.bits.toNat := by
  rw [QTime.bits_toNat]
  omega

/-- R174: the order that is sent next. -/
theorem nextOrder_chosen (b : Berth) :
    (∀ c o, b.qlc.craneSlots[c].sendable = some o → (∀ d p, b.qlc.craneSlots[d].sendable = some p →
        o.queueTime.bits.toNat < p.queueTime.bits.toNat ∨ (o.queueTime.bits.toNat = p.queueTime.bits.toNat ∧ c ≤ d)) →
      b.nextOrder = some (craneStation c, o))
    ∧ ((∀ (c : Crane) o, b.qlc.craneSlots[c].sendable ≠ some o) →
      (∀ g o, b.qlc.gangSlots[g].sendable = some o → (∀ h p, b.qlc.gangSlots[h].sendable = some p →
          o.queueTime.bits.toNat < p.queueTime.bits.toNat ∨ (o.queueTime.bits.toNat = p.queueTime.bits.toNat ∧ g ≤ h)) →
        b.nextOrder = some (gangStation g, o))
      ∧ ((∀ (g : Gang) o, b.qlc.gangSlots[g].sendable ≠ some o) → b.nextOrder = b.headToSend)) := by
  refine ⟨fun c o order first => ?_, fun noCrane => ⟨fun g o order first => ?_, fun noGang => ?_⟩⟩
  · rw [nextOrder_eq, slotOrders_earliest craneStation_strictMono order first, Option.some_or]
  · rw [nextOrder_eq, slotOrders_none noCrane, Option.none_or, slotOrders_earliest gangStation_strictMono order first,
      Option.some_or]
  · rw [nextOrder_eq, slotOrders_none noCrane, Option.none_or, slotOrders_none noGang, Option.none_or]

end Sys2Proof.Machine

/-! # Order traffic (R155, R160, R174, R175, R177; O43) -/

namespace Sys2Proof.Machine

/-! ## ORDER_SEND (R174) -/

section

variable {b : Berth} (mode : b.mode = .run) (closed : b.qlc.window = none)
include mode closed

theorem sendOrder_ready (outcome : SendOutcome) : sendOrder outcome b = match (b.setSent none).nextOrder with
    | none => b.setSent none
    | some (st, o) => match outcome with
      | .lost => b.setSent none
      | .sent => ((launch (b.setSent none) st).setWindow (some st)).setSent (some (frameBytes 0 st o.body.kind o.body.bytes))
      | .bitError => settle (endAttempt (launch (b.setSent none) st) .noReply) :=
  if_pos (show (b.setSent none).mode = .run ∧ (b.setSent none).qlc.window = none from ⟨mode, closed⟩)

theorem sendOrder_lost : sendOrder .lost b = b.setSent none := by
  rw [sendOrder_ready mode closed]
  split <;> rfl

theorem sendOrder_sent {st : Station} {o : Order} (next : (b.setSent none).nextOrder = some (st, o)) : sendOrder .sent b =
    ((launch (b.setSent none) st).setWindow (some st)).setSent (some (frameBytes 0 st o.body.kind o.body.bytes)) := by
  rw [sendOrder_ready mode closed, next]

theorem sendOrder_bitError {st : Station} {o : Order} (next : (b.setSent none).nextOrder = some (st, o)) :
    sendOrder .bitError b = settle (endAttempt (launch (b.setSent none) st) .noReply) := by
  rw [sendOrder_ready mode closed, next]

end

theorem exec_orderSend {s : State} (live : s.port.inReset = false) (outcome : SendOutcome) :
    exec (.orderSend outcome) s = .next { s with berth := sendOrder outcome s.berth } :=
  congrArg Host.Outcome.next (berthEvent_taken _ _ live)

/-! ## Frames and the close of the window (R160, R175) -/

/-- A frame event whose length field can state its body is its good frame. -/
theorem berthEvent_frame {s : State} (live : s.port.inReset = false) (kind : Byte) {f : Frame}
    (short : f.body.length ≤ maxFrameBody) :
    berthEvent (frameEvent kind f) s = { s with berth := goodFrame s.berth f.station f.cls kind f.body } := by
  rw [berthEvent_taken _ _ live, frameEvent, if_pos short]

theorem exec_reply {s : State} (live : s.port.inReset = false) {f : Frame} (short : f.body.length ≤ maxFrameBody) :
    exec (.reply f) s = .next { s with berth := goodFrame s.berth f.station f.cls kindReply f.body } :=
  congrArg Host.Outcome.next (berthEvent_frame live kindReply short)

theorem goodReply_addressee (st : Station) (x y : Byte) {data : List Byte} (short : data.length ≤ 10) :
    goodReply st st 0 kindReply ([x, y] ++ data) = true := by
  have within : data.length + 1 < 12 := by omega
  simpa [goodReply] using within

theorem goodReply_stranger {a st : Station} (other : st ≠ a) (cls : BitVec 2) (kind : Byte) (body : List Byte) :
    goodReply a st cls kind body = false := by
  simp [goodReply, other]

theorem goodReply_report {kind : Byte} (report : kind ≠ kindReply) (a st : Station) (cls : BitVec 2) (body : List Byte) :
    goodReply a st cls kind body = false := by
  simp [goodReply, report]

section

variable {s : State} {st : Station} (live : s.port.inReset = false)
include live

/-- R175: the addressee's REPLY ends the attempt, delivered with ACCEPT and refused with any other code. -/
theorem exec_reply_awaited (opened : s.berth.qlc.window = some st) (x y : Byte) {data : List Byte} (short : data.length ≤ 10) :
    exec (.reply (frameOf st 0 ([x, y] ++ data))) s = .next { s with
      berth := settle (endAttempt (heardFrom s.berth st) (if x = 0 then .accepted else .refused)) } := by
  have fits : ([x, y] ++ data).length ≤ maxFrameBody := (Nat.add_le_add_right short 2).trans (by decide)
  rw [exec_reply live (f := frameOf st 0 ([x, y] ++ data)) fits]
  exact congrArg (fun b => Host.Outcome.next { s with berth := b }) (goodFrame_awaited opened (goodReply_addressee st x y short))

theorem exec_reply_stranger (opened : s.berth.qlc.window = some st) {x : Station} (other : x ≠ st) {body : List Byte}
    (short : body.length ≤ maxFrameBody) : exec (.reply (frameOf x 0 body)) s = .next { s with
      berth := settle (endAttempt ((heardFrom s.berth x).raise linkError) .noReply) } := by
  rw [exec_reply live (f := frameOf x 0 body) short]
  exact congrArg (fun b => Host.Outcome.next { s with berth := b }) (goodFrame_unawaited opened (goodReply_stranger other ..))

theorem exec_hello_inWindow (opened : s.berth.qlc.window = some st) (x : Station) : exec (.hello (frameOf x 1 [])) s =
    .next { s with berth := settle (endAttempt ((heardFrom s.berth x).raise linkError) .noReply) } := by
  refine congrArg Host.Outcome.next ((berthEvent_frame live kindHello (f := frameOf x 1 []) (Nat.zero_le _)).trans ?_)
  exact congrArg (fun b => { s with berth := b }) (goodFrame_unawaited opened (goodReply_report (kind := kindHello) (by decide) ..))

/-- R160: a REPLY that no window awaits. -/
theorem exec_reply_closed (closed : s.berth.qlc.window = none) {f : Frame} (short : f.body.length ≤ maxFrameBody) :
    exec (.reply f) s = .next { s with berth := (heardFrom s.berth f.station).raise linkError } := by
  rw [exec_reply live short, goodFrame_closed closed, takeFrame_silent (Or.inr rfl)]

theorem exec_replyWindowClose : exec .replyWindowClose s = .next { s with berth := windowClose s.berth } :=
  congrArg Host.Outcome.next (berthEvent_taken _ _ live)

end

theorem windowClose_opened {b : Berth} {st : Station} (opened : b.qlc.window = some st) :
    windowClose b = settle (endAttempt (b.setSent none) .noReply) :=
  if_pos (show (b.setSent none).qlc.window.isSome = true from congrArg Option.isSome opened)

theorem windowClose_closed {b : Berth} (closed : b.qlc.window = none) : windowClose b = b.setSent none :=
  if_neg (show ¬ (b.setSent none).qlc.window.isSome = true from Option.not_isSome_iff_eq_none.2 closed)

/-! ## The third undelivered order in a row (R177) -/

theorem withdrawUndelivered_third {b : Berth} {c : Crane} (t : TicketNo) (p : Option TicketNo) (k : Nat)
    (fails : (b.station (craneStation c)).fails = 2) : reportOrder b (craneStation c) (some (.withdraw t p k, false)) =
      declareOffline (b.modStation (craneStation c) fun r => { r with fails := 3 }) (craneStation c) := by
  obtain ⟨-, third⟩ := reportOrder_counts b (craneStation c) (.withdraw t p k)
  rw [third (congrArg Fin.val fails), roleOf_craneStation]
  rfl

/-- Settles O43. -/
theorem orderTraffic : Obligations.OrderTraffic := by
  refine ⟨⟨fun s st o ready mode next => ?_, fun s ready mode => ?_, fun s st live opened =>
      ⟨fun y data short => ?_, fun x y data short refused => ?_, fun x body other short => ?_, fun x => ?_, ?_⟩,
      fun s closed live => ⟨?_, fun f short => exec_reply_closed live closed short⟩⟩,
    fun b => ?_, fun b c t p k fails idle => ?_⟩
  · obtain ⟨live, closed⟩ := ready
    rw [exec_orderSend live, exec_orderSend live, sendOrder_sent mode closed next, sendOrder_bitError mode closed next]
    exact ⟨rfl, rfl⟩
  · obtain ⟨live, closed⟩ := ready
    rw [exec_orderSend live, sendOrder_lost mode closed]
  · exact exec_reply_awaited live opened 0 y short
  · rw [exec_reply_awaited live opened x y short, if_neg refused]
  · exact exec_reply_stranger live opened other short
  · exact exec_hello_inWindow live opened x
  · rw [exec_replyWindowClose live, windowClose_opened opened]
  · rw [exec_replyWindowClose live, windowClose_closed closed]
  · obtain ⟨cranes, rest⟩ := nextOrder_chosen b
    simp only [← Slot.sendable_iff, QTime.bits_sixteenths]
    refine ⟨cranes, fun noCrane => ?_⟩
    obtain ⟨gangs, head⟩ := rest noCrane
    refine ⟨gangs, fun noGang => ⟨fun o first waits => ?_, fun flies => ?_⟩⟩
    · rw [head noGang, headToSend_some first waits]
    · rw [head noGang, headToSend_none flies]
  · have declared := craneDeclared (b.modStation (craneStation c) fun r => { r with fails := 3 }) c
    rw [← withdrawUndelivered_third t p k fails] at declared
    obtain ⟨station, slot, -, atIdle, -⟩ := declared
    obtain ⟨-, tickets, -, raised⟩ := atIdle idle
    exact ⟨by rw [station, Berth.station_modStation], slot, raised, tickets⟩

end Sys2Proof.Machine

/-! # What the actions of the wire do (R181, R189, R191)

An equation for each action of the wire and each transaction state that it meets. -/

namespace Sys2Proof.Machine

section

variable {s : State}

/-- R181: a fall from a ready port opens a transaction, with nothing staged and its timer running. -/
theorem chipFall_ready (ready : PortReady s) : chipFall s = { s with port := { s.port with
    selected := true, state := .command, command := 0, params := [], staged := [], snapshot := none, position := 0,
    timer := true, modeAtFall := s.berth.mode, miso := none, misoHeld := none } } := by
  obtain ⟨live, -, high⟩ := ready
  simp [chipFall, live, high]

/-! ## The rise of chip select -/

section

variable (live : s.port.inReset = false) (low : s.port.selected = true)
include live low

/-- R181, R187: a rise in STAGING applies what is staged and writes the result record. -/
theorem chipRise_staging (staging : s.port.state = .staging) {b : Berth} {r : Res}
    (applies : applyWrite s.port.command s.port.staged s.berth = (b, r)) : chipRise s =
      { s with berth := b, port := { s.port.ended with result := resultOf s.port.command r b } } := by
  simp [chipRise, live, low, staging, applies]

/-- R189: a rise in DISCARD ends in BAD_COMMAND. -/
theorem chipRise_discard (discard : s.port.state = .discard) : chipRise s = { s with port := { s.port.ended with
    result := resultOf s.port.command { code := .badCommand, entity := 0, detail := 0xFF } s.berth } } := by
  simp [chipRise, live, low, discard]

/-- R181, R185, R198: a rise in any other state ends the transaction and applies nothing. -/
theorem chipRise_unapplied (staging : s.port.state ≠ .staging) (discard : s.port.state ≠ .discard) :
    chipRise s = { s with port := s.port.ended } := by
  have taken : ¬ (s.port.inReset || !s.port.selected) = true := by simp [live, low]
  rw [chipRise, if_neg taken]
  split
  case h_1 state => exact absurd state staging
  case h_2 state => exact absurd state discard
  all_goals rfl

end

/-! ## Bytes -/

/-- R184: the byte at the position is shifted out, and the position advances or wraps. -/
theorem takeWindow_held {p : Port} {w : List Byte} (held : p.snapshot = some w) : takeWindow p = { p with
    miso := some (byteAt w p.position), position := if p.position + 1 < w.length then p.position + 1 else 0 } := by
  simp only [takeWindow, held, Option.getD_some]

/-- R186: a byte is staged below the command's maximum. -/
theorem takeBody_upTo {p : Port} {x : Byte} {lo hi : Nat} (lengths : writeLengths? p.command = some (lo, hi)) :
    takeBody p x = { p with miso := some 0, staged := if p.staged.length < hi then p.staged ++ [x] else p.staged } := by
  simp only [takeBody, lengths, Option.map_some, Option.getD_some]

section

variable (live : s.port.inReset = false) (x : Byte)
include live

theorem takeByte_window (window : s.port.state = .window) : takeByte s x = { s with port := takeWindow s.port } := by
  simp [takeByte, live, window]

theorem takeByte_staging (staging : s.port.state = .staging) : takeByte s x = { s with port := takeBody s.port x } := by
  simp [takeByte, live, staging]

theorem takeByte_discard (discard : s.port.state = .discard) :
    takeByte s x = { s with port := { s.port with miso := some 0 } } := by
  simp [takeByte, live, discard]

end

/-! ## The transaction timer -/

theorem portTimeoutEvent_closed (p : Bool) (closed : s.port.state = .idle ∨ s.port.state = .abandoned) :
    portTimeoutEvent p s = s := by
  rcases closed with idle | abandoned
  · simp [portTimeoutEvent, idle]
  · simp [portTimeoutEvent, abandoned]

/-- R191: an open transaction is abandoned, and the result record takes TIMEOUT. -/
theorem portTimeoutEvent_open (p : Bool) (opened : s.port.state ≠ .idle) (live : s.port.state ≠ .abandoned) :
    portTimeoutEvent p s = { s with
      berth := s.berth.raise portTimeout
      port := { s.port with
        state := .abandoned, timer := false, staged := [], snapshot := none
        misoHeld := if p then s.port.misoNow else none
        result := resultOf s.port.command { code := .timeout, entity := 0, detail := 0 } s.berth } } := by
  unfold portTimeoutEvent
  split
  case h_1 idle => exact absurd idle opened
  case h_2 abandoned => exact absurd abandoned live
  all_goals rfl

end

end Sys2Proof.Machine

/-! # The planning port stays within its bounds (R181, R184, R186, R191; O60) -/

namespace Sys2Proof.Machine

/-! ## What the codes fix -/

/-- R183: no read's window is empty. -/
theorem snapshotOf_nonempty (code : Byte) (params : List Byte) (r : Result) (b : Berth) :
    0 < (snapshotOf code params r b).length := by
  unfold snapshotOf
  split
  case h_1 | h_3 | h_13 => exact Nat.succ_pos _
  case h_2 => rw [ticketWindow_length]; decide
  case h_4 => rw [craneWindow_length]; decide
  case h_5 => rw [standWindow_length]; decide
  case h_6 => rw [holdingWindow_length]; decide
  case h_7 => rw [gangWindow_length]; decide
  case h_8 => rw [taskWindow_length]; decide
  case h_10 => rw [stationWindow_length]; decide
  case h_11 => rw [ruleWindow_length]; decide
  case h_9 | h_12 | h_14 => exact (window_length ..).symm ▸ by decide

/-- R186: the longest body of any write has 33 bytes. -/
theorem writeLengths?_max (code : Byte) : ((writeLengths? code).map (·.2)).getD 0 ≤ 33 := by
  unfold writeLengths?
  split <;> decide

/-! ## Open and closed transactions -/

/-- A transaction is open and its timer runs, with chip select low, no reset and a staging buffer within its bound. -/
def Port.Runs (p : Port) : Prop :=
  p.staged.length ≤ 33 ∧ p.timer = true ∧ p.selected = true ∧ p.inReset = false

theorem portKept_of_port {s t : State} (same : t.port = s.port) (h : PortKept s) : PortKept t := by
  unfold PortKept
  rwa [same]

theorem portKept_runs {s : State} (opened : s.port.state ≠ .idle) (live : s.port.state ≠ .abandoned) :
    PortKept s ↔ s.port.Runs
      ∧ (s.port.state = .window → ∃ w, s.port.snapshot = some w ∧ s.port.position < w.length) := by
  simp [PortKept, Port.Runs, opened, live, and_assoc]

theorem portKept_idle {s : State} (idle : s.port.state = .idle) :
    PortKept s ↔ s.port.staged.length ≤ 33 ∧ s.port.timer = false := by
  simp [PortKept, idle]

theorem portKept_abandoned {s : State} (abandoned : s.port.state = .abandoned) :
    PortKept s ↔ s.port.staged.length ≤ 33 ∧ s.port.timer = false ∧ s.port.selected = true ∧ s.port.inReset = false := by
  simp [PortKept, abandoned]

/-- Outside WINDOW there is no position to bound. -/
theorem PortKept.of_runs {s : State} (runs : s.port.Runs)
    (between : s.port.state ∈ [PortState.command, .parameter, .staging, .discard]) : PortKept s :=
  (portKept_runs (ne_of_mem_of_not_mem between (by decide)) (ne_of_mem_of_not_mem between (by decide))).2
    ⟨runs, fun window => absurd window (ne_of_mem_of_not_mem between (by decide))⟩

theorem PortKept.of_window {s : State} {w : List Byte} (runs : s.port.Runs) (window : s.port.state = .window)
    (held : s.port.snapshot = some w) (inside : s.port.position < w.length) : PortKept s :=
  (portKept_runs (by simp [window]) (by simp [window])).2 ⟨runs, fun _ => ⟨w, held, inside⟩⟩

theorem PortKept.runs {s : State} (h : PortKept s) (opened : s.port.state ≠ .idle) (live : s.port.state ≠ .abandoned) :
    s.port.Runs := ((portKept_runs opened live).1 h).1

/-! ## Bytes -/

section

variable {s : State} (x : Byte) (h : PortKept s)
include h

theorem takeCommand_portKept (command : s.port.state = .command) : PortKept { s with port := takeCommand s x } := by
  have runs : s.port.Runs := h.runs (by simp [command]) (by simp [command])
  unfold takeCommand
  split
  · exact .of_window runs rfl rfl (snapshotOf_nonempty ..)
  · exact .of_runs runs (by simp)
  · split <;> exact .of_runs runs (by simp)

theorem takeParam_portKept (parameter : s.port.state = .parameter) : PortKept { s with port := takeParam s x } := by
  have runs : s.port.Runs := h.runs (by simp [parameter]) (by simp [parameter])
  simp only [takeParam]
  split
  · exact .of_window runs rfl rfl (snapshotOf_nonempty ..)
  · exact .of_runs runs (by simp [parameter])

/-- R184: the position advances within the snapshot, or wraps to its first byte. -/
theorem takeWindow_portKept (window : s.port.state = .window) : PortKept { s with port := takeWindow s.port } := by
  obtain ⟨runs, inWindow⟩ := (portKept_runs (by simp [window]) (by simp [window])).1 h
  obtain ⟨w, held, inside⟩ := inWindow window
  rw [takeWindow_held held]
  refine .of_window (w := w) runs window held ?_
  dsimp only
  split <;> omega

/-- R186: a byte is staged only below the command's maximum, which is at most 33. -/
theorem takeBody_portKept (staging : s.port.state = .staging) : PortKept { s with port := takeBody s.port x } := by
  obtain ⟨bound, rest⟩ : s.port.Runs := h.runs (by simp [staging]) (by simp [staging])
  have most := writeLengths?_max s.port.command
  refine .of_runs ⟨?_, rest⟩ (by simp [takeBody, staging])
  simp only [takeBody]
  split
  · rw [List.length_append, List.length_singleton]; omega
  · exact bound

theorem takeByte_portKept : PortKept (takeByte s x) := by
  unfold takeByte
  split
  · exact h
  · split
    case h_1 => exact h
    case h_2 command => exact takeCommand_portKept x h command
    case h_3 parameter => exact takeParam_portKept x h parameter
    case h_4 window => exact takeWindow_portKept h window
    case h_5 staging => exact takeBody_portKept x h staging
    case h_6 | h_7 => exact h

end

theorem takeBytes_portKept (l : List Byte) {s : State} (h : PortKept s) : PortKept (takeBytes s l) := by
  induction l generalizing s with
  | nil => exact h
  | cons x xs ih => exact ih (takeByte_portKept x h)

/-! ## Chip select, the timer and resets -/

section

variable {s : State} (h : PortKept s)
include h

/-- R181: a fall opens a transaction with its timer running; in reset the port stays IDLE. -/
theorem chipFall_portKept : PortKept (chipFall s) := by
  unfold chipFall
  split
  · exact h
  · split
    case isTrue inReset =>
      obtain ⟨bound, timer, -, idle, window⟩ := h
      exact ⟨bound, timer, fun _ => rfl, idle, window⟩
    case isFalse live => exact .of_runs ⟨by simp, rfl, rfl, by simpa using live⟩ (by simp)

/-- R181: a rise leaves the port IDLE with its timer stopped and its buffer empty. -/
theorem chipRise_portKept : PortKept (chipRise s) := by
  unfold chipRise
  split
  case isTrue noTransaction =>
    obtain ⟨bound, timer, selected, reset, window⟩ := h
    have idle : s.port.state = .idle := by
      rcases (Bool.or_eq_true ..).mp noTransaction with inReset | high
      · exact reset inReset
      · by_contra opened
        rw [selected opened] at high
        exact absurd high (by decide)
    exact ⟨bound, timer, fun opened => absurd idle opened, reset, window⟩
  case isFalse => split <;> exact (portKept_idle rfl).2 ⟨Nat.zero_le _, rfl⟩

/-- R191: the timer stops in an open transaction, which is then ABANDONED with its buffer empty. -/
theorem portTimeoutEvent_portKept (p : Bool) : PortKept (portTimeoutEvent p s) := by
  by_cases closed : s.port.state = .idle ∨ s.port.state = .abandoned
  · rwa [portTimeoutEvent_closed p closed]
  · obtain ⟨opened, live⟩ := not_or.1 closed
    obtain ⟨-, -, low, noReset⟩ := h.runs opened live
    rw [portTimeoutEvent_open p opened live]
    exact (portKept_abandoned rfl).2 ⟨Nat.zero_le _, rfl, low, noReset⟩

omit h in
/-- R220: a reset leaves the port IDLE at its reset value, with chip select at its level (log 2). -/
theorem resetEvent_portKept : PortKept (resetEvent s) :=
  (portKept_idle rfl).2 ⟨Nat.zero_le _, rfl⟩

theorem resetEndEvent_portKept : PortKept (resetEndEvent s) := by
  obtain ⟨bound, timer, selected, -, window⟩ := h
  exact ⟨bound, timer, selected, nofun, window⟩

/-! ## Host commands, as their actions on the wire -/

theorem openWith_portKept (code : Byte) : PortKept (openWith code s) := by
  unfold openWith
  split
  · exact takeByte_portKept code (chipFall_portKept h)
  · exact takeByte_portKept code h
  · exact takeByte_portKept code (chipFall_portKept (chipRise_portKept h))

theorem hostRead_portKept (code : Byte) (params : List Byte) : PortKept (hostRead code params s) := by
  unfold hostRead
  split
  · exact takeBytes_portKept _ h
  · exact takeBytes_portKept _ (openWith_portKept h code)

theorem openAndRise_portKept (code : Byte) (bytes : List Byte) :
    PortKept (chipRise (takeBytes (openWith code s) bytes)) :=
  chipRise_portKept (takeBytes_portKept bytes (openWith_portKept h code))

theorem hostWrite_portKept (code : Byte) (body : List Byte) : PortKept (hostWrite code body s) := by
  unfold hostWrite
  split
  · exact chipRise_portKept h
  · exact openAndRise_portKept h code body

theorem emptyTransactionEvent_portKept : PortKept (emptyTransactionEvent s) := by
  unfold emptyTransactionEvent
  split
  · exact chipRise_portKept (chipFall_portKept h)
  · exact chipRise_portKept h
  · exact chipRise_portKept (chipFall_portKept (chipRise_portKept h))

theorem berthEvent_portKept (f : Berth → Berth) : PortKept (berthEvent f s) :=
  portKept_of_port (berthEvent_port f s) h

/-! ## Steps -/

theorem exec_portKept (i : Instr) {t : State} (e : exec i s = .next t) : PortKept t := by
  cases i <;> cases e
  case powerOn | pinReset => exact resetEvent_portKept
  case resetEnd => exact resetEndEvent_portKept h
  case chipSelectFall => exact chipFall_portKept h
  case chipSelectRise => exact chipRise_portKept h
  case byteTaken => exact takeByte_portKept _ h
  case transactionTimeout => exact portTimeoutEvent_portKept h _
  case emptyTransaction => exact emptyTransactionEvent_portKept h
  case unassignedCommand => exact openAndRise_portKept h _ _
  case status | readTicket | find | readCrane | readStand | readHolding | readGang | readTask | readClaims | readStation
    | readRule | readClock | readNotices | readConfig => exact hostRead_portKept h _ _
  case load | amend | release | hold | cancel | retire | forceDone | forceBack | craneHalt | craneResume | craneMode
    | laneSet | truckVerify | truckRemove | gangDuty | gangServe | gangRoster | gangClear | ruleWrite | clockSet
    | clockAdjust | clockRun | clockStop | noticeClear | noticeEnable | modeSetRun | modeSetConfig | modeSetMonitor
    | configWrite | partition | clearTables => exact hostWrite_portKept h _ _
  all_goals exact berthEvent_portKept h _

end

/-- Settles O60: an empty queue idles the part, and every command keeps the bounds. -/
theorem portStaysBounded : Obligations.PortStaysBounded := by
  intro s t h e
  unfold step at e
  split at e
  · cases e; exact h
  · exact exec_portKept (by exact h) _ e

end Sys2Proof.Machine

/-! # Reads from a ready port (R183, R184, R185; O5) -/

namespace Sys2Proof.Machine

/-- A read whose parameters are complete holds its owner's window as its snapshot (R183). -/
theorem hostRead_snapshot {s : State} {params snapshot : List Byte} (ready : PortReady s) (code : Byte)
    (complete : readParams? code = some params.length)
    (copies : snapshotOf code params s.port.result s.berth = snapshot) :
    (.next (hostRead code params s) : Outcome) = .next (readDone code params snapshot s) := by
  subst copies
  cases params with
  | nil => rw [hostRead_ready_nil ready complete]
  | cons x xs => rw [hostRead_ready ready complete (List.cons_ne_nil x xs)]

theorem snapshotOf_readTicket (n : TicketNo) (r : Result) (b : Berth) :
    snapshotOf 0x02 (bytes16 n) r b = ticketWindow b n :=
  congrArg (ticketWindow b) (word16At_bytes16_nil n)

theorem snapshotOf_readTask (n : TaskNo) (r : Result) (b : Berth) : snapshotOf 0x08 (bytes16 n) r b = taskWindow b n :=
  congrArg (taskWindow b) (word16At_bytes16_nil n)

/-- FIND's container is the eleven bytes after the ticket number and the two sets. -/
theorem snapshotOf_find (after : TicketNo) (states cranes : Byte) {container : List Byte} (long : container.length = 11)
    (r : Result) (b : Berth) : snapshotOf 0x03 (bytes16 after ++ [states, cranes] ++ container) r b =
      bytes16 (findNumber b after states cranes container) := by
  have number : word16At (bytes16 after ++ [states, cranes] ++ container) 0 = after := bytes16_join after
  have name : slice (bytes16 after ++ [states, cranes] ++ container) 4 11 = container :=
    long ▸ List.take_length (l := container)
  show bytes16 (findNumber b (word16At _ 0) states cranes (slice _ 4 11)) = _
  rw [number, name]

/-- Settles O5, read by read: the code's parameters are complete, and the snapshot is its owner's window. -/
theorem readsSnapshotTheirRecord : Obligations.ReadsSnapshotTheirRecord := by
  intro s ready
  refine ⟨?status, fun n => ?ticket, fun after states cranes container long => ?find, fun x => ?crane, fun x => ?stand,
    fun x => ?holding, fun x => ?gang, fun n => ?task, ?claims, fun x => ?station, fun x => ?rule, ?clock, ?notices, ?config⟩
  case status => exact hostRead_snapshot ready 0x01 rfl rfl
  case ticket => exact hostRead_snapshot ready 0x02 rfl (snapshotOf_readTicket ..)
  case find =>
    exact hostRead_snapshot ready 0x03 (by rw [List.length_append, long]; rfl) (snapshotOf_find after states cranes long ..)
  case crane => exact hostRead_snapshot ready 0x04 rfl rfl
  case stand => exact hostRead_snapshot ready 0x05 rfl rfl
  case holding => exact hostRead_snapshot ready 0x06 rfl rfl
  case gang => exact hostRead_snapshot ready 0x07 rfl rfl
  case task => exact hostRead_snapshot ready 0x08 rfl (snapshotOf_readTask ..)
  case claims => exact hostRead_snapshot ready 0x09 rfl rfl
  case station => exact hostRead_snapshot ready 0x0A rfl rfl
  case rule => exact hostRead_snapshot ready 0x0B rfl rfl
  case clock => exact hostRead_snapshot ready 0x0C rfl rfl
  case notices => exact hostRead_snapshot ready 0x0D rfl rfl
  case config => exact hostRead_snapshot ready 0x0E rfl rfl

end Sys2Proof.Machine

/-! # Framing: chip select, bytes and empty transactions (R181, R184 to R187, R189, R198; O8, O9) -/

namespace Sys2Proof.Machine

/-- log 1: a write command that meets its own code already staged is the rise alone. -/
theorem hostWrite_staged {s : State} {code : Byte} (staging : s.port.state = .staging) (same : s.port.command = code)
    (body : List Byte) : (.next (hostWrite code body s) : Outcome) = exec .chipSelectRise s :=
  congrArg Host.Outcome.next (if_pos ⟨staging, same⟩)

/-- Settles O8, by the equation of each action in each state. -/
theorem framingEvents : Obligations.FramingEvents := by
  refine ⟨⟨fun s ready => ⟨_, congrArg Host.Outcome.next (chipFall_ready ready), rfl, rfl, rfl, rfl, rfl, rfl⟩,
    ⟨fun s w x live window held => ?_, fun s x lo hi live staging lengths => ?_⟩, fun s live low state => ?_⟩,
    fun s live low => ⟨fun staging b r applies => ?_, fun discard => ?_⟩, fun s body staging => ?_⟩
  · refine congrArg Host.Outcome.next ((takeByte_window live x window).trans ?_)
    rw [takeWindow_held held]
  · refine congrArg Host.Outcome.next ((takeByte_staging live x staging).trans ?_)
    rw [takeBody_upTo lengths]
  · have staging : s.port.state ≠ .staging := ne_of_mem_of_not_mem state (by decide)
    have discard : s.port.state ≠ .discard := ne_of_mem_of_not_mem state (by decide)
    exact ⟨_, congrArg Host.Outcome.next (chipRise_unapplied live low staging discard), rfl, rfl, rfl, rfl⟩
  · exact congrArg Host.Outcome.next (chipRise_staging live low staging applies)
  · exact congrArg Host.Outcome.next (chipRise_discard live low discard)
  · exact ⟨fun same => hostWrite_staged staging same body, fun same => hostWrite_staged staging same body,
      fun same => hostWrite_staged staging same body, fun same => hostWrite_staged staging same body⟩

/-- The empty transaction of a ready port is a fall and a rise. -/
theorem emptyTransactionEvent_ready {s : State} (ready : PortReady s) :
    emptyTransactionEvent s = { s with port := (chipFall s).port.ended } := by
  obtain ⟨live, idle, high⟩ := ready
  have fallen := chipFall_ready ⟨live, idle, high⟩
  have rises : emptyTransactionEvent s = chipRise (chipFall s) := by rw [emptyTransactionEvent, idle, high]
  rw [rises, fallen]
  exact chipRise_unapplied live rfl nofun nofun

/-- Settles O9, for the one event and for the rise in COMMAND. -/
theorem emptyTransactionIsWithoutEffect : Obligations.EmptyTransactionIsWithoutEffect := by
  refine ⟨fun s ready => ?_, fun s live low command => ?_⟩
  · refine ⟨_, congrArg Host.Outcome.next (emptyTransactionEvent_ready ready), rfl, ?_, rfl, rfl, ?_⟩
    all_goals rw [chipFall_ready ready]; rfl
  · exact ⟨_, congrArg Host.Outcome.next (chipRise_unapplied live low (by simp [command]) (by simp [command])),
      rfl, rfl, rfl, rfl, rfl⟩

end Sys2Proof.Machine

/-! # Framing failures (R187, R189, R190, R191; O10) -/

namespace Sys2Proof.Machine

/-! ## Writes refused before their owner -/

/-- R187: a body below the minimum. -/
theorem applyWrite_short {code : Byte} {body : List Byte} {lo hi : Nat} (b : Berth)
    (lengths : writeLengths? code = some (lo, hi)) (short : body.length < lo) :
    applyWrite code body b = (b, { code := .badCommand, entity := 0, detail := natByte body.length }) := by
  rw [applyWrite, lengths]
  exact if_pos short

/-- R190: a body long enough, in a mode that refuses its command. -/
theorem applyWrite_refused {code : Byte} {body : List Byte} {b : Berth} {lo hi : Nat} {rc : ResultCode}
    (lengths : writeLengths? code = some (lo, hi)) (long : lo ≤ body.length) (refused : modeRefusal code b.mode = some rc) :
    applyWrite code body b = (b, { code := rc, entity := 0, detail := 0 }) := by
  have enough : ¬ body.length < ((writeLengths? code).map (·.1)).getD 0 := by simpa [lengths] using long
  rw [applyWrite, if_neg enough, refused]

/-- R190: the configuration writes are taken in CONFIG alone. -/
theorem modeRefusal_config {m : Mode} (mode : m ≠ .config) : ∀ code ∈ [(0x61 : Byte), 0x62, 0x63],
    modeRefusal code m = some .notConfig := by
  cases m
  case config => exact absurd rfl mode
  case run | monitor => decide

/-- R190: LANE_SET and the gang writes are taken in RUN alone. -/
theorem modeRefusal_run {m : Mode} (mode : m ≠ .run) : ∀ code ∈ [(0x38 : Byte), 0x40, 0x41, 0x42],
    modeRefusal code m = some .notRunning ∧ writeLengths? code = some (2, 2) := by
  cases m
  case run => exact absurd rfl mode
  case config | monitor => decide

/-! ## Codes assigned to no command (R189) -/

theorem unassigned_wf_iff : ∀ code : Byte, ((Instr.unassignedCommand code []).wf = true) ↔
    readParams? code = none ∧ writeLengths? code = none := by decide

/-- An unassigned code from a ready port puts the transaction in DISCARD. -/
theorem openWith_unassigned {code : Byte} {s : State} (ready : PortReady s) (notRead : readParams? code = none)
    (notWrite : writeLengths? code = none) : openWith code s = { s with port := { s.port with
      selected := true, state := .discard, command := code, params := [], staged := [], snapshot := none, position := 0,
      timer := true, modeAtFall := s.berth.mode, miso := some s.berth.mode.code, misoHeld := none } } := by
  obtain ⟨live, idle, high⟩ := ready
  have opens : openWith code s = takeByte (chipFall s) code := by rw [openWith, idle, high]
  rw [opens, chipFall_ready ⟨live, idle, high⟩]
  simp [takeByte, live, takeCommand, notRead, notWrite]

/-- R189: the bytes that follow an unassigned code are disregarded; MISO alone shows them. -/
theorem takeBytes_discard (l : List Byte) {s : State} (live : s.port.inReset = false) (discard : s.port.state = .discard) :
    ∃ m, takeBytes s l = { s with port := { s.port with miso := m } } := by
  induction l generalizing s with
  | nil => exact ⟨_, rfl⟩
  | cons x xs ih =>
    obtain ⟨m, later⟩ := ih (s := { s with port := { s.port with miso := some 0 } }) live discard
    exact ⟨m, (congrArg (takeBytes · xs) (takeByte_discard live x discard)).trans later⟩

theorem chipRise_takeBytes_discard {s : State} (live : s.port.inReset = false) (low : s.port.selected = true)
    (discard : s.port.state = .discard) (bytes : List Byte) : chipRise (takeBytes s bytes) = { s with
      port := { s.port.ended with
        result := resultOf s.port.command { code := .badCommand, entity := 0, detail := 0xFF } s.berth } } := by
  obtain ⟨m, disregarded⟩ := takeBytes_discard bytes live discard
  rw [disregarded]
  exact chipRise_discard (s := { s with port := { s.port with miso := m } }) live low discard

/-- Settles O10: the timeout of an open transaction, the refusals before the owner, and the unassigned codes. -/
theorem framingFailures : Obligations.FramingFailures := by
  refine ⟨fun s p state => ?_, ⟨fun code body b lo hi => applyWrite_short b, fun body b mode => ?_,
    fun code body b mode write two => ?_⟩, fun s code bytes ready unassigned => ?_⟩
  · have opened : s.port.state ≠ .idle := ne_of_mem_of_not_mem state (by decide)
    have live : s.port.state ≠ .abandoned := ne_of_mem_of_not_mem state (by decide)
    exact ⟨_, congrArg Host.Outcome.next (portTimeoutEvent_open p opened live), rfl, rfl, rfl, rfl, rfl, rfl⟩
  · have refused := modeRefusal_config mode
    exact ⟨fun six => applyWrite_refused rfl six.ge (refused 0x61 (by simp)),
      fun five => applyWrite_refused rfl five.ge (refused 0x62 (by simp)),
      applyWrite_refused rfl (Nat.le_refl 0) (refused 0x63 (by simp))⟩
  · obtain ⟨refused, lengths⟩ := modeRefusal_run mode code write
    exact applyWrite_refused lengths two.ge refused
  · obtain ⟨notRead, notWrite⟩ := (unassigned_wf_iff code).1 unassigned
    have opened := openWith_unassigned ready notRead notWrite
    obtain ⟨live, -, -⟩ := ready
    have rises := chipRise_takeBytes_discard (s := openWith code s) (by rw [opened]; exact live) (by rw [opened])
      (by rw [opened]) bytes
    refine ⟨_, congrArg Host.Outcome.next rises, ?_⟩
    rw [opened]
    exact ⟨rfl, rfl, rfl⟩

end Sys2Proof.Machine

/-! # The level notices (R199, R200, R206; O55)

Every change of the berth that touches what a level condition speaks of ends with `settle`, which evaluates the four level
causes.  What remains leaves the raw bits of the level causes and the records of their conditions as they were. -/

namespace Sys2Proof.Machine

/-! ## Sets of causes -/

/-- 9.1: the causes 8 to 11 are the level causes, the others are the edge causes. -/
theorem getLsbD_edgeCauses : ∀ i : Fin 16, edgeCauses.getLsbD i.val = !(8 ≤ i.val && i.val ≤ 11) := by decide

theorem not_edgeCauses : ~~~edgeCauses = levelCauses := by decide

/-- R203: the clearing of causes named in a set of edge causes keeps every bit of a level cause. -/
theorem clear_and_levelCauses (raw set : BitVec 16) :
    raw &&& ~~~(set &&& edgeCauses) &&& levelCauses = raw &&& levelCauses := by
  refine BitVec.eq_of_getLsbD_eq fun i hi => ?_
  simp only [← not_edgeCauses, BitVec.getLsbD_and, BitVec.getLsbD_not]
  cases edgeCauses.getLsbD i <;> simp

/-- R199: a raised edge cause keeps every bit of a level cause. -/
theorem raised_and_levelCauses {cause : BitVec 16} (raw : BitVec 16) (edge : cause &&& levelCauses = 0) :
    (raw ||| cause) &&& levelCauses = raw &&& levelCauses := by
  rw [BitVec.and_or_distrib_right, edge]
  exact BitVec.or_zero

/-! ## What the level notices show and what they speak of -/

/-- The raw bits of the level causes, and the level causes whose conditions hold. -/
def Berth.levelNotices (b : Berth) : BitVec 16 × BitVec 16 := (b.nu.raw &&& levelCauses, b.levels)

/-- `LevelsAgree` of a berth (R200). -/
def LevelsShown (b : Berth) : Prop := b.levelNotices.1 = b.levelNotices.2

theorem levelsAgree_iff (s : State) : LevelsAgree s ↔ LevelsShown s.berth := Iff.rfl

theorem raise_levelNotices {cause : BitVec 16} (b : Berth) (edge : cause &&& levelCauses = 0) :
    (b.raise cause).levelNotices = b.levelNotices :=
  congrArg (·, b.levels) (raised_and_levelCauses b.nu.raw edge)

@[simp] theorem setSent_levelNotices (b : Berth) (x : Option (List Byte)) : (b.setSent x).levelNotices = b.levelNotices := rfl

@[simp] theorem setWindow_levelNotices (b : Berth) (x : Option Station) : (b.setWindow x).levelNotices = b.levelNotices := rfl

theorem starveCheck_levelNotices (b : Berth) (c : Crane) : (starveCheck b c).levelNotices = b.levelNotices := by
  unfold starveCheck
  split
  · exact (raise_levelNotices _ (by decide)).trans rfl
  · rfl

/-- R174: an order put in flight names the tag it named. -/
theorem launch_promoting (b : Berth) (s : Station) (tag : Tag) : (launch b s).promoting tag = b.promoting tag := by
  unfold launch
  split
  case h_3 =>
    show (b.qlc.promotes.modifyHead Order.fly).any _ = b.qlc.promotes.any _
    cases b.qlc.promotes <;> rfl
  all_goals rfl

theorem launch_levelNotices (b : Berth) (s : Station) : (launch b s).levelNotices = b.levelNotices := by
  have promoting : (launch b s).promoting = b.promoting := funext (launch_promoting b s)
  have occupancy : (launch b s).occupancy = b.occupancy := by
    unfold Berth.occupancy Berth.promotingCount
    rw [promoting]
    unfold launch
    split <;> rfl
  unfold Berth.levelNotices Berth.levels
  rw [occupancy]
  unfold launch
  split <;> rfl

/-! ## Changes that end with an evaluation -/

theorem settle_levelsShown (b : Berth) : LevelsShown (settle b) := evalLevels_agree _

namespace LevelsShown

variable {b b' : Berth} (h : LevelsShown b)
include h

theorem congr (e : b'.levelNotices = b.levelNotices) : LevelsShown b' := by
  unfold LevelsShown
  rw [e]
  exact h

theorem raise {cause : BitVec 16} (edge : cause &&& levelCauses = 0) : LevelsShown (b.raise cause) :=
  h.congr (raise_levelNotices b edge)

theorem settleIf : LevelsShown (settleIf b b') := by
  unfold Machine.settleIf
  split
  · exact h
  · exact settle_levelsShown b'

/-! ## Events of quay time -/

theorem clockStep : LevelsShown (clockStep b) := by
  unfold Machine.clockStep
  split
  · exact settle_levelsShown _
  · exact h

theorem expiryEvent (c : Crane) : LevelsShown (expiryEvent c b) := by
  unfold Machine.expiryEvent
  split
  · exact settle_levelsShown _
  · exact h

theorem lateEvent (n : TicketNo) : LevelsShown (lateEvent n b) := by
  unfold Machine.lateEvent
  split
  · exact settle_levelsShown _
  · exact h

theorem boundaryEvent : LevelsShown (boundaryEvent b) := by
  unfold Machine.boundaryEvent
  split
  · exact settle_levelsShown _
  · exact h

/-! ## Ticket commands -/

theorem ownLoad (body : List Byte) : LevelsShown (ownLoad b body).1 := by
  unfold Machine.ownLoad
  dsimp only
  split; · exact h
  split; · exact h
  split; · exact h
  split; · exact h
  split
  · exact settle_levelsShown _
  · split
    · exact settle_levelsShown _
    · exact h

theorem ownAmend (body : List Byte) : LevelsShown (ownAmend b body).1 := by
  unfold Machine.ownAmend
  dsimp only
  split; · exact h
  split; · exact h
  split; · exact h
  split; · exact h
  split; · exact h
  split; · exact h
  exact settle_levelsShown _

theorem ownRelease (body : List Byte) : LevelsShown (ownRelease b body).1 := by
  unfold Machine.ownRelease
  dsimp only
  split; · exact h
  split; · exact h
  split
  · exact settle_levelsShown _
  · exact h

theorem ownHold (body : List Byte) : LevelsShown (ownHold b body).1 := by
  unfold Machine.ownHold
  dsimp only
  split; · exact h
  split
  case h_2 | h_3 => exact settle_levelsShown _
  all_goals exact h

theorem ownCancel (body : List Byte) : LevelsShown (ownCancel b body).1 := by
  unfold Machine.ownCancel
  dsimp only
  split; · exact h
  split
  case h_1 | h_2 | h_3 => exact settle_levelsShown _
  all_goals exact h

theorem ownRetire (body : List Byte) : LevelsShown (ownRetire b body).1 := by
  unfold Machine.ownRetire
  dsimp only
  split; · exact h
  split; · exact h
  exact settle_levelsShown _

theorem ownForce (body : List Byte) : LevelsShown (ownForce b body).1 := by
  unfold Machine.ownForce
  dsimp only
  split; · exact h
  split; · exact h
  split; · exact h
  split <;> exact settle_levelsShown _

/-! ## Crane, lane, truck and rule commands -/

theorem ownCraneHalt (body : List Byte) : LevelsShown (ownCraneHalt b body).1 := by
  unfold Machine.ownCraneHalt
  split
  · exact h
  · exact settle_levelsShown _

/-- R56: a resumed crane is spoken of by no level condition. -/
theorem ownCraneResume (body : List Byte) : LevelsShown (ownCraneResume b body).1 := by
  unfold Machine.ownCraneResume
  split
  · exact h
  · exact h.congr rfl

theorem ownCraneMode (body : List Byte) : LevelsShown (ownCraneMode b body).1 := by
  unfold Machine.ownCraneMode
  split
  · exact settle_levelsShown _
  · exact h

theorem ownLaneSet (body : List Byte) : LevelsShown (ownLaneSet b body).1 := by
  unfold Machine.ownLaneSet
  split
  · split
    · exact h
    · exact settle_levelsShown _
  · exact h

theorem ownTruckRemove (body : List Byte) : LevelsShown (ownTruckRemove b body).1 := by
  unfold Machine.ownTruckRemove
  split
  · exact h
  · exact settle_levelsShown _

theorem ownTruckVerify (body : List Byte) : LevelsShown (ownTruckVerify b body).1 := by
  unfold Machine.ownTruckVerify
  split
  · exact h
  · exact settle_levelsShown _

/-- R97: a rule is spoken of by no level condition. -/
theorem ownRuleWrite (body : List Byte) : LevelsShown (ownRuleWrite b body).1 := by
  unfold Machine.ownRuleWrite
  dsimp only
  split
  · split
    · exact h
    · exact h.congr rfl
  · exact h

/-! ## Gang commands -/

theorem ownGangDuty (body : List Byte) : LevelsShown (ownGangDuty b body).1 := by
  unfold Machine.ownGangDuty
  split
  · exact settle_levelsShown _
  · exact h

theorem ownGangServe (body : List Byte) : LevelsShown (ownGangServe b body).1 := by
  unfold Machine.ownGangServe
  split
  · exact settle_levelsShown _
  · exact h

theorem ownGangRoster (body : List Byte) : LevelsShown (ownGangRoster b body).1 := by
  unfold Machine.ownGangRoster
  split
  · split
    · exact settle_levelsShown _
    · exact h
  · exact h

theorem ownGangClear (body : List Byte) : LevelsShown (ownGangClear b body).1 := by
  unfold Machine.ownGangClear
  split
  · split
    · exact settle_levelsShown _
    · exact h
  · exact h

/-! ## Clock, notice, mode and configuration commands -/

theorem ownClockSet (body : List Byte) : LevelsShown (ownClockSet b body).1 := by
  unfold Machine.ownClockSet
  extract_lets six
  split
  · exact h
  · exact settle_levelsShown _

theorem ownClockAdjust (body : List Byte) : LevelsShown (ownClockAdjust b body).1 := by
  unfold Machine.ownClockAdjust
  dsimp only
  split; · exact h
  split; · exact h
  exact settle_levelsShown _

theorem ownClockRun : LevelsShown (ownClockRun b).1 := by
  unfold Machine.ownClockRun
  split
  · exact h
  · exact settle_levelsShown _

theorem ownNoticeClear (body : List Byte) : LevelsShown (ownNoticeClear b body).1 :=
  h.congr (congrArg (·, b.levels) (clear_and_levelCauses b.nu.raw _))

/-- R206: entering RUN and leaving it ends as a change of records does; the other moves change the mode and what the
stations are heard of. -/
theorem moveMode (m : Mode) : LevelsShown (moveMode b m).1 := by
  unfold Machine.moveMode
  dsimp only
  split
  case h_4 =>
    split
    · exact settle_levelsShown _
    · exact h
  case h_5 | h_7 => exact h.congr rfl
  case h_6 =>
    split
    · exact h
    · exact settle_levelsShown _
  all_goals exact h

theorem ownModeSet (body : List Byte) : LevelsShown (ownModeSet b body).1 := by
  unfold Machine.ownModeSet
  split
  · exact h
  · exact h.moveMode _

theorem ownConfigWrite (body : List Byte) : LevelsShown (ownConfigWrite b body).1 := by
  unfold Machine.ownConfigWrite
  dsimp only
  split; · exact h
  split; · exact h
  split; · exact h
  split; · exact h
  exact settle_levelsShown _

theorem ownPartition (body : List Byte) : LevelsShown (ownPartition b body).1 := by
  unfold Machine.ownPartition
  dsimp only
  split; · exact h
  split; · exact h
  split; · exact h
  exact settle_levelsShown _

/-- R145, R201: the running of the clock and the enable set are spoken of by no level condition. -/
theorem ownWrite (code : Byte) (body : List Byte) : LevelsShown (ownWrite code body b).1 := by
  unfold Machine.ownWrite
  split
  case h_1 => exact h.ownLoad body
  case h_2 => exact h.ownAmend body
  case h_3 => exact h.ownRelease body
  case h_4 => exact h.ownHold body
  case h_5 => exact h.ownCancel body
  case h_6 => exact h.ownRetire body
  case h_7 => exact h.ownForce body
  case h_8 => exact h.ownCraneHalt body
  case h_9 => exact h.ownCraneResume body
  case h_10 => exact h.ownCraneMode body
  case h_11 => exact h.ownLaneSet body
  case h_12 => exact h.ownTruckVerify body
  case h_13 => exact h.ownTruckRemove body
  case h_14 => exact h.ownGangDuty body
  case h_15 => exact h.ownGangServe body
  case h_16 => exact h.ownGangRoster body
  case h_17 => exact h.ownGangClear body
  case h_18 => exact h.ownRuleWrite body
  case h_19 => exact h.ownClockSet body
  case h_20 => exact h.ownClockAdjust body
  case h_21 => exact h.ownClockRun
  case h_22 | h_24 => exact h.congr rfl
  case h_23 => exact h.ownNoticeClear body
  case h_25 => exact h.ownModeSet body
  case h_26 => exact h.ownConfigWrite body
  case h_27 => exact h.ownPartition body
  case h_28 => exact settle_levelsShown (clearAll b)
  case h_29 => exact h

/-! ## Frames and orders -/

theorem sendReply (s : Station) (r : Reply) : LevelsShown (sendReply b s r) := h.congr (setSent_levelNotices ..)

theorem handFrame (s : Station) (kind : Byte) (body : List Byte) : LevelsShown (handFrame b s kind body) := by
  unfold Machine.handFrame
  split
  · exact h
  · exact h.settleIf.sendReply s _
  · exact h.settleIf.sendReply s _

/-- R164: a refused frame leaves LINK_ERROR raw and an answer where the mode has one. -/
theorem linkRefused (s : Station) (r : Reply) : LevelsShown (answer (b.raise linkError) s r) := by
  have raised : LevelsShown (b.raise linkError) := h.raise (by decide)
  unfold answer
  split
  · exact raised
  · exact raised.sendReply s r

theorem takeFrame (s : Station) (cls : BitVec 2) (kind : Byte) (body : List Byte) :
    LevelsShown (takeFrame b s cls kind body) := by
  unfold Machine.takeFrame
  split; · exact h.raise (by decide)
  split; · exact h.linkRefused s _
  split; · exact h.linkRefused s _
  exact h.handFrame s kind body

theorem goodFrame (s : Station) (cls : BitVec 2) (kind : Byte) (body : List Byte) :
    LevelsShown (goodFrame b s cls kind body) := by
  have heard : LevelsShown ((setHeard b s).setSent none) := h.congr rfl
  unfold Machine.goodFrame
  dsimp only
  split
  · split <;> exact settle_levelsShown _
  · exact heard.takeFrame s cls kind body

theorem badFrame : LevelsShown (badFrame b) := by
  have silent : LevelsShown (b.setSent none) := h.congr (setSent_levelNotices ..)
  unfold Machine.badFrame
  dsimp only
  split
  · exact settle_levelsShown _
  · exact silent.raise (by decide)

theorem windowClose : LevelsShown (windowClose b) := by
  unfold Machine.windowClose
  dsimp only
  split
  · exact settle_levelsShown _
  · exact h.congr (setSent_levelNotices ..)

theorem sendOrder (o : SendOutcome) : LevelsShown (sendOrder o b) := by
  have silent : LevelsShown (b.setSent none) := h.congr (setSent_levelNotices ..)
  unfold Machine.sendOrder
  dsimp only
  split
  · split
    · exact silent
    · split
      · exact silent
      · exact silent.congr (launch_levelNotices ..)
      · exact settle_levelsShown _
  · exact silent

end LevelsShown

/-! ## Every change of the berth -/

/-- R205: after a reset none of the four conditions holds, and their raw bits are clear. -/
theorem reset_levelsShown (k : Nat) : LevelsShown { Berth.reset with free := k } := by
  have shown : Berth.reset.levelNotices = (0, 0) := by decide +kernel
  have reset : ({ Berth.reset with free := k } : Berth).levelNotices = (0, 0) := shown
  rw [LevelsShown, reset]

/-- R200: no change of the berth leaves a level notice against its condition. -/
theorem levelsShown_events : KeptByEvents LevelsShown where
  reset := reset_levelsShown
  timeout h := h.raise (by decide)
  write code body h := h.ownWrite code body
  frame st cls kind body h := h.goodFrame st cls kind body
  noFrame h := h.badFrame
  close h := h.windowClose
  send o h := h.sendOrder o
  clock h := h.clockStep
  expiry c h := h.expiryEvent c
  late n h := h.lateEvent n
  starved c h := h.congr (starveCheck_levelNotices _ c)
  boundary h := h.boundaryEvent

/-- Settles O55: each change of the berth leaves the level notices as their conditions have them, and so every step does. -/
theorem levelsStayTrue : Obligations.LevelsStayTrue := by
  intro s t h e
  rw [levelsAgree_iff] at h ⊢
  exact levelsShown_events.step h e

end Sys2Proof.Machine

/-! # Notice commands and the flagged set (R199, R201, R202, R203; O26, O27) -/

namespace Sys2Proof.Machine

/-! ## Bits of a set of causes -/

/-- What is cleared of a set of causes holds none of its members. -/
theorem cleared_and_member {set cause : BitVec 16} (raw : BitVec 16) (member : cause &&& set = cause) :
    raw &&& ~~~set &&& cause = 0 := by
  have apart : ~~~set &&& set = 0#16 := by rw [BitVec.and_comm]; exact BitVec.and_not_self set
  calc raw &&& ~~~set &&& cause
      = raw &&& ~~~set &&& (set &&& cause) := by rw [BitVec.and_comm set cause, member]
    _ = raw &&& (~~~set &&& set) &&& cause := by simp only [BitVec.and_assoc]
    _ = 0 := by simp [apart]

theorem raised_and_cause (raw cause : BitVec 16) : (raw ||| cause) &&& cause = cause := by
  refine BitVec.eq_of_getLsbD_eq fun i _ => ?_
  rw [BitVec.getLsbD_and, BitVec.getLsbD_or]
  cases cause.getLsbD i <;> simp

theorem getLsbD_clear (raw set : BitVec 16) (i : Fin 16) : (raw &&& ~~~(set &&& edgeCauses)).getLsbD i.val =
    (raw.getLsbD i.val && !(set.getLsbD i.val && !(8 ≤ i.val && i.val ≤ 11))) := by
  rw [BitVec.getLsbD_and, BitVec.getLsbD_not, BitVec.getLsbD_and, getLsbD_edgeCauses, decide_eq_true i.isLt, Bool.true_and]

theorem getLsbD_flagged (n : Notices) (i : Nat) : n.flagged.getLsbD i = (n.raw.getLsbD i && n.enable.getLsbD i) :=
  BitVec.getLsbD_and ..

/-- A set of causes that is not empty has a member. -/
theorem ne_zero_iff_member {set : BitVec 16} : set ≠ 0 ↔ ∃ i : Fin 16, set.getLsbD i.val = true := by
  refine ⟨fun some_ => ?_, fun ⟨i, member⟩ empty => ?_⟩
  · by_contra none_
    refine some_ (BitVec.eq_of_getLsbD_eq fun i hi => ?_)
    have out : set.getLsbD i ≠ true := fun member => none_ ⟨⟨i, hi⟩, member⟩
    rw [Bool.eq_false_of_not_eq_true out, BitVec.ofNat_eq_ofNat, BitVec.getLsbD_zero]
  · rw [empty, BitVec.ofNat_eq_ofNat, BitVec.getLsbD_zero] at member
    exact absurd member (by decide)

/-! ## The two writes from a ready port -/

/-- R190: the notice writes are taken in every mode. -/
theorem modeRefusal_notices : ∀ m : Mode, modeRefusal 0x58 m = none ∧ modeRefusal 0x59 m = none := by
  intro m
  cases m <;> exact ⟨rfl, rfl⟩

theorem ownNoticeClear_set (b : Berth) (set : BitVec 16) : ownNoticeClear b (bytes16 set) =
    ({ b with nu := { b.nu with raw := b.nu.raw &&& ~~~(set &&& edgeCauses) } }, okRes) := by
  rw [ownNoticeClear, word16At_bytes16_nil]

theorem ownNoticeEnable_set (b : Berth) (set : BitVec 16) : ownNoticeEnable b (bytes16 set) =
    ({ b with nu := { b.nu with enable := set } }, okRes) := by
  rw [ownNoticeEnable, word16At_bytes16_nil]

theorem exec_noticeClear {s : State} (ready : PortReady s) (set : BitVec 16) : exec (.noticeClear (bytes16 set)) s =
    .next (applied 0x58 { s.berth with nu := { s.berth.nu with raw := s.berth.nu.raw &&& ~~~(set &&& edgeCauses) } }
      { code := .ok, entity := 0, detail := 0 } s) := by
  have own := ownNoticeClear_set s.berth set
  exact congrArg Host.Outcome.next
    (hostWrite_owned ready rfl rfl (Nat.le_refl 2) (Nat.le_refl 2) (modeRefusal_notices _).1 own)

theorem exec_noticeEnable {s : State} (ready : PortReady s) (set : BitVec 16) : exec (.noticeEnable (bytes16 set)) s =
    .next (applied 0x59 { s.berth with nu := { s.berth.nu with enable := set } }
      { code := .ok, entity := 0, detail := 0 } s) := by
  have own := ownNoticeEnable_set s.berth set
  exact congrArg Host.Outcome.next
    (hostWrite_owned ready rfl rfl (Nat.le_refl 2) (Nat.le_refl 2) (modeRefusal_notices _).2 own)

/-! ## NOTIFY -/

theorem notifyLow_iff_flagged (s : State) : notifyLow s = true ↔ s.port.inReset = false ∧ s.berth.nu.flagged ≠ 0 := by
  simp [notifyLow]

/-- R202, R220: NOTIFY is low exactly when no reset is asserted and some cause is raw and enabled. -/
theorem notifyLow_iff (s : State) : notifyLow s = true ↔ s.port.inReset = false
    ∧ ∃ i : Fin 16, s.berth.nu.raw.getLsbD i.val = true ∧ s.berth.nu.enable.getLsbD i.val = true := by
  simp only [notifyLow_iff_flagged, ne_zero_iff_member, getLsbD_flagged, Bool.and_eq_true]

/-! ## The obligations -/

/-- Settles O26: the write of a ready port, and the bits that a raise before or after it leaves. -/
theorem noticeClear : Obligations.NoticeClear := by
  refine ⟨fun s set ready => ⟨exec_noticeClear ready set, getLsbD_clear s.berth.nu.raw set⟩,
    fun raw set cause edge named => ⟨cleared_and_member _ ?_, raised_and_cause _ cause⟩⟩
  rw [← BitVec.and_assoc, named, edge]

/-- Settles O27: the write of a ready port, the raise, and the bits that make the flagged set and NOTIFY. -/
theorem noticeEnable : Obligations.NoticeEnable :=
  ⟨fun _ set ready => exec_noticeEnable ready set, fun _ _ => rfl, fun n i => getLsbD_flagged n i.val, notifyLow_iff⟩

end Sys2Proof.Machine

/-! # The invariants after a reset (R205, R220; O54) -/

namespace Sys2Proof.Machine

/-- Settles O54: the berth after a reset is the reset case of each induction over steps, and the port is IDLE. -/
theorem invariantsAtReset : Obligations.InvariantsAtReset := by
  have levels : LevelsShown State.reset.berth := levelsShown_events.reset 0
  have claims : ClaimsApart State.reset.berth := claimsApart_deck.reset 0
  have roll : RollKept State.reset.berth.roll := rollKept_events.reset 0
  have pool : PoolKept State.reset.berth := poolKept_events.reset 0
  have gangs : GangsInOrder State.reset.berth := gangsInOrder_deck.reset 0
  exact ⟨(levelsAgree_iff _).2 levels, (claimsKept_iff _).2 claims, (ticketsKept_iff _).2 roll, (tasksKept_iff _).2 pool,
    (gangsKept_iff _).2 gangs, (portKept_idle rfl).2 ⟨Nat.zero_le _, rfl⟩⟩

end Sys2Proof.Machine

/-! # Resets, and what no block takes while one is asserted (R220; O4) -/

namespace Sys2Proof.Machine

section

variable (s : State)

/-! ## The events of a reset -/

theorem exec_powerOn : exec .powerOn s = .next (resetEvent s) := rfl

theorem exec_pinReset : exec .pinReset s = .next (resetEvent s) := rfl

theorem exec_resetEnd : exec .resetEnd s = .next (resetEndEvent s) := rfl

end

/-! ## While the reset is asserted -/

/-- R220: the events that a reset bars: the quay link's, those of quay time, and a byte of the planning port. -/
def barredByReset : Instr → Bool
  | .hello _ | .ask _ | .standby _ | .position _ | .lockOn _ | .setDown _ | .abandon _ | .manual _ | .auto _ | .arrive _
  | .depart _ | .deckRequest _ | .taskDone _ | .offDeck _ | .lookupTicket _ | .lookupContainer _ | .lookupTag _
  | .discardedFrame _ | .reply _ | .replyWindowClose | .orderSend _ => true
  | .timeBaseStep | .grantExpiry _ | .ticketLate _ | .craneStarved _ | .shiftBoundary => true
  | .byteTaken _ => true
  | _ => false

section

variable {s : State} (reset : s.port.inReset = true)
include reset

theorem takeByte_inReset (x : Byte) : takeByte s x = s := by
  simp [takeByte, reset]

/-- A barred event is handed to the berth, or is a byte of the port, and neither takes it. -/
theorem exec_of_barredByReset {i : Instr} (barred : barredByReset i = true) : exec i s = .next s := by
  cases i
  case hello | ask | standby | position | lockOn | setDown | abandon | manual | auto | arrive | depart | deckRequest
    | taskDone | offDeck | lookupTicket | lookupContainer | lookupTag | discardedFrame | reply | replyWindowClose
    | orderSend | timeBaseStep | grantExpiry | ticketLate | craneStarved | shiftBoundary =>
    exact congrArg Host.Outcome.next (berthEvent_inReset _ s reset)
  case byteTaken x => exact congrArg Host.Outcome.next (takeByte_inReset reset x)
  all_goals exact absurd barred Bool.false_ne_true

end

/-- Settles O4: both resets are the one event of the port, and every event named is barred while it lasts. -/
theorem resetEvents : Obligations.ResetEvents := by
  refine ⟨⟨fun s => (exec_powerOn s).trans (exec_pinReset s).symm, exec_pinReset, exec_resetEnd⟩, fun s reset => ?_⟩
  have unmoved {i : Instr} : barredByReset i = true → exec i s = .next s := exec_of_barredByReset reset
  have frames {l : List Instr} (barred : l.all barredByReset = true) : ∀ i ∈ l, exec i s = .next s :=
    fun i listed => unmoved (List.all_eq_true.1 barred i listed)
  exact ⟨fun _ => frames rfl, fun _ => unmoved rfl, unmoved rfl, unmoved rfl, fun _ => ⟨unmoved rfl, unmoved rfl⟩,
    fun _ => unmoved rfl, unmoved rfl, fun _ => unmoved rfl, fun _ => unmoved rfl⟩

end Sys2Proof.Machine

/-! # The queue: a step takes its front, and no command touches it (00_scope.md; O1, O2) -/

namespace Sys2Proof.Machine

/-! ## A step -/

theorem step_cons (c : Instr) (s : State) : step { s with pending := c :: s.pending } = exec c s := rfl

theorem step_empty {s : State} (empty : s.pending = []) : step s = .next s := by
  simp only [step, empty]

/-- Settles O1: the two branches of a step, a command in front and the empty queue. -/
theorem stepRunsFront : Obligations.StepRunsFront := ⟨step_cons, fun _ => step_empty⟩

/-! ## A command -/

/-- R220: a reset writes the berth and the port; the events that wait stay. -/
@[simp] theorem resetEvent_pending (s : State) : (resetEvent s).pending = s.pending := rfl

@[simp] theorem resetEndEvent_pending (s : State) : (resetEndEvent s).pending = s.pending := rfl

theorem openAndRise_pending (code : Byte) (bytes : List Byte) (s : State) :
    (chipRise (takeBytes (openWith code s) bytes)).pending = s.pending := by
  rw [chipRise_pending, takeBytes_pending, openWith_pending]

/-- Settles O2: every arm of exec is an action of the wire, an event of the berth or one of a reset, and each leaves the
queue as it was. -/
theorem everyCommandHasANextState : Obligations.EveryCommandHasANextState := by
  intro i s
  cases i
  case powerOn | pinReset => exact ⟨_, rfl, resetEvent_pending s⟩
  case resetEnd => exact ⟨_, rfl, resetEndEvent_pending s⟩
  case chipSelectFall => exact ⟨_, rfl, chipFall_pending s⟩
  case chipSelectRise => exact ⟨_, rfl, chipRise_pending s⟩
  case byteTaken x => exact ⟨_, rfl, takeByte_pending s x⟩
  case transactionTimeout p => exact ⟨_, rfl, portTimeoutEvent_pending p s⟩
  case emptyTransaction => exact ⟨_, rfl, emptyTransactionEvent_pending s⟩
  case unassignedCommand code bytes => exact ⟨_, rfl, openAndRise_pending code bytes s⟩
  case status | readTicket | find | readCrane | readStand | readHolding | readGang | readTask | readClaims | readStation
    | readRule | readClock | readNotices | readConfig => exact ⟨_, rfl, hostRead_pending _ _ s⟩
  case load | amend | release | hold | cancel | retire | forceDone | forceBack | craneHalt | craneResume | craneMode
    | laneSet | truckVerify | truckRemove | gangDuty | gangServe | gangRoster | gangClear | ruleWrite | clockSet
    | clockAdjust | clockRun | clockStop | noticeClear | noticeEnable | modeSetRun | modeSetConfig | modeSetMonitor
    | configWrite | partition | clearTables => exact ⟨_, rfl, hostWrite_pending _ _ s⟩
  case hello | ask | standby | position | lockOn | setDown | abandon | manual | auto | arrive | depart | deckRequest
    | taskDone | offDeck | lookupTicket | lookupContainer | lookupTag | discardedFrame | reply | replyWindowClose
    | orderSend | timeBaseStep | grantExpiry | ticketLate | craneStarved | shiftBoundary =>
    exact ⟨_, rfl, berthEvent_pending _ s⟩

end Sys2Proof.Machine
